-- ==== Sys2Proof/Machine/Tbl.lean ====
section
/-! DEFINITION. Sparse tables in one canonical form: a list of (key, value) pairs, keys strictly rising, and
(for tables with a default) no entry equal to the default, so that equal contents are equal data. -/
namespace Sys2Proof.Machine

/-- A table key: three numbers, compared lexicographically. -/
structure Key where
  a : Nat
  b : Nat := 0
  c : Nat := 0
  deriving DecidableEq, Repr

/-- Lexicographic order of keys. -/
def Key.lt (x y : Key) : Bool :=
  x.a < y.a || (x.a == y.a && (x.b < y.b || (x.b == y.b && x.c < y.c)))

/-- A sparse table. -/
structure Tbl (α : Type) where
  cells : List (Key × α)
  deriving DecidableEq, Repr

namespace Cells
variable {α : Type}

/-- The value listed under a key. -/
def find? : List (Key × α) → Key → Option α
  | [], _ => none
  | (j, v) :: t, k => if j = k then some v else find? t k

/-- The list without a key. -/
def erase : List (Key × α) → Key → List (Key × α)
  | [], _ => []
  | (j, v) :: t, k => if j = k then erase t k else (j, v) :: erase t k

/-- The list with a value under a key, in key order. -/
def insert : List (Key × α) → Key → α → List (Key × α)
  | [], k, x => [(k, x)]
  | (j, v) :: t, k, x =>
    if j = k then (k, x) :: t
    else if k.lt j then (k, x) :: (j, v) :: t
    else (j, v) :: insert t k x

/-- Keys strictly rising. -/
def sorted : List (Key × α) → Bool
  | [] => true
  | [_] => true
  | (j, _) :: (k, w) :: t => j.lt k && sorted ((k, w) :: t)

end Cells

namespace Tbl
variable {α : Type}

/-- The empty table. -/
def empty : Tbl α := ⟨[]⟩

/-- The value listed under a key, if any. -/
def find? (t : Tbl α) (k : Key) : Option α := Cells.find? t.cells k

/-- The table with a value listed under a key. -/
def put (t : Tbl α) (k : Key) (v : α) : Tbl α := ⟨Cells.insert t.cells k v⟩

/-- The table with nothing listed under a key. -/
def erase (t : Tbl α) (k : Key) : Tbl α := ⟨Cells.erase t.cells k⟩

/-- What a key reads as: the listed value, or the default `d k`. -/
def get (d : Key → α) (t : Tbl α) (k : Key) : α := (t.find? k).getD (d k)

/-- A write that keeps the canonical form: writing the default removes the entry. -/
def set [DecidableEq α] (d : Key → α) (t : Tbl α) (k : Key) (v : α) : Tbl α :=
  if v = d k then t.erase k else t.put k v

/-- The canonical form of a table with default `d`. -/
def wf [DecidableEq α] (d : Key → α) (t : Tbl α) : Bool :=
  Cells.sorted t.cells && t.cells.all (fun p => !decide (p.2 = d p.1))

/-- The listed values, in key order. -/
def vals (t : Tbl α) : List α := t.cells.map Prod.snd

/-- The table with the listed pairs that satisfy `p` kept. -/
def filter (t : Tbl α) (p : Key → α → Bool) : Tbl α := ⟨t.cells.filter (fun x => p x.1 x.2)⟩

/-- The table with every listed value mapped. -/
def map (t : Tbl α) (f : Key → α → α) : Tbl α := ⟨t.cells.map (fun x => (x.1, f x.1 x.2))⟩

/-- A listed value updated in place; a key not listed is left alone. -/
def modify (t : Tbl α) (k : Key) (f : α → α) : Tbl α :=
  match t.find? k with
  | none => t
  | some v => t.put k (f v)

end Tbl

/-- Counter tables: default zero. -/
abbrev NTbl := Tbl Nat

/-- Read of a table whose unlisted entries are 0. -/
def Tbl.num (t : Tbl Nat) (a : Nat) (b : Nat := 0) (c : Nat := 0) : Nat := t.get (fun _ => 0) ⟨a, b, c⟩

/-- Write of a table whose unlisted entries are 0. -/
def Tbl.setNum (t : Tbl Nat) (k : Key) (v : Nat) : Tbl Nat := t.set (fun _ => 0) k v

end Sys2Proof.Machine
end

