-- ==== Sys2Proof/Machine/Types.lean ====
section
/-! DEFINITION. The clock, stamps, event records, what the block sends out, and the requesters. -/
namespace Sys2Proof.Machine

/-- A slew in progress (R370): `rate` is r in units of 2^-48 ns × 10^-7, `amount` the signed amount in units of
2^-48 ns, `ticks` the ticks done. -/
structure Slew where
  ratePpm : Nat
  amount : Int
  ticks : Nat
  deriving DecidableEq, Repr

/-- The local clock of R355: seconds, nanoseconds, fraction (2^-48 ns); `fifth` is the part of 0.8 ns below
2^-48 ns that ticks have left over, in fifths of 2^-48 ns (log entry 3); `phys` counts CLK_TIME edges since cold
reset and never moves with a step or slew. -/
structure Clock where
  sec : Nat
  ns : Nat
  frac : Nat
  fifth : Nat
  phys : Nat
  slew : Option Slew
  deriving DecidableEq, Repr

/-- A TS96 stamp (R357): `frac` in units of 2^-16 ns. -/
structure Stamp where
  sec : Nat
  ns : Nat
  frac : Nat
  deriving DecidableEq, Repr

/-- An event record (R432). `data` lists (width in bits, value) in the order the raising rule names them. -/
structure EventRec where
  stamp : Stamp
  code : Nat
  sev : Nat
  inst : Nat
  kind : Nat
  lost : Nat
  seq : Nat
  data : List (Nat × Nat)
  phase : Bool
  deriving DecidableEq, Repr

/-- The pins the block drives. -/
inductive Pin where
  | intN | ppsOut | rclkOut0 | rclkOut1 | tripN | smbAlertN | pwrRdy
  deriving DecidableEq, Repr

/-- The byte field a Peal message carries beside its 64-bit header (R102, R104). -/
structure PealMsg where
  channel : Nat
  header : Nat
  body : List Byte
  /-- R103: 0 whole, 1 first, 2 middle, 3 last part. -/
  part : Nat := 0
  deriving DecidableEq, Repr

/-- A Peal cell (R102, R103): kind, sequence and ack numbers of its lane, and its messages. -/
structure Cell where
  kind : Nat
  seq : Nat
  ack : Nat
  msgs : List PealMsg
  deriving DecidableEq, Repr

/-- What leaves the block, oldest first in the outbox. -/
inductive Out where
  /-- A posted write to host memory. -/
  | hostWrite (addr : Nat) (bytes : List Byte)
  /-- An event record written to entry `slot` of an event ring at host address `addr` (R431). -/
  | event (ring slot addr : Nat) (rec : EventRec)
  /-- An MSI-X message (R426). -/
  | msix (vector : Nat) (addr : Nat) (data : Nat)
  /-- A completed register read (requester, value). -/
  | readData (req : Nat) (value : Nat)
  /-- An access completed with Unsupported Request (R37). -/
  | unsupported (req : Nat)
  /-- A frame sent on a port, with its egress stamp. -/
  | frame (port : Nat) (bytes : List Byte) (stamp : Stamp)
  /-- A MAC control frame (PAUSE or PFC) sent on a port: (priority, timer) pairs (R99). -/
  | macControl (port : Nat) (pfc : Bool) (timers : List (Nat × Nat))
  /-- A Peal cell sent on a lane (R101, R102). -/
  | cell (lane : Nat) (cell : Cell)
  /-- A lane or link level signal to the partner: Remote Fault, idle, training (R98). -/
  | laneSignal (lane : Nat) (signal : Nat)
  /-- A health probe of a backend (R272): source, destination, port, and 1 an ICMP echo, 2 a TCP SYN, 3 the RST that
  answers a SYN-ACK. -/
  | probe (src dst port kind : Nat)
  /-- A level of a pin. -/
  | pin (p : Pin) (level : Bool)
  /-- A read request to host memory. -/
  | hostRead (addr : Nat) (len : Nat)
  /-- A read of the NVM. -/
  | nvmRead (addr : Nat) (len : Nat)
  /-- An AVSBus command: rail, target in mV (R482). -/
  | avs (rail : Nat) (mv : Nat)
  /-- An error reported through PCIe AER (R427). -/
  | aer
  deriving DecidableEq, Repr

/-- Requesters of R38 and R56: 0 host, 1–8 control cores, 9 security core, 10 JTAG, 11 sideband, 12 distribution. -/
abbrev Requester := Fin 13

end Sys2Proof.Machine
end

