-- ==== Sys2Proof/Machine/TypesBuf.lean ====
section
/-! DEFINITION. Internal state of buffers, FIFOs, queues, shapers, gates and host rings (11, 12, 15). -/
namespace Sys2Proof.Machine

/-- A segment in use (R313, R317, R319, R322): references, owner (256: none), the ingress pipeline and priority
its charge counts on, its charge units there (0: none), 1 + edge of its last uncorrectable error, whether a second
one condemned it, and whether it is retired. -/
structure Seg where
  refs : Nat
  owner : Nat
  pipe : Nat
  prio : Nat
  units : Nat
  ueAt : Nat
  condemned : Bool
  retired : Bool
  deriving DecidableEq, Repr

/-- Answer to a segment request (R314, R315). -/
inductive Grant where
  | granted (handle : Nat)
  | quota
  | empty
  | retry
  deriving DecidableEq, Repr

/-- A request below its minimum that retries (R315): die, requester, pool, retries so far, the waiting
packet, if any, and the export records it carries. -/
structure SegRetry where
  die : Nat
  requester : Nat
  pool : Nat
  tries : Nat
  pkt : Option Nat
  recs : Nat
  deriving DecidableEq, Repr

/-- Buffer pool state: segments in use keyed (die, pool, index), requester warnings Q(r) keyed (die, requester),
and waiting retries. -/
structure BpmSt where
  segs : Tbl Seg
  reqWarn : Tbl Nat
  retries : List SegRetry
  deriving DecidableEq, Repr

/-- A word held in a FIFO. -/
structure FWord where
  data : Word
  poison : Bool
  deriving DecidableEq, Repr

/-- An item of a FIFO: producer slot, declared length in bytes (mode 1), words. -/
structure FItem where
  slot : Nat
  len : Nat
  words : List FWord
  deriving DecidableEq, Repr

/-- A FIFO beside its registers (R324–R331). `tail` is a producer whose remaining words are dropped: its slot and
the words left (0: up to the end bit). `reading` holds the words of the head item already read. -/
structure Fifo where
  whole : List FItem
  partialItem : Option FItem
  reading : List FWord
  lenRead : Bool
  tail : Option (Nat × Nat)
  lastWrite : Nat
  lastRead : Nat
  woken : Bool
  deriving DecidableEq, Repr

/-- A FIFO at reset. -/
def Fifo.init : Fifo := ⟨[], none, [], false, none, 0, 0, false⟩

/-- One-step request of a transmit descriptor (R364). -/
inductive OneStep where
  | none | origin | turnaround (t : Stamp)
  deriving DecidableEq, Repr

/-- A frame on its way out: queued on a leaf, being transmitted, or waiting for its capture point. -/
structure EFrame where
  /-- The packet it is a copy of, if any. -/
  pkt : Option Nat
  bytes : List Byte
  port : Nat
  tc : Nat
  colour : Nat
  /-- Segment handle and the owner recorded in the descriptor (R320). -/
  seg : Option (Nat × Nat)
  ingress : Option Stamp
  ingressPort : Nat
  stepEpoch : Nat
  enqTs48 : Nat
  /-- Offset of the PTP header as edited (R362), of the outermost IP header and whether it is IPv6. -/
  ptpOff : Option Nat
  ipOff : Option (Nat × Bool)
  udpOff : Option Nat
  hist : Option Nat
  ioam : Option (Nat × Nat)
  oneStep : OneStep
  native : Bool
  compat : Option Nat
  /-- Transmit ring and slot of the descriptor this frame completes. -/
  txRing : Option (Nat × Nat)
  /-- Egress port on the receiver of a frame for a Peal port (R410). -/
  remote : Option Nat
  deriving DecidableEq, Repr

/-- A frame picked by the scheduler: its egress stamp, whether PTP treatment used that stamp, and whether its FCS
is inverted (R322). -/
structure TxFrame where
  frame : EFrame
  stamp : Stamp
  epoch : Nat
  ptp : Bool
  badFcs : Bool
  deriving DecidableEq, Repr

/-- A token bucket: value in units of 1/16,000,000 byte as of a CLK_CORE edge (R341). -/
structure Bucket where
  value : Int
  at_ : Nat
  deriving DecidableEq, Repr

/-- A gate list in force or pending (R349–R352). Times in units of 2^-16 ns. -/
structure GateList where
  bank : Nat
  base : Nat
  cycle : Nat
  count : Nat
  ext : Nat
  deriving DecidableEq, Repr

/-- The gates of a port: the operating list, and the pending list with its change instant T. -/
structure GateSt where
  oper : Option GateList
  pend : Option (GateList × Nat)
  deriving DecidableEq, Repr

/-- Scheduling state. `leaf` (die, leaf) ↦ frames; `wire` port ↦ frames picked and not yet captured; `buckets`
(die, 2 × level + (0 max, 1 min), node), `deficit` (die, level, node), `round` (die, 8 × level + prio, node) ↦ child
whose turn it is, `gateWait` (die, leaf) ↦ 1 once its head's wait was counted, `gates` by port, `polBuckets`
(die, 2 × policer + (0 C, 1 E/P), 0). Level: 0 leaf, 1 class group, 2 port group, 3 port. -/
structure SchSt where
  leaf : Tbl (List EFrame)
  wire : Tbl (List TxFrame)
  buckets : Tbl Bucket
  deficit : Tbl Int
  round : Tbl Nat
  gateWait : Tbl Nat
  gates : Tbl GateSt
  polBuckets : Tbl Bucket
  deriving DecidableEq, Repr

/-- A port's bandwidth window in progress (R299): start edge, start second, frames and bytes each way, whether it
is a full window, the length in µs in force. -/
structure BwWin where
  rxBytes : Nat
  txBytes : Nat
  rxFrames : Nat
  txFrames : Nat
  start : Nat
  cut : Bool
  windowUs : Nat
  wire : Bool
  deriving DecidableEq, Repr

/-- A bandwidth window at reset. -/
def BwWin.init : BwWin := ⟨0, 0, 0, 0, 0, false, 1000, false⟩

/-- A fetched transmit descriptor not yet written back: its slot, its frame's length with the FCS, its completion (status, egress stamp) once
known (R425). -/
structure TxSlot where
  slot : Nat
  len : Nat
  result : Option (Nat × Option Stamp)
  deriving DecidableEq, Repr

/-- What the read of a frame from the packet buffer met (R322): nothing, an uncorrectable error before the frame
starts, or one after. -/
inductive BufRead where
  | good | badBefore | badAfter
  deriving DecidableEq, Repr

/-- A transmit descriptor and its frame without FCS (R424). `reservedOk`: every reserved bit is zero. -/
structure TxDesc where
  frame : List Byte
  length : BitVec 16
  port : Fin 512
  tc : Fin 8
  start : BitVec 12
  compatId : BitVec 16
  stamp : Stamp
  oneStep : Fin 4
  native : Bool
  compat : Bool
  ptpOff : BitVec 16
  reservedOk : Bool
  deriving DecidableEq, Repr

/-- Host interface beside its registers: `rxBuf` (ring, slot) ↦ posted buffer address; `txOut` ring ↦ descriptors
fetched and not yet written back, in ring order; `stopped` rings without an enable bit stopped under R427 (0, 1
flow command ring of the die, 2 distribution ring); the mode move in progress; the edge of the last heartbeat and the
timeout in force since (ms), the edge the link went down; link and power state of PCIe. -/
structure HostSt where
  rxBuf : Tbl Nat
  txOut : Tbl (List TxSlot)
  stopped : List Nat
  move : Option (Nat × Bool)
  aliveAt : Nat
  aliveMs : Nat
  downAt : Nat
  linkUp : Bool
  d3hot : Bool
  deriving DecidableEq, Repr

/-- Host interface at cold reset: link down. -/
def HostSt.init : HostSt := ⟨⟨[]⟩, ⟨[]⟩, [], none, 0, 1000, 0, false, false⟩

/-- What a receive write-back says of a frame or item (R421). `hash` is HASH64 of the flow key, `record` the die
and record number of an existing record, `shed` the shed reason code or 0xFF. -/
structure RxInfo where
  stamp : Stamp
  port : Nat
  ident : Nat
  reason : Nat
  gen : Nat
  tc : Nat
  colour : Nat
  pipe : Nat
  pass : Nat
  hash : Word
  key : List Byte
  record : Option (Nat × Nat)
  shed : Nat
  cls : Nat
  item : Bool
  poison : Bool
  deriving DecidableEq, Repr

/-- An export message being filled (R294): records of each template and the edge its oldest record came. -/
structure ExportMsg where
  recs4 : List (List Byte)
  recs6 : List (List Byte)
  since : Nat
  deriving DecidableEq, Repr

/-- Telemetry state beside registers (R294–R305): export messages by die, data records sent, edge the last template
set was sent, ports' windows; sampler by die: events left to the next sample, sequence, core edge of the last written
sample, loss mark, full mark. -/
structure TelSt where
  msgs : Tbl ExportMsg
  sent : Tbl Nat
  templAt : Tbl Nat
  bw : Tbl BwWin
  left : Tbl Nat
  smpSeq : Tbl Nat
  smpAt : Tbl Nat
  smpLost : Tbl Nat
  smpFull : Tbl Nat
  deriving DecidableEq, Repr

/-- Telemetry at reset. -/
def TelSt.init : TelSt := ⟨⟨[]⟩, ⟨[]⟩, ⟨[]⟩, ⟨[]⟩, ⟨[]⟩, ⟨[]⟩, ⟨[]⟩, ⟨[]⟩, ⟨[]⟩⟩

end Sys2Proof.Machine
end

