-- ==== Sys2Proof/Machine/TypesFlow.lean ====
section
/-! DEFINITION. Flow records, index, Hearth and miss-hold (07_flow_table.md). -/
namespace Sys2Proof.Machine

/-- Words 4 and 5 of a record without the H fields (R186, R187): the image a Hearth entry works on. -/
structure Img where
  fpFwd : Nat
  fpRev : Nat
  record : Nat
  rule : Nat
  action : Nat
  mirror : Nat
  finF : Bool
  finR : Bool
  touched : Bool
  pickup : Bool
  lastSeen : Nat
  state : Nat
  opA : Nat
  opB : Nat
  dpF : Nat
  dpR : Nat
  dbF : Nat
  dbR : Nat
  deriving DecidableEq, Repr

/-- The image of a new flow. -/
def Img.empty : Img := ⟨0, 0, 0, 0, 0, 0, false, false, false, false, 0, 0, 0, 0, 0, 0, 0, 0⟩

/-- A record in use in HBM (R184, R185); its word 4 valid bit is its presence. -/
structure FlowRec where
  fwd : List Byte
  rev : List Byte
  pktsF : Nat
  pktsR : Nat
  bytesF : Nat
  bytesR : Nat
  firstSeen : Nat
  birthGen : Nat
  lastSeenS : Nat
  timeoutSel : Nat
  flowClass : Nat
  hostMade : Bool
  img : Img
  deriving DecidableEq, Repr

/-- An index entry (R182). -/
structure IdxEntry where
  tag : Nat
  record : Nat
  dir : Bool
  deriving DecidableEq, Repr

/-- What waits on an entry's lock, in arrival order (R192, R207): a packet, or a Sweeper of the die. -/
inductive Waiter where
  | pkt (id : Nat)
  | sweep (i : Nat)
  deriving DecidableEq, Repr

/-- What an entry stands for: a record, a provisional one under creation (R198), or a pending host insert with the
edge it lapses and the packets it holds (R200). -/
inductive EntryKind where
  | record
  | provisional
  | pending (deadline : Nat)
  deriving DecidableEq, Repr

/-- A Hearth entry (R186, R189) with its H fields and its waiters. `key` is the key of its home direction;
`finSent` the fin_rst bits last journaled (R389). -/
structure HEntry where
  kind : EntryKind
  key : List Byte
  img : Img
  birthGen : Nat
  lock : Bool
  dirty : Bool
  ref : Bool
  pinned : Bool
  homeDir : Bool
  aliasAt : Option (Nat × Nat × Nat)
  waiters : List Waiter
  finSent : Bool × Bool
  cls : Nat
  deriving DecidableEq, Repr

/-- An alias (R189). -/
structure FAlias where
  fp : Nat
  homeSet : Nat
  homeWay : Nat
  dir : Bool
  deriving DecidableEq, Repr

/-- A way of a Hearth set: an entry, or four alias slots with their ref bit. -/
inductive Way where
  | entry (e : HEntry)
  | aliases (a0 a1 a2 a3 : Option FAlias) (ref : Bool)
  deriving DecidableEq, Repr

/-- An outstanding miss of a key (R194): its die and packets in arrival order; `retry` when a fill waits for a way. -/
structure Miss where
  die : Nat
  key : List Byte
  waiters : List Nat
  retry : Bool
  deriving DecidableEq, Repr

/-- Flow state: `twoStack` the part variant; FLW_FP_KEY; records (die, number); index (die, bucket, place); spill bits
(die, bucket); Hearth ways (bank of the device, set, way); misses; the free ring of each die as the next number never
used and the numbers returned, in order; sweep tags (die, record); quarantined and retired numbers (die, record) ↦
1 quarantined in the present scan, 4 before it began, 2 to release at the next scan's end, 3 retired, 5 released while its channel's loss is still held; token buckets by die, and by (die, class). -/
structure FlwSt where
  twoStack : Bool
  fpKey : Word × Word
  recs : Tbl FlowRec
  index : Tbl IdxEntry
  spill : Tbl Nat
  hearth : Tbl Way
  misses : List Miss
  fresh : Tbl Nat
  returned : Tbl (List Nat)
  tags : Tbl Nat
  quar : Tbl Nat
  insTok : Tbl Nat
  insAt : Tbl Nat
  puntTok : Tbl Nat
  puntAt : Tbl Nat
  evacAuto : Tbl Nat
  /-- Lost channels (die, channel) ↦ 1 lost in the present scan, 3 before it began, 2 without a reserve (R466, R467). -/
  lost : Tbl Nat
  /-- (die) ↦ 1 when the die has no evacuation reserve left (R213, R465). -/
  noReserve : Tbl Nat
  /-- Banks being copied to a spare, with the edge the copy began (R214). -/
  copying : List (Nat × Nat)
  deriving DecidableEq, Repr

/-- Flow state at reset: four-stack part (log entry 40), no flow. -/
def FlwSt.init : FlwSt :=
  ⟨false, (0, 0), ⟨[]⟩, ⟨[]⟩, ⟨[]⟩, ⟨[]⟩, [], ⟨[]⟩, ⟨[]⟩, ⟨[]⟩, ⟨[]⟩, ⟨[]⟩, ⟨[]⟩, ⟨[]⟩, ⟨[]⟩, ⟨[]⟩, ⟨[]⟩, ⟨[]⟩, []⟩

end Sys2Proof.Machine
end

