-- ==== Sys2Proof/Machine/TypesEng.lean ====
section
/-! DEFINITION. Action engines, Sweepers, units and their reservations, rollout (08, 09). -/
namespace Sys2Proof.Machine

/-- The flags of R221. -/
structure Flags where
  z : Bool
  n : Bool
  c : Bool
  deriving DecidableEq, Repr

/-- Flags at a routine's start. -/
def Flags.zero : Flags := ⟨false, false, false⟩

/-- A buffered edit (R228): an edit operation of R162, a rewrite of window bytes, or a push of given bytes with
template flags before the flow layer's outermost header (R274). -/
inductive Edit where
  | op (w : Nat)
  | rw (off : Nat) (bytes : List Byte)
  | push (hdr : Nat) (bytes : List Byte) (flags : Nat)
  deriving DecidableEq, Repr

/-- What a unit holds until COMMIT (R229). -/
inductive Resv where
  /-- A translated port: die, address index, protocol class, port, subscriber entry, original port. -/
  | snat (die addr pclass port sub orig pool : Nat)
  /-- A backend of a service. -/
  | pick (svc backend : Nat)
  /-- A fragment binding: the record's die and number, and the direction of the first fragment. -/
  | bind (recDie record : Nat) (dir : Bool)
  /-- Policer tokens taken from the C and the E or P bucket, in bucket units. -/
  | meter (die n : Nat) (c e : Int) (colour : Nat)
  /-- Histogram mark, and IOAM fill of a header (R286). -/
  | hist (h : Nat)
  | ioam (hdr : Nat)
  deriving DecidableEq, Repr

/-- Result of a unit call: g[n] and g[n+1] as (value, low bits that the unit's rule names), and the status. -/
structure CallRes where
  r0 : Nat × Nat
  r1 : Nat × Nat
  ok : Bool
  deriving DecidableEq, Repr

/-- An outstanding unit call (R226): result register, unit, function, operands, and its result once computed. -/
structure Call where
  reg : Nat
  unit : Nat
  fn : Nat
  ops : List Word
  res : Option CallRes
  /-- It is the most recently issued call of its routine (condition 20). -/
  latest : Bool
  deriving DecidableEq, Repr

/-- Who issues a microword: an engine of a cluster instance, or a Sweeper of a die. -/
inductive Proc where
  | engine (inst e : Nat)
  | sweeper (die n : Nat)
  deriving DecidableEq, Repr

/-- Who issues a microword, as a command names it: engine 0–7 of a cluster instance, or Sweeper 0–31 of a die. -/
inductive Issuer where
  | engine (inst : Fin 256) (e : Fin 8)
  | sweeper (die : Fin 2) (n : Fin 32)
  deriving DecidableEq, Repr

/-- The place an issuer's state is kept under. -/
def Issuer.proc : Issuer → Proc
  | .engine inst e => .engine inst e
  | .sweeper die n => .sweeper die n

/-- The slots of a microword in progress: what the ALU and memory slots will write when the word ends. -/
structure Slots where
  aluDone : Bool
  memDone : Bool
  aluW : Option (Nat × Word)
  memW : Option (Nat × Word)
  flags : Option Flags
  call : Option Call
  deriving DecidableEq, Repr

/-- No slot executed. -/
def Slots.none : Slots := ⟨false, false, Option.none, Option.none, Option.none, Option.none⟩

/-- A routine in progress on an action engine (R221–R233): `startAt` in CLK_CORE edges, `words` issued, `meta` and
`flowW` the shadows by byte offset, `lastOk` the status of the most recently issued call once arrived. -/
structure Run where
  pkt : Nat
  pipe : Nat
  opcode : Nat
  customer : Bool
  limit : Nat
  pc : Nat
  regs : Tbl Word
  flags : Flags
  scratch : List Byte
  slots : Slots
  edits : List Edit
  counters : List (Nat × Word)
  flowW : Tbl Nat
  metaW : Tbl Nat
  resv : List Resv
  calls : List Call
  lastOk : Bool
  /-- XLATE drops the packet (R271, down_act 2). -/
  xdrop : Bool
  /-- A Frealrex routine's SNAT found no port: the pool whose exhaust_act its end follows (R263). -/
  exhausted : Option Nat
  startAt : Nat
  words : Nat
  deriving DecidableEq, Repr

/-- Engine state beside registers and control stores, by cluster instance (8 × pipeline + cluster; the spares of a die
are 6 and 7 of its first pipeline): runs by (instance, engine); each pipeline's rotation; 1 + the edge of the last
parity error; the mask of engines retired in a spare. The opcode mode
table of R220 is a view of the dispatch tables. -/
structure EngSt where
  runs : Tbl Run
  rotate : Tbl Nat
  parityAt : Tbl Nat
  spareOut : Tbl Nat
  deriving DecidableEq, Repr

/-- Engine state at reset. -/
def EngSt.init : EngSt := ⟨⟨[]⟩, ⟨[]⟩, ⟨[]⟩, ⟨[]⟩⟩

/-- A visit held by a Sweeper (R207, R236): record, whether it is resident, its flags on entry, whether the visit
buffer has been loaded, and the record's bytes as loaded. -/
structure Visit where
  record : Nat
  resident : Bool
  touched : Bool
  corrected : Bool
  ruleDead : Bool
  revoke : Bool
  spill : Bool
  loaded : Bool
  orig : List Byte
  deriving DecidableEq, Repr

/-- The restart state of R240. -/
structure SwpCtx where
  regs : Tbl Word
  flags : Flags
  pc : Nat
  buf : List Byte
  scratch : List Byte
  deriving DecidableEq, Repr

/-- A Sweeper (R234–R242, R247): its next record and the end of its range in this scan, whether it waits for a lock,
the visit held and since when, its context and checkpoint, the word in progress, outstanding calls, when it paused,
when it last machine-checked, and the extra ranges it took over from retired Sweepers. -/
structure Sweep where
  next : Nat
  stop : Nat
  extra : List (Nat × Nat)
  waiting : Option Nat
  visit : Option Visit
  since : Nat
  slow : Bool
  ctx : SwpCtx
  ckpt : SwpCtx
  slots : Slots
  calls : List Call
  lastOk : Bool
  pausedAt : Option Nat
  mchkAt : Nat
  words : Nat
  deriving DecidableEq, Repr

/-- The context at a visit's start. -/
def SwpCtx.init : SwpCtx := ⟨⟨[]⟩, Flags.zero, 0, List.replicate 192 0, List.replicate 256 0⟩

/-- A Sweeper that has not started. -/
def Sweep.init : Sweep where
  next := 0
  stop := 0
  extra := []
  waiting := none
  visit := none
  since := 0
  slow := false
  ctx := SwpCtx.init
  ckpt := SwpCtx.init
  slots := Slots.none
  calls := []
  lastOk := false
  pausedAt := none
  mchkAt := 0
  words := 0

/-- Sweeper state: Sweepers by (die, number); by die: the start edges of the present and the previous scan, whether
a visit was abandoned in the present and the previous scan, whether a scan is in progress; buckets (die, bucket) that
are uncorrectable ↦ 1 since the present scan, 2 since before it began (R212). -/
structure SwpSt where
  sweeps : Tbl Sweep
  scanAt : Tbl Nat
  prevAt : Tbl Nat
  abandoned : Tbl Nat
  prevAband : Tbl Nat
  scanning : Tbl Nat
  badBuckets : Tbl Nat
  deriving DecidableEq, Repr

/-- Sweeper state at reset. -/
def SwpSt.init : SwpSt := ⟨⟨[]⟩, ⟨[]⟩, ⟨[]⟩, ⟨[]⟩, ⟨[]⟩, ⟨[]⟩, ⟨[]⟩⟩

/-- A subscriber entry (R265): address, bindings that name it, reservations that hold it. -/
structure Sub where
  addr : List Byte
  count : Nat
  held : Nat
  deriving DecidableEq, Repr

/-- A port in quarantine (R264): die, address, class, port, and the edge it entered. -/
structure QPort where
  die : Nat
  addr : Nat
  pclass : Nat
  port : Nat
  pool : Nat
  at_ : Nat
  deriving DecidableEq, Repr

/-- A fragment binding (R134, R135): the die of its table, its key, the record and direction, its creation stamp. -/
structure Binding where
  die : Nat
  key : List Byte
  recDie : Nat
  record : Nat
  dir : Bool
  ts48 : Nat
  deriving DecidableEq, Repr

/-- Probing of a backend (R272): consecutive failures and successes, the edge of the last probe, whether its reply
is awaited. -/
structure Probe where
  fails : Nat
  goods : Nat
  sentAt : Nat
  open_ : Bool
  deriving DecidableEq, Repr

/-- NAT and LBL state: ports in use keyed (die, 4 × address + class, port) ↦ 1; subscribers; quarantine in entry
order; bindings; probes by backend; the service being rebuilt. -/
structure NatSt where
  ports : Tbl Nat
  subs : Tbl Sub
  quar : List QPort
  binds : List Binding
  probes : Tbl Probe
  rebuild : Option Nat
  deriving DecidableEq, Repr

/-- NAT state at reset. -/
def NatSt.init : NatSt := ⟨⟨[]⟩, ⟨[]⟩, [], [], ⟨[]⟩, none⟩

/-- A microcode component (R248): type 2 action or 3 Sweeper, compatibility word, first address, region, words with
their parity bits above bit 160 or 128, and dispatch entries. -/
structure Component where
  kind : Nat
  compat : Nat
  first : Nat
  region : Nat
  words : List Nat
  dispatch : List Nat
  deriving DecidableEq, Repr

/-- A rollout in progress (R250): its components, the units left to load in order (0 spare, 1 cluster, 2 Sweeper;
instance), whether an abort waits, whether the image is being fetched, the spare that stands in for the cluster of the
step in progress and whether that step has begun, the digest of the image, and whether a swap asked for it (R474).
`running` holds the components loaded last. -/
structure RollSt where
  comps : List Component
  left : List (Nat × Nat)
  aborting : Bool
  spare : Option Nat
  begun : Bool
  digest : List Byte
  epoch : Nat
  swap : Bool
  running : List Component
  deriving DecidableEq, Repr

/-- Rollout state at reset. -/
def RollSt.init : RollSt := ⟨[], [], false, none, false, [], 64, false, []⟩

end Sys2Proof.Machine
end

