-- ==== Sys2Proof/Machine/TypesBase.lean ====
section
/-! DEFINITION. Internal state of register access, events and interrupts. -/
namespace Sys2Proof.Machine

/-- Register access state: the per-requester read captures and held low halves of R38, the WO1 fields written
since cold reset (R39), the CLK_SLOW shadow pipeline of R46 and the standing holds of R50. Keys: captures
(requester, register, index); `wo1` (register, index, low bit); `holdAck` (register, index) ↦ 1 + the edge of ack. -/
structure AccessSt where
  halfRead : Tbl Nat
  halfWrite : Tbl Nat
  wo1 : Tbl Nat
  slowLive : Tbl Word
  slowQueue : List (Key × Word × Nat)
  holdAck : Tbl Nat
  deriving DecidableEq, Repr

/-- Event ring state beside its registers (R432, R433): sequence, phase, losses since the last record, and
whether a loss episode is open. -/
structure EvtRing where
  seq : Nat
  phase : Bool
  lossRun : Nat
  episode : Bool
  deriving DecidableEq, Repr

/-- Reset value of an event ring's state. -/
def EvtRing.init : EvtRing := ⟨0, true, 0, false⟩

/-- Event state (R431): `kept` code ↦ kept severity; `last` (code, instance) ↦ 1 + the edge of the last
rate-limited raise; rings; `hostAbsent` and `boot` drive INT_N (R434). -/
structure EvtSt where
  kept : Tbl Nat
  last : Tbl Nat
  rings : Tbl EvtRing
  deriving DecidableEq, Repr

/-- MSI-X signalling (R426): ring key (0 receive, 1 transmit, 2 event; number) ↦ 1 + edge of the last firing, and
the rings whose vector waits for its moderation interval. -/
structure MsixSt where
  lastFire : Tbl Nat
  waiting : List (Nat × Nat)
  deriving DecidableEq, Repr

end Sys2Proof.Machine
end

