-- ==== Sys2Proof/Machine/TypesSys.lean ====
section
/-! DEFINITION. Internal state of bring-up, security, repair, power and distribution (03, 16, 17, 18, 14). -/
namespace Sys2Proof.Machine

/-- A fused anchor slot (R436, R438). A slot with digest bits and no programmed bit is torn (R437). -/
structure Anchor where
  digest : List Byte
  programmed : Bool
  revoked : Bool
  deriving DecidableEq, Repr

/-- An empty slot. -/
def Anchor.empty : Anchor := ⟨[], false, false⟩

/-- The fuse array, beside what Config fixes (R436): it survives every reset. -/
structure FuseSt where
  serial : BitVec 64
  cfg : Tbl Anchor
  dbg : Tbl Anchor
  epoch : Nat
  deriving DecidableEq, Repr

/-- Bring-up (R61–R91). `source` of the image: 0 NVM, 1 relay, 2 host. `fetch` the kind of a running download, 0
firmware, 1 configuration; `fwIn` a relayed firmware image; edges of PWRGD, of SDT publication, of the window's
opening. -/
structure BootSt where
  published : Bool
  publishedAt : Nat
  phase1At : Nat
  nvmDone : Bool
  image : List Byte
  full : Bool
  source : Nat
  accepted : Bool
  retained : List Byte
  retainedHash : List Byte
  anchors : List (List Byte)
  members : Nat
  fwRelay : Nat
  fetch : Option Nat
  fwIn : List Byte
  fwFull : Bool
  fw : List Byte
  windowAt : Option Nat
  expired : Bool
  hbmDone : Bool
  hbmFailed : List (Nat × Nat)
  deriving DecidableEq, Repr

/-- Bring-up at cold reset. -/
def BootSt.init : BootSt where
  published := false
  publishedAt := 0
  phase1At := 0
  nvmDone := false
  image := []
  full := false
  source := 0
  accepted := false
  retained := []
  retainedHash := []
  anchors := []
  members := 0
  fwRelay := 0
  fetch := none
  fwIn := []
  fwFull := false
  fw := []
  windowAt := none
  expired := false
  hbmDone := false
  hbmFailed := []

/-- A fuse operation being burned (R439): op, slot, digest. -/
structure FuseOp where
  op : Nat
  slot : Nat
  digest : List Byte
  deriving DecidableEq, Repr

/-- Security state (R437–R457): slots a fuse check failed, the edge a challenge was drawn, measurements, the fuse
operation in progress, the scope whose opening waits for the store clear, and what a quote reports. `jtag` is the
instruction in force, `pinsOut` whether the pins left functional control. -/
structure SecSt where
  badCfg : Nat
  badDbg : Nat
  chalAt : Nat
  meas : List (List Byte)
  burning : Option FuseOp
  clearing : Option Nat
  recovery : Bool
  fwAnchor : Nat
  fwVersion : Nat
  warmResets : Nat
  minEpoch : Nat
  jtag : Nat
  pinsOut : Bool
  deriving DecidableEq, Repr

/-- Security state at cold reset; the JTAG port selects IDCODE (IEEE 1149.1). -/
def SecSt.init : SecSt where
  badCfg := 0
  badDbg := 0
  chalAt := 0
  meas := List.replicate 5 (List.replicate 64 0)
  burning := none
  clearing := none
  recovery := false
  fwAnchor := 0
  fwVersion := 0
  warmResets := 0
  minEpoch := 64
  jtag := 1
  pinsOut := false

/-- What a protected HBM word holds (R460, R468): a record, a bucket, numbers of the free ring, places in the die's NAT
quarantine ring or Ember backlog in order, the reserve, a place in the ledger, the retained image, or a firmware slot. -/
inductive HbmWhat where
  | record (n : Nat)
  | bucket (b : Nat)
  | freeRing (nums : List Nat)
  | natRing (places : List Nat)
  | backlog (places : List Nat)
  | reserve
  | ledger (place : Nat)
  | retained
  | standbySlot
  | runningSlot
  deriving DecidableEq, Repr

/-- A word that a scrub reads (R461), by store: HBM die, channel and word; a Hearth way of a bank of the device; a
segment's handle; a pipeline's parse graph, tables (and whether the other die's copy is bad too) or TCAM entry; a control
store of a cluster instance or of a Sweeper; a control core's memory. -/
inductive ScrubAt where
  | hbm (die ch word : Nat) (what : HbmWhat)
  | hearth (b s w : Nat)
  | buffer (handle : Nat)
  | graph (p state : Nat)
  | table (p addr : Nat) (both : Bool)
  | tcam (p i : Nat)
  | store (inst : Nat)
  | swpStore (die n : Nat)
  | core (n addr : Nat)
  deriving DecidableEq, Repr

/-- A firmware slot (R474): its image; `sound` is false once a word of it is uncorrectable (R468). -/
structure FwSlot where
  image : List Byte
  sound : Bool
  deriving DecidableEq, Repr

/-- Repair and live service (R461–R477): the edge a channel's window ends, the firmware slots, the edge of a handover
whose firmware has not yet beaten, the edges of core failures since it, the core in its self-test, whether a patrol pass runs, the record
numbers lost with a free ring word in the present scan (die, 0) and before it began (die, 1). -/
structure RelSt where
  windowAt : Tbl Nat
  slots : Tbl FwSlot
  handoverAt : Option Nat
  coreFails : List Nat
  returning : Option Nat
  lostFree : Tbl (List Nat)
  hbmPass : Bool
  deriving DecidableEq, Repr

/-- Repair state at reset. -/
def RelSt.init : RelSt := ⟨⟨[]⟩, ⟨[]⟩, none, [], none, ⟨[]⟩, false⟩

/-- A request to the Damper (R488): rail, step in units of 1 µA, arrival edge, whether its deferral was raised. -/
structure DampReq where
  rail : Nat
  step : Nat
  at_ : Nat
  deferred : Bool
  deriving DecidableEq, Repr

/-- Power state (R482–R495). By rail: estimate and ceiling in units of 1 µA with the edge the ceiling was last settled,
the target its monitors ask for, unacknowledged AVS commands in a row, 1 + the edge of the last command. The trip's
start edge and the length of its ramp in edges, whether the forwarding dies' clocks stopped, the edge life counting reached, and whether SMB_ALERT_N is asserted. -/
structure PwrSt where
  estimate : Tbl Nat
  ceiling : Tbl Nat
  ceilAt : Tbl Nat
  waiting : List DampReq
  avsWant : Tbl Nat
  avsFails : Tbl Nat
  avsAt : Tbl Nat
  tripAt : Option Nat
  tripRamp : Nat
  stopped : Bool
  lifeAt : Nat
  smbAlert : Bool
  deriving DecidableEq, Repr

/-- Power state at reset. -/
def PwrSt.init : PwrSt := ⟨⟨[]⟩, ⟨[]⟩, ⟨[]⟩, [], ⟨[]⟩, ⟨[]⟩, ⟨[]⟩, none, 0, false, 0, false⟩

/-- The distribution command at the head of the ring (R412): its 32 bytes, the positions not yet answered, and the
edge it was sent. -/
structure DistCmd where
  bytes : List Byte
  waiting : List Nat
  tag : Nat
  sentAt : Nat
  deriving DecidableEq, Repr

/-- A WRITE64_AT held on this target (R413): link and tag to answer on, sender, offset, value, and its time in units
of the local clock. -/
structure DistAt where
  link : Nat
  tag : Nat
  sender : Nat
  offset : Nat
  value : Nat
  due : Nat
  deriving DecidableEq, Repr

/-- Distribution state. -/
structure DistSt where
  cur : Option DistCmd
  tag : Nat
  held : List DistAt
  deriving DecidableEq, Repr

/-- Distribution at reset. -/
def DistSt.init : DistSt := ⟨none, 0, []⟩

end Sys2Proof.Machine
end

