-- ==== Sys2Proof/Machine/TypesTables.lean ====
section
/-! DEFINITION. The indirect tables the chapters name (R36 type 0x04, R7). -/
namespace Sys2Proof.Machine

/-- One constructor per indirect table. -/
inductive TableId where
  | PRS_STATE_TBL | PRS_TRANS_TBL | CLS_PROFILE_TBL | CLS_RANGE_TBL | TCAM | CLS_RULE_TBL | CLS_ACTION_TBL
  | CLS_TEMPLATE_TBL | CLS_LPM_TBL | CLS_EXM_TBL | FLW_ZONE_TBL | ENG_CSTORE | ENG_DISPATCH | SWP_CSTORE
  | NAT_ADDR_TBL | NAT_SUB_TBL | LBL_SVC_TBL | LBL_BACKEND_TBL | LBL_SLOT_TBL | LBL_NH_TBL | LBL_NH_MEMBER_TBL
  | LBL_SMAC_TBL | TEL_ACT_CNT | TEL_HIST | PRF_SAMPLE_TBL | SCH_PORT_TBL | SCH_PG_TBL | SCH_CG_TBL | SCH_LEAF_TBL
  | SCH_LEAF_PROFILE | SCH_ECN_PROFILE | SCH_POL_TBL | SCH_POL_CNT | SCH_LEAF_CNT | SCH_GATE_TBL | TIM_PTP_DS
  | TIM_LEDGER_TBL | SEC_ANCHOR_TBL | SEC_ID_TBL | SEC_BLOB | PEL_DIGEST_SEL
  deriving DecidableEq, Repr

/-- Number of a table: the first component of its cells' keys. -/
def TableId.num (t : TableId) : Nat := t.ctorIdx

end Sys2Proof.Machine
end

