-- ==== Sys2Proof/Machine/TypesTime.lean ====
section
/-! DEFINITION. Internal state of the time subsystem (13_time.md). -/
namespace Sys2Proof.Machine

/-- An entry of the compatibility queue (R368). -/
structure TxqEntry where
  id : Nat
  port : Nat
  stamp : Stamp
  deriving DecidableEq, Repr

/-- What the servo's owner measured over a second, recorded in the ledger (R380). -/
structure LedgerInfo where
  source : Fin 5
  sourceIdx : Fin 65536
  stepsRemoved : Nat
  grandmaster : BitVec 64
  clockClass : BitVec 8
  clockAccuracy : BitVec 8
  meanOffset : BitVec 64
  meanDelay : BitVec 32
  chipTemp : BitVec 8
  deriving DecidableEq, Repr

/-- States of the firmware servo (R373). -/
inductive ServoState where
  | freeRun | acquiring | locked | holdover
  deriving DecidableEq, Repr

/-- Ledger code of a servo state (R380, byte 6). -/
def ServoState.code : ServoState → Nat
  | .freeRun => 0
  | .acquiring => 1
  | .locked => 2
  | .holdover => 3

/-- Time subsystem state beside its registers. `stepEpoch` counts steps and sets, so that stamps that straddle one
can be told (R371). Path adjustments of R378 are per lane, in half picoseconds per direction. -/
structure TimSt where
  stepEpoch : Nat
  txq : List TxqEntry
  ppsInAt : Nat
  ppsInLost : Bool
  ppsOut : Bool
  ppsOutAt : Nat
  ppsOutSec : Nat
  servo : ServoState
  source : Nat
  sourceIdx : Nat
  pealSeq : Nat
  pealReq : Option (Nat × Stamp)
  pealDoneAt : Nat
  pealLost : Bool
  pealOffset : Int
  calEpoch : Nat
  loopAdj : Tbl Int
  chipTemp : Tbl Int
  /-- Ledger records and signature blocks, oldest first (R380–R382). -/
  ledger : List (List Byte)
  blocks : List (List Byte)
  openRecs : List (List Byte)
  ledgerSec : Nat
  steppedIn : Bool
  stepSum : Int
  calChangedIn : Bool
  hostLedger : Bool
  deriving DecidableEq, Repr

/-- Time state after cold reset: clock from zero, free-run, empty ledger (R82, R373, R380). -/
def TimSt.init : TimSt where
  stepEpoch := 0
  txq := []
  ppsInAt := 0
  ppsInLost := false
  ppsOut := false
  ppsOutAt := 0
  ppsOutSec := 0
  servo := .freeRun
  source := 0
  sourceIdx := 0
  pealSeq := 0
  pealReq := none
  pealDoneAt := 0
  pealLost := false
  pealOffset := 0
  calEpoch := 0
  loopAdj := ⟨[]⟩
  chipTemp := ⟨[]⟩
  ledger := []
  blocks := []
  openRecs := []
  ledgerSec := 0
  steppedIn := false
  stepSum := 0
  calChangedIn := false
  hostLedger := false

end Sys2Proof.Machine
end

