-- ==== Sys2Proof/Machine/TypesTwn.lean ====
section
/-! DEFINITION. Twins, the Ember stream, Toll peers and distribution (14_twins_and_peal_groups.md). -/
namespace Sys2Proof.Machine

/-- An Ember message of a die's stream (R390). -/
structure EmberMsg where
  seq : Nat
  kind : Nat
  body : List Byte
  sentTs48 : Nat
  deriving DecidableEq, Repr

/-- What the last Toll of a peer said (R386). -/
structure TollInfo where
  serial : Nat
  devDigest : Nat
  groupDigest : Nat
  compatAction : Nat
  compatSweeper : Nat
  phase : Nat
  twinState : Nat
  alone : Bool
  emptyStart : Bool
  seesEmber : Bool
  debugOpened : Bool
  applied0 : Nat
  applied1 : Nat
  role : Nat
  deriving DecidableEq, Repr

/-- A peer: positions 0–3 of the group, 4 the twin on another board. `tollIn` whether a Toll came in the present
interval, `missedRun` consecutive missed ones, 1 + the edge a digest mismatch began and whether it was reported. -/
structure Peer where
  info : Option TollInfo
  tollIn : Bool
  missedRun : Nat
  differAt : Nat
  diverged : Bool
  deriving DecidableEq, Repr

/-- A peer not yet heard. -/
def Peer.init : Peer := ⟨none, false, 0, 0, false⟩

/-- A packet in the Ember hold of a die (R395): the sequence of its record's INSERT, its entry edge, and its
committed disposition (0 forward, 1 drop, 2 punt to a ring group, 3 recirculate) with the frame as edited. -/
structure EmberHeld where
  die : Nat
  pkt : Nat
  seq : Nat
  record : Nat
  since : Nat
  disp : Nat
  group : Nat
  bytes : List Byte
  deriving DecidableEq, Repr

/-- Twin state beside registers. By die: unacknowledged messages, backlog, highest applied sequence, 1 + the edge of
the last ACK sent, whether the stream is up, whether holds are in force, whether an overflow episode is open, sequence
of the last image of a Kindling received. `emberLinks`, `members` and `twinPos` (position of the
twin, 4 on another board) come from the image;
`formed` with the edge formation began; `lagBadAt` 1 + the last edge a lag was seen above its bound. -/
structure TwnSt where
  unacked : Tbl (List EmberMsg)
  backlog : Tbl (List EmberMsg)
  applied : Tbl Nat
  ackAt : Tbl Nat
  up : Tbl Nat
  holdsOn : Tbl Nat
  overflow : Tbl Nat
  kindleEnd : Tbl Nat
  held : List EmberHeld
  emberLinks : List Nat
  members : List Nat
  twinPos : Nat
  peers : Tbl Peer
  tollSeq : Nat
  keysAgree : Bool
  formed : Bool
  formStart : Nat
  lagBadAt : Nat
  deriving DecidableEq, Repr

/-- Twin state at reset. -/
def TwnSt.init : TwnSt where
  unacked := ⟨[]⟩
  backlog := ⟨[]⟩
  applied := ⟨[]⟩
  ackAt := ⟨[]⟩
  up := ⟨[]⟩
  holdsOn := ⟨[]⟩
  overflow := ⟨[]⟩
  kindleEnd := ⟨[]⟩
  held := []
  emberLinks := []
  members := []
  twinPos := 0
  peers := ⟨[]⟩
  tollSeq := 0
  keysAgree := false
  formed := false
  formStart := 0
  lagBadAt := 0

end Sys2Proof.Machine
end

