-- ==== Sys2Proof/Syntax.lean ====
section
/-! DEFINITION. The commands of the block: one constructor per row of spec/opcode_table.json. Each docstring gives the
row's mnemonic, its rule and the table's summary. -/
namespace Sys2Proof

open Sys2Proof.Machine

/-- A command. -/
inductive Instr where
  /-- PWRGD_RISE (R61): A rising PWRGD is a cold reset: the straps are sampled and the device starts at phase 0. -/
  | pwrgdRise (boardPos : Fin 4) (bootSrc : Bool)
  /-- SYS_RST_RELEASE (R61): Release of SYS_RST_N is a cold reset: the straps are sampled and the device restarts at
  phase 0. -/
  | sysRstRelease (boardPos : Fin 4) (bootSrc : Bool)
  /-- PWRGD_FALL (R493): A falling PWRGD starts an emergency trip with cause 6. -/
  | pwrgdFall
  /-- WARM_RESET (R89): A write of 1 to GLB_RESET.warm re-hashes the retained image and enters phase 3 on a match or
  phase 8 on a mismatch. -/
  | warmReset (damaged : Bool)
  /-- PCIE_RESET (R88): PERST_N, a PCIe hot reset or a function-level reset resets the HST block, its rings and MSI-X
  while forwarding continues. -/
  | pcieReset (flr : Bool)
  /-- PCIE_LINK_DOWN (R79): A drop of the PCIe link abandons any fetch in progress and starts host-absence timing. -/
  | pcieLinkDown
  /-- FUSE_CHECK_DONE (R437): The boot ROM finishes checking every fuse field, and the device goes on to phase 1 or
  halts in phase 9. -/
  | fuseCheckDone (sound : Bool) (badCfg : BitVec 8) (badDbg : BitVec 2)
  /-- SDT_PUBLISH (R32): The boot ROM publishes the SDT, which starts HBM training, the NVM read and boot-link
  training. -/
  | sdtPublish
  /-- NVM_READ_DONE (R69): The single NVM burst has delivered image_length bytes, which are hashed and staged in the
  packet buffer. -/
  | nvmReadDone (answered : Bool) (image : List Byte)
  /-- IMAGE_VERIFY_DONE (R67): The configuration-image checks finish in order, and the image is accepted or rejected
  with its error code. -/
  | imageVerifyDone
  /-- IMAGE_APPLY_DONE (R68): Phase 3 finishes applying every section, the firmware window opens, its timer starts and
  lane training begins. -/
  | imageApplyDone
  /-- RELAY_TIMEOUT (R70): A member that has received no complete image 2,000 ms after SDT publication enters
  recovery. -/
  | relayTimeout
  /-- BOOT_LINK_UP (R71): A boot link finishes training in Peal boot mode. -/
  | bootLinkUp (g : Fin 64)
  /-- BOOT_IMAGE_MESSAGE (R104): A channel 6 message delivers image bytes at its offset, and an offset of 0 restarts
  the copy. -/
  | bootImageMessage (g : Fin 64) (kind : Fin 2) (offset : BitVec 25) (body : List Byte)
  /-- HBM_TRAINING_DONE (R73): HBM training ends, and any channel that failed training is retired to the reserve. -/
  | hbmTrainingDone (failed : List (Fin 2 × Fin 32))
  /-- LANE_TRAINING_DONE (R74): A lane finishes training, and its port sends Remote Fault until generation 0 is live.
  -/
  | laneTrainingDone (lane : Fin 512) (trained : Bool)
  /-- FW_DOWNLOAD_GO (R77): BOOT_FW_CTRL.go with kind 0 starts the DMA fetch of a firmware image from its extent list.
  -/
  | fwDownloadGo (extents : BitVec 11)
  /-- CFG_DOWNLOAD_GO (R70): BOOT_FW_CTRL.go with kind 1 in phase 8 starts the fetch of a recovery configuration
  image. -/
  | cfgDownloadGo (extents : BitVec 11)
  /-- FW_FETCH_DONE (R77): The firmware fetch and verification complete, and the device enters phase 6 on success or
  returns to phase 4 on failure. -/
  | fwFetchDone (relayed : Bool) (image : List Byte)
  /-- CFG_FETCH_DONE (R70): A recovery configuration image is fetched and checked under R67, and on success the device
  enters phase 3. -/
  | cfgFetchDone (image : List Byte)
  /-- FW_WINDOW_TIMEOUT (R78): The 60 s firmware window expires, which sets hold_lanes and idles every lane. -/
  | fwWindowTimeout
  /-- GENERATION_0_LIVE (R83): The end of phase 6 commits generation 0, opens intake and enters phase 7. -/
  | generation0Live
  /-- FORMATION_TIMER (R84): The 400 ms formation timer expires, and the device forms its view of the Peal group. -/
  | formationTimer
  /-- HOST_ABSENT (R90): Link-down or heartbeat timeout marks the host absent and moves functions whose stay bit is 0
  to hardware mode. -/
  | hostAbsent
  /-- HOST_ALIVE_BEAT (R91): A write to HST_HOST_ALIVE.beat restarts the absence timer. -/
  | hostAliveBeat
  /-- REGISTER_WRITE (R47): A write to a register with no row of its own applies under its access type, effect class
  and race code. -/
  | registerWrite (req : Fin 13) (addr : BitVec 27) (size : Fin 16) (value : Word)
  /-- HALF_READ_CAPTURE (R38): A 32-bit read of the low half of a 64-bit register captures the high half for that
  requester. -/
  | halfReadCapture (req : Fin 13) (addr : BitVec 27)
  /-- HOLD_REQUEST (R50): A write of 1 to HOLD.req while ack is 0 freezes block intake at the next unit boundary and
  sets ack. -/
  | holdRequest (block : Fin 10) (ix : Fin 32)
  /-- HOLD_RELEASE (R50): A write of 0 to HOLD.req clears ack and resumes intake. -/
  | holdRelease (block : Fin 10) (ix : Fin 32)
  /-- HOLD_EXPIRED (R50): A hold still standing 1 µs after ack releases itself, sets expired and raises the event. -/
  | holdExpired (block : Fin 10) (ix : Fin 32)
  /-- BAR2_WRITE (R30): A write to BAR2 is discarded and raises EV_HST_BAR2_WRITE. -/
  | bar2Write
  /-- BOOT_STATUS_READ (R434): A read of BOOT_STATUS clears the boot bit that drives INT_N. -/
  | bootStatusRead
  /-- REF_LOST (R28): A reference absent or out of tolerance for 1 µs holds the PLL control word and marks holdover.
  -/
  | refLost
  /-- REF_RESTORED (R28): A reference back in tolerance for 10 ms relocks the root PLL and raises EV_CLK_REF_RESTORED.
  -/
  | refRestored
  /-- FRAME_RECEIVE (R14): The last byte of a frame reaches the packet buffer, its FCS is checked, and a descriptor is
  created if it is good. -/
  | frameReceive (port lane : Fin 512) (var : BitVec 24) (bytes : List Byte) (fcsOk : Bool)
  /-- MAC_CONTROL_FRAME (R99): A received EtherType 0x8808 frame is consumed, and PAUSE or PFC acts when it matches
  the port's fc_mode. -/
  | macControlFrame (port : Fin 512) (opcode : BitVec 16) (timers : List (Fin 8 × BitVec 16))
  /-- PAUSE_TIMER_EXPIRE (R99): A received pause timer expires, and the paused traffic classes resume. -/
  | pauseTimerExpire (port : Fin 512) (prio : Fin 8)
  /-- PFC_RESEND (R99): While a priority stays asserted, PFC is resent every quanta ÷ 2 pause units. -/
  | pfcResend (port : Fin 512)
  /-- LINK_STATE_CHANGE (R98): A change of lane alignment or of received Remote Fault changes link_up and raises the
  link event. -/
  | linkStateChange (port : Fin 512) (remoteFault aligned : Bool)
  /-- LANE_RECAL (R112): A write of 1 to LANE_CTRL.recal starts a full recalibration of the lane, or moves Peal
  traffic to a spare. -/
  | laneRecal (lane : Fin 512)
  /-- RECAL_DONE (R112): A recalibration completes and raises EV_LANE_RECAL_DONE. -/
  | recalDone (lane : Fin 512) (err : BitVec 16) (temp : BitVec 8)
  /-- LANE_FAIL (R113): Loss of signal for 1 µs, loss of PLL lock or loss of FEC alignment fails the lane. -/
  | laneFail (lane : Fin 512) (cause : Fin 4)
  /-- FEC_WINDOW_END (R113): At the end of each 1 ms window, corrected symbols are compared with the threshold, which
  may raise degrade or fail the lane. -/
  | fecWindowEnd (lane : Fin 512) (corrected uncorrected symbols : BitVec 32)
  /-- LANE_RETRY_TRAINING (R114): A failed lane retries training every 1,000 ms. -/
  | laneRetryTraining (lane : Fin 512) (trained : Bool)
  /-- PEAL_CELL_RECEIVE (R106): A cell is checked by FEC and tag, delivered in order with its messages, or discarded
  with every later cell. -/
  | pealCellReceive (g : Fin 64) (lane : Fin 8) (cell : Cell) (good : Bool)
  /-- PEAL_CELL_RESEND (R106): A cell not covered by an ack 2.0 µs after it ended is resent with every later cell. -/
  | pealCellResend (g : Fin 64)
  /-- KEY_EPOCH_CHANGE (R107): After 2^32 cells the link changes to the other key epoch at an agreed cell boundary. -/
  | keyEpochChange (g : Fin 64)
  /-- LANE_SET_MESSAGE (R104): A channel 7 lane-set message changes the receiver's lane set at the cell it names. -/
  | laneSetMessage (g : Fin 64) (mask spare : BitVec 8) (seq : BitVec 11)
  /-- PAUSE_STATE_MESSAGE (R104): A channel 7 pause-state message sets which priorities the sender must stop starting.
  -/
  | pauseStateMessage (g : Fin 64) (mask : BitVec 8)
  /-- KEY_EPOCH_MESSAGE (R104): A channel 7 key-epoch message switches the epoch at the cell it names. -/
  | keyEpochMessage (g : Fin 64) (epoch : Fin 2) (seq : BitVec 11)
  /-- KX1 (R446): The initiator's identity and nonce start keying of a Peal link. -/
  | kx1 (g : Fin 64) (peerSerial : BitVec 64) (m : List Byte)
  /-- KX2 (R446): The responder's identity, nonce, encrypted secret and transcript signature are received and
  verified. -/
  | kx2 (g : Fin 64) (m : List Byte)
  /-- KX3 (R446): The initiator's encrypted secret and signature complete the exchange and derive the link keys. -/
  | kx3 (g : Fin 64) (m : List Byte)
  /-- KEYING_RETRY (R446): A failed key exchange retries after 100 ms. -/
  | keyingRetry (g : Fin 64)
  /-- PACKET_MESSAGE (R411): A channel 0 frame is buffered and queued on the named egress port. -/
  | packetMessage (g : Fin 64) (port : Fin 512) (tc : Fin 8) (ingress : Fin 512) (colour : Fin 4) (bytes : List Byte)
  /-- INTAKE_SLOT (R17): A waiting descriptor takes a pipeline intake slot and is stamped with the live generation. -/
  | intakeSlot (pipe : Fin 32) (held : Option (BitVec 32))
  /-- DESCRIPTOR_DEAL (R117): The distributor takes a descriptor from intake, numbers it and deals it to the next
  parse engine with room. -/
  | descriptorDeal (pipe : Fin 32)
  /-- PARSE_DONE (R123): A parse engine finishes walking the parse graph and produces the parse result and flow key.
  -/
  | parseDone (pipe : Fin 32) (engine : Fin 12) (ecc : Fin 4)
  /-- REORDER_RELEASE (R120): The reorder stage releases descriptors to classification in sequence order. -/
  | reorderRelease (pipe : Fin 32)
  /-- PARSE_ENGINE_PARITY (R140): A parity error discards the engine's work, re-parses the packet elsewhere and
  retires the engine. -/
  | parseEngineParity (pipe : Fin 32) (engine : Fin 12)
  /-- PARSE_ENGINE_RETIRE (R140): A W1S write to PRS_ENGINE_CTRL.retire retires an engine after its current packet. -/
  | parseEngineRetire (pipe : Fin 32) (mask : BitVec 12)
  /-- PARSE_ENGINE_RETURN (R140): A W1C write to PRS_ENGINE_CTRL.retired returns an engine to service after its
  self-test. -/
  | parseEngineReturn (pipe : Fin 32) (mask : BitVec 12)
  /-- CLASSIFY (R141): A classification pass runs profile, lookups, range comparators, TCAM search and resolution in
  the packet's generation. -/
  | classify (pipe : Fin 32) (wrong lost again : List (Fin 16384)) (ue : Option (BitVec 32 × Bool))
  /-- TCAM_SHADOW_CHECK (R158): Every 128 ns a slice compares one entry with its shadow and repairs any difference. -/
  | tcamShadowCheck (pipe : Fin 32) (index : Fin 16384) (differs : Bool)
  /-- THROTTLE_CHANGE (R159): A die temperature reading moves a TCAM slice between throttle states. -/
  | throttleChange (pipe : Fin 32)
  /-- TBL_ADD (R511): CLS_TBL_CMD op ADD stages an entry into the named table. -/
  | tblAdd (table : TableId) (index : BitVec 32)
  /-- TBL_DELETE (R511): CLS_TBL_CMD op DELETE stages a death for, or frees, the named entry. -/
  | tblDelete (table : TableId) (index : BitVec 32)
  /-- TBL_WRITE_AT (R511): CLS_TBL_CMD op WRITE_AT writes a TCAM entry at an index, or a load-balancer table entry at
  once. -/
  | tblWriteAt (table : TableId) (index : BitVec 32)
  /-- TBL_MOVE (R153): CLS_TBL_CMD op MOVE copies a TCAM entry to a free index and invalidates the old one. -/
  | tblMove (table : TableId) (index : BitVec 32)
  /-- TBL_READ (R511): CLS_TBL_CMD op READ returns an entry into CLS_TBL_DATA. -/
  | tblRead (table : TableId) (index : BitVec 32)
  /-- TBL_LOCATE (R511): CLS_TBL_CMD op LOCATE returns the lowest TCAM index that holds a rule ID. -/
  | tblLocate (table : TableId) (index : BitVec 32)
  /-- TCAM_HOLE_RESTORE (R514): Background restoration makes a free index in the first window of N indices that has
  none. -/
  | tcamHoleRestore (pipe : Fin 32)
  /-- GEN_COMMIT (R168): A write of 1 to CLS_GEN_CTRL.commit makes the staged generation live at one edge, or holds
  the commit as pending. -/
  | genCommit
  /-- GEN_ABORT (R168): A write of 1 to CLS_GEN_CTRL.abort discards the stage and prepares the slot again. -/
  | genAbort
  /-- STAGE_PREPARE_DONE (R169): Preparation of a free slot completes, and the stage opens. -/
  | stagePrepareDone
  /-- GEN_DRAINED (R170): A superseded generation with no packets in flight drains, its entries are reclaimed and its
  slot is freed. -/
  | genDrained
  /-- PACKET_LIFETIME (R171): A packet aged 10 ms in the lookup domain is dropped. -/
  | packetLifetime (pkt : Nat)
  /-- EGRESS_REORDER_RELEASE (R24): The egress reorder releases a packet once every earlier packet of its pair has
  left, and the packet is enqueued. -/
  | egressReorderRelease (pkt : Nat) (copy : Nat)
  /-- HEARTH_REQUEST (R190): A stateful packet makes its Hearth request to its bank in counter or lock mode. -/
  | hearthRequest (pkt : Nat) (busy : Bool)
  /-- MISS_FILL (R194): The index lookup completes, and the entry or alias is installed or the insert path decides. -/
  | missFill (pkt : Nat) (hbm : Fin 4)
  /-- FILL_WAY_RETRY (R195): A fill that found no qualifying way retries when a way of its set changes. -/
  | fillWayRetry (pkt : Nat) (hbm : Fin 4)
  /-- BANK_QUEUE_ENTER (R197): A bank-busy waiter enters its bank's queue when a place frees. -/
  | bankQueueEnter (bank : Fin 256)
  /-- HBM_WRITE_ACK (R198): HBM acknowledges a new record's writes, and pinned clears. -/
  | hbmWriteAck (die : Fin 2) (record : BitVec 28)
  /-- HOST_PENDING_TIMEOUT (R200): A pending entry with no INSERT within timeout_us is removed, and its waiters are
  shed. -/
  | hostPendingTimeout (die : Fin 2)
  /-- FLOW_INSERT (R202): Command INSERT creates a record from the body, checks the bank rule and journals it. -/
  | flowInsert (die : Fin 2) (release : Bool) (body : List Byte)
  /-- FLOW_UPDATE (R202): Command UPDATE replaces the decision fields of a flow under its lock and journals it. -/
  | flowUpdate (die : Fin 2) (body : List Byte)
  /-- FLOW_DELETE (R203): Command DELETE deletes a record in the order of R203. -/
  | flowDelete (die : Fin 2) (key : List Byte)
  /-- FLOW_READ (R202): Command READ writes the record image with exact counts to host memory. -/
  | flowRead (die : Fin 2) (result : BitVec 64) (key : List Byte)
  /-- FLOW_BAD_OP (R201): A command with an unknown op completes with BAD_OP. -/
  | flowBadOp (die : Fin 2)
  /-- HBM_EVAC_START (R213): A write of 1 to FLW_HBM_EVAC.start copies a channel's pages into the evacuation reserve.
  -/
  | hbmEvacStart (die : Fin 2) (channel : Fin 32)
  /-- EVAC_DONE (R213): The evacuation copy ends, EV_FLW_EVAC_DONE is raised and the channel retrains. -/
  | evacDone (die : Fin 2)
  /-- CHANNEL_RETRAIN_DONE (R213): The evacuated channel becomes the new reserve if retraining passes, and stays
  retired otherwise. -/
  | channelRetrainDone (die : Fin 2) (pass : Bool)
  /-- BANK_RETIRE (R214): HRT_SPARE_CTRL.retire_go replaces the named bank by a spare. -/
  | bankRetire (die : Fin 2)
  /-- BANK_CONTROL_PARITY (R214): A parity error in a bank's control logic starts its replacement by a spare. -/
  | bankControlParity (bank : Fin 256)
  /-- BANK_COPY_DONE (R214): The copy to the spare ends, the spare takes the bank number and the waiters enter its
  queue. -/
  | bankCopyDone (bank : Fin 256)
  /-- SWEEPER_VISIT (R207): A Sweeper holds the next record of its range by lock or sweep tag and starts its routine
  at address 0. -/
  | sweeperVisit (die : Fin 2) (n : Fin 32) (corrected : Bool)
  /-- SWEEPER_SCAN_END (R207): A die completes a scan of every record. -/
  | sweeperScanEnd (die : Fin 2) (bad : List (BitVec 28))
  /-- VISIT_SLOW (R239): A visit that holds a record for more than 10 µs raises EV_SWP_VISIT_SLOW. -/
  | visitSlow (die : Fin 2) (n : Fin 32)
  /-- ENGINE_DISPATCH (R218): The dispatcher sends a packet to a free engine of the next eligible cluster. -/
  | engineDispatch (pipe : Fin 32)
  /-- NEXT (R222): Action sequencer NEXT goes on to the next address. -/
  | next (inst : Fin 256) (engine : Fin 8)
  /-- JUMP (R222): Action sequencer JUMP goes to target. -/
  | jump (inst : Fin 256) (engine : Fin 8)
  /-- BR_T (R222): Action sequencer BR_T goes to target if cond is true. -/
  | brT (inst : Fin 256) (engine : Fin 8)
  /-- BR_F (R222): Action sequencer BR_F goes to target if cond is false. -/
  | brF (inst : Fin 256) (engine : Fin 8)
  /-- COMMIT (R230): COMMIT atomically applies the routine's buffered effects, releases the lock and takes the
  disposition. -/
  | commit (inst : Fin 256) (engine : Fin 8)
  /-- ABORT (R230): ABORT discards buffered effects, releases reservations and the lock, and drops the packet. -/
  | abort (inst : Fin 256) (engine : Fin 8)
  /-- ILLEGAL_SEQ (R222): Sequencer code 6 or 7 executes as ABORT and raises EV_ENG_ILLEGAL. -/
  | illegalSeq (inst : Fin 256) (engine : Fin 8)
  /-- NOP (R224): ALU NOP writes nothing. -/
  | nop (p : Issuer)
  /-- ADD (R224): ALU ADD writes a + b. -/
  | add (p : Issuer)
  /-- SUB (R224): ALU SUB writes a − b. -/
  | sub (p : Issuer)
  /-- AND (R224): ALU AND writes a & b. -/
  | and (p : Issuer)
  /-- OR (R224): ALU OR writes a | b. -/
  | or (p : Issuer)
  /-- XOR (R224): ALU XOR writes a ^ b. -/
  | xor (p : Issuer)
  /-- SHL (R224): ALU SHL shifts a left by b[5:0]. -/
  | shl (p : Issuer)
  /-- SHR (R224): ALU SHR shifts a right logically by b[5:0]. -/
  | shr (p : Issuer)
  /-- SAR (R224): ALU SAR shifts a right arithmetically. -/
  | sar (p : Issuer)
  /-- MOV (R224): ALU MOV writes b. -/
  | mov (p : Issuer)
  /-- CMP (R224): ALU CMP sets the flags from a − b without a write. -/
  | cmp (p : Issuer)
  /-- MIN (R224): ALU MIN writes the unsigned minimum. -/
  | min (p : Issuer)
  /-- MAX (R224): ALU MAX writes the unsigned maximum. -/
  | max (p : Issuer)
  /-- CSUM (R224): ALU CSUM writes the folded ones' complement sum of the halves of a and b. -/
  | csum (p : Issuer)
  /-- BSWAP (R224): ALU BSWAP reverses the bytes of a. -/
  | bswap (p : Issuer)
  /-- TSDIFF (R224): ALU TSDIFF writes the signed 48-bit difference of a and b. -/
  | tsdiff (p : Issuer)
  /-- LD (R225): Memory op LD loads little-endian bytes from a space into a register. -/
  | ld (inst : Fin 256) (engine : Fin 8)
  /-- LDN (R225): Memory op LDN loads bytes in network byte order. -/
  | ldn (inst : Fin 256) (engine : Fin 8)
  /-- ST (R225): Memory op ST stores to metadata, scratch or flow writes, and a store outside the allowed bytes is
  ignored. -/
  | st (inst : Fin 256) (engine : Fin 8)
  /-- EDIT_RW (R225): Memory op EDIT_RW buffers a rewrite of window bytes. -/
  | editRw (inst : Fin 256) (engine : Fin 8)
  /-- EDIT_OP (R225): Memory op EDIT_OP buffers the edit operation held in imm. -/
  | editOp (inst : Fin 256) (engine : Fin 8)
  /-- CNT_ADD (R285): Memory op CNT_ADD buffers an addition to an action counter, applied at COMMIT. -/
  | cntAdd (inst : Fin 256) (engine : Fin 8)
  /-- UNIT (R226): Memory op UNIT issues a unit call with four operand registers. -/
  | unit (inst : Fin 256) (engine : Fin 8)
  /-- TS (R225): Memory op TS loads the current TS48. -/
  | ts (inst : Fin 256) (engine : Fin 8)
  /-- ILLEGAL_MEM (R225): Memory op 9–15 executes as sequencer code 6. -/
  | illegalMem (inst : Fin 256) (engine : Fin 8)
  /-- UNIT_RESULT (R226): A unit call's result and status arrive in the engine's registers. -/
  | unitResult (p : Issuer) (call : Fin 8)
  /-- HASH64 (R275): Unit 0 HASH64 returns SipHash of 32 bytes under LBL_HASH_KEY. -/
  | hash64 (p : Issuer)
  /-- PI (R275): Unit 0 PI returns π of a port. -/
  | pi (p : Issuer)
  /-- PI_INV (R275): Unit 0 PI_INV returns π^-1 of a value. -/
  | piInv (p : Issuer)
  /-- SNAT (R262): Unit 1 SNAT reserves a translated address and bank-preserving port from a pool. -/
  | snat (p : Issuer)
  /-- XLATE (R276): Unit 1 XLATE appends the address and port rewrites of the flow by direction. -/
  | xlate (p : Issuer)
  /-- SUB_READ (R275): Unit 1 SUB_READ returns a subscriber address. -/
  | subRead (p : Issuer)
  /-- PICK (R269): Unit 2 PICK reserves an eligible backend of a service by slot hash. -/
  | pick (p : Issuer)
  /-- BACKEND_READ (R275): Unit 2 BACKEND_READ returns a backend address. -/
  | backendRead (p : Issuer)
  /-- METER (R344): Unit 3 METER colours the packet and reserves policer tokens. -/
  | meter (p : Issuer)
  /-- BIND (R138): Unit 4 BIND reserves a fragment binding created at COMMIT. -/
  | bind (p : Issuer)
  /-- FRAG_XLATE (R138): Unit 4 XLATE appends the bound address rewrites for a later fragment. -/
  | fragXlate (p : Issuer)
  /-- FRAG_READ (R138): Unit 4 READ returns a live binding and its creation stamp. -/
  | fragRead (p : Issuer)
  /-- HIST (R286): Unit 5 HIST marks the packet for a latency histogram at COMMIT. -/
  | hist (p : Issuer)
  /-- IOAM (R297): Unit 5 IOAM fills the packet's IOAM trace option. -/
  | ioam (p : Issuer)
  /-- LOOKUP (R275): Unit 6 LOOKUP returns an exact-match result. -/
  | lookup (p : Issuer)
  /-- NH_READ (R275): Unit 7 READ returns a next-hop entry. -/
  | nhRead (p : Issuer)
  /-- RESOLVE (R283): Unit 7 RESOLVE returns the unicast handle after group selection. -/
  | resolve (p : Issuer)
  /-- UNIT_RESERVED (R226): A call to reserved units 8–15 returns a status that is not OK after 1 cycle. -/
  | unitReserved (p : Issuer)
  /-- WATCHDOG (R232): A routine that reaches its cycle limit is ended as ABORT. -/
  | watchdog (inst : Fin 256) (engine : Fin 8)
  /-- ENGINE_MCHK (R244): A machine check in an action engine discards the routine's effects and replays the packet
  elsewhere. -/
  | engineMchk (inst : Fin 256) (engine : Fin 8) (datapath : Bool)
  /-- ENGINE_RETURN (R246): A W1C write to ENG_ENGINE_RETIRED returns an engine after its self-test. -/
  | engineReturn (pipe : Fin 32) (mask : BitVec 48)
  /-- CLUSTER_PARITY (R245): A control-store or dispatch parity error stops the cluster, and a spare stands in. -/
  | clusterParity (inst : Fin 256)
  /-- CLUSTER_RELOAD_DONE (R245): The reload and self-test of the cluster end, and it returns to service or is
  retired. -/
  | clusterReloadDone (inst : Fin 256) (pass : Bool)
  /-- SWP_NEXT (R235): Sweeper sequencer NEXT goes on to the next address. -/
  | swpNext (die : Fin 2) (n : Fin 32)
  /-- SWP_JUMP (R235): Sweeper sequencer JUMP goes to target. -/
  | swpJump (die : Fin 2) (n : Fin 32)
  /-- MWAY (R235): Sweeper MWAY branches to one of 2–16 words by condition bits. -/
  | mway (die : Fin 2) (n : Fin 32)
  /-- SWP_BR_T (R235): Sweeper BR_T goes to target if c0 is true. -/
  | swpBrT (die : Fin 2) (n : Fin 32)
  /-- CKPT (R240): Sweeper CKPT completes its memory operation and saves a checkpoint. -/
  | ckpt (die : Fin 2) (n : Fin 32)
  /-- END_VISIT (R238): END_VISIT writes back the visit buffer or deletes the record, and releases the lock or tag. -/
  | endVisit (die : Fin 2) (n : Fin 32)
  /-- SWP_ILLEGAL (R235): Sweeper sequencer code 6 or 7 abandons the visit. -/
  | swpIllegal (die : Fin 2) (n : Fin 32)
  /-- SWP_LD (R237): Sweeper LD loads from the visit buffer, visit information or scratch. -/
  | swpLd (die : Fin 2) (n : Fin 32)
  /-- SWP_ST (R237): Sweeper ST stores to the visit buffer or scratch. -/
  | swpSt (die : Fin 2) (n : Fin 32)
  /-- PUSH (R237): Sweeper PUSH writes scratch words to a FIFO as one item, or is dropped without a credit. -/
  | push (die : Fin 2) (n : Fin 32)
  /-- SWP_CNT_ADD (R237): Sweeper CNT_ADD adds to a counter. -/
  | swpCntAdd (die : Fin 2) (n : Fin 32)
  /-- SWP_UNIT (R237): Sweeper UNIT issues a unit call. -/
  | swpUnit (die : Fin 2) (n : Fin 32)
  /-- SWP_TS (R237): Sweeper TS loads the current time. -/
  | swpTs (die : Fin 2) (n : Fin 32)
  /-- SWEEPER_MCHK (R247): A Sweeper machine check stops the Sweeper for a reload, holding its visit. -/
  | sweeperMchk (die : Fin 2) (n : Fin 32) (datapath : Bool)
  /-- SWEEPER_RELOAD_DONE (R247): A reloaded Sweeper restarts from its last checkpoint, or is retired. -/
  | sweeperReloadDone (die : Fin 2) (n : Fin 32) (pass : Bool)
  /-- SWEEPER_PAUSE (R242): A write to SWP_CTRL.pause interrupts a Sweeper after its current word and saves its
  context. -/
  | sweeperPause (die : Fin 2) (mask : BitVec 32)
  /-- VISIT_ABANDON (R242): A paused visit not resumed within 10 µs is abandoned. -/
  | visitAbandon (die : Fin 2) (n : Fin 32)
  /-- ROLLOUT_GO (R250): ENG_ROLL_CTRL.go fetches and checks a microcode image and starts the rollout. -/
  | rolloutGo
  /-- ROLLOUT_STEP_DONE (R250): A spare, cluster or Sweeper step of the rollout completes, and the next begins or the
  rollout ends. -/
  | rolloutStepDone (pass : Bool)
  /-- ROLLOUT_ABORT (R252): ENG_ROLL_CTRL.abort stops the rollout after the step in progress. -/
  | rolloutAbort
  /-- PORT_QUARANTINE_RELEASE (R264): A port held hold_s seconds in quarantine is returned to use. -/
  | portQuarantineRelease (die : Fin 2)
  /-- REBUILD_GO (R270): LBL_SVC_CMD.go rebuilds a service's inactive slot bank. -/
  | rebuildGo (service : Fin 16384)
  /-- REBUILD_DONE (R270): The rebuild ends by flipping active and raising EV_LBL_REBUILD_DONE. -/
  | rebuildDone
  /-- PROBE_SEND (R272): Each interval firmware probes a backend. -/
  | probeSend (backend : Fin 1048576)
  /-- PROBE_REPLY (R272): A probe reply counts toward rise and may set health to 1. -/
  | probeReply (backend : Fin 1048576)
  /-- PROBE_TIMEOUT (R272): A probe without a reply fails and may set health to 0. -/
  | probeTimeout (backend : Fin 1048576)
  /-- FRAG_BINDING_EXPIRE (R136): A fragment binding lapses 64 µs after its creation. -/
  | fragBindingExpire (die : Fin 2)
  /-- EXPORT_MESSAGE_AGE (R294): A data message whose oldest record has waited 1 ms is sent. -/
  | exportMessageAge (die : Fin 2)
  /-- TEMPLATE_SEND (R294): Every template_s seconds the exporter sends a template set. -/
  | templateSend (die : Fin 2)
  /-- PORT_WINDOW_END (R300): A bandwidth window ends, and its counts, window_seq and peak are written. -/
  | portWindowEnd (port : Fin 512)
  /-- PRF_SNAP (R302): PRF_CTRL.snap copies all counters into PRF_SNAP at one edge. -/
  | prfSnap
  /-- PRF_CLEAR (R302): PRF_CTRL.clear zeroes all counters at one edge. -/
  | prfClear
  /-- SEGMENT_REQUEST (R314): A requester asks for a segment, which is granted or refused with QUOTA or EMPTY. -/
  | segmentRequest (die : Fin 2) (requester : Fin 256) (pool : Fin 3)
  /-- SEGMENT_RETRY (R315): A loser below its minimum retries its request, and the refusal becomes final after 64
  retries. -/
  | segmentRetry (n : Nat)
  /-- SEGMENT_FREE (R320): A free decrements a reference and returns the segment, or is ignored as double or foreign.
  -/
  | segmentFree (handle : BitVec 24) (requester : Fin 256)
  /-- FIFO_WRITE (R325): A producer writes a word into a FIFO, which completes an item at its end bit or declared
  length. -/
  | fifoWrite (fifo : Fin 1024) (slot : Fin 4) (data : Word) (endBit : Bool) (len : BitVec 16)
  /-- FIFO_READ (R327): The consumer reads a word, and its credit returns to the producer. -/
  | fifoRead (fifo : Fin 1024) (parity : Fin 3)
  /-- FIFO_IDLE_TIMEOUT (R328): A whole item unread for the idle time wakes the consumer. -/
  | fifoIdleTimeout (fifo : Fin 1024)
  /-- FIFO_FLUSH (R330): FIF_CTRL.flush discards every item and sets flush_busy. -/
  | fifoFlush (fifo : Fin 1024)
  /-- FLUSH_DONE (R330): The flushed tail has ended and every credit has returned, so flush_busy clears. -/
  | flushDone (fifo : Fin 1024)
  /-- PRODUCER_STALL (R331): A producer silent mid-item for 1 µs has its partial item discarded. -/
  | producerStall (fifo : Fin 1024)
  /-- DEQUEUE (R337): The scheduler picks the next frame of a port and charges its shapers. -/
  | dequeue (port lane : Fin 512) (ahead : BitVec 24) (var : BitVec 24) (rd : BufRead)
  /-- EGRESS_CAPTURE (R359): A frame's timestamp point crosses the egress plane and takes its egress stamp. -/
  | egressCapture (port : Fin 512)
  /-- GATE_GO (R352): SCH_GATE_CTRL.go makes the written bank pending with change instant T. -/
  | gateGo (port : Fin 512)
  /-- GATE_ABORT (R352): SCH_GATE_CTRL.abort cancels the pending gate list. -/
  | gateAbort (port : Fin 512)
  /-- GATE_DISABLE (R352): A write of enable = 0 cancels the pending list, ends the operating list and opens every
  gate. -/
  | gateDisable (port : Fin 512)
  /-- GATE_BOUNDARY (R351): Local time reaches an entry boundary, and the next gate entry takes effect. -/
  | gateBoundary (port : Fin 512)
  /-- GATE_TAKEOVER (R352): At T the gate banks swap, pending clears and EV_SCH_GATE_TAKEOVER is raised. -/
  | gateTakeover (port : Fin 512)
  /-- STEP_GO (R370): TIM_ADJ_CTRL.step_go adds TIM_STEP.amount to the clock. -/
  | stepGo
  /-- SET_GO (R370): TIM_ADJ_CTRL.set_go loads the clock from TIM_SET. -/
  | setGo
  /-- SLEW_GO (R370): TIM_ADJ_CTRL.slew_go starts an exact slew at rate_ppm. -/
  | slewGo
  /-- SLEW_ABORT (R370): TIM_ADJ_CTRL.slew_abort stops the slew at once, keeping the remainder readable. -/
  | slewAbort
  /-- SLEW_DONE (R370): The slew reaches its amount and raises EV_TIM_SLEW_DONE. -/
  | slewDone
  /-- TXQ_POP (R368): TIM_TXQ_CTRL.pop removes the head of the compatibility queue. -/
  | txqPop
  /-- PPS_IN_EDGE (R374): A rising PPS_IN edge is stamped into TIM_PPS_IN. -/
  | ppsInEdge
  /-- PPS_IN_LOST (R374): No PPS_IN edge for 1.5 s raises EV_TIM_PPS_IN_LOST. -/
  | ppsInLost
  /-- SOURCE_LOST (R373): A selected time source lost for 3 s puts the firmware servo into holdover. -/
  | sourceLost
  /-- TIME_REQUEST (R376): Every 1 ms a follower sends a time transfer REQUEST on channel 4. -/
  | timeRequest
  /-- TIME_REQUEST_RECEIVE (R376): The source stamps a REQUEST and answers with a RESPONSE carrying t2 and t3. -/
  | timeRequestReceive (g : Fin 64) (seq : BitVec 16)
  /-- TIME_RESPONSE (R376): The follower computes its offset from a matching RESPONSE, or discards a mismatched one.
  -/
  | timeResponse (g : Fin 64) (seq : BitVec 16) (t2 t3 : Stamp)
  /-- PEAL_TIME_LOST (R376): No completed exchange for 10 ms sends the follower to holdover. -/
  | pealTimeLost
  /-- LEDGER_RECORD (R380): Each second the device appends a 64-byte ledger record. -/
  | ledgerRecord (info : LedgerInfo)
  /-- SERVO_LOCKED (R373): The firmware servo enters Locked once the offset has stayed within ±10 ns for 16 s. -/
  | servoLocked
  /-- TEMPERATURE_TERM_UPDATE (R377): Every 1 ms the device applies each lane's fused temperature coefficient to its
  chiplet sensor reading. -/
  | temperatureTermUpdate
  /-- PPS_OUT_RISE (R374): PPS_OUT rises when local time reaches each whole second plus out_offset. -/
  | ppsOutRise
  /-- PPS_OUT_FALL (R374): PPS_OUT falls out_width µs after it rose. -/
  | ppsOutFall
  /-- CLK10M_MEASURE (R374): Each second the CLK10M_IN frequency is measured against local time and reported in
  TIM_CLK10_STATUS. -/
  | clk10mMeasure (m : Option (BitVec 24 × BitVec 24))
  /-- TOLL_SEND (R386): Every 10 µs a device sends Toll on every Peal link that is up. -/
  | tollSend
  /-- TOLL_RECEIVE (R386): A received Toll updates the peer's state and admits it or flags an image mismatch. -/
  | tollReceive (g : Fin 64) (pos : Fin 4) (seq : BitVec 32) (info : TollInfo)
  /-- TOLL_INTERVAL_END (R387): A 10 µs interval ends, and a peer with 3 consecutive missed intervals is lost. -/
  | tollIntervalEnd
  /-- EMBER_INSERT (R392): A received Ember INSERT installs a record, with conflicts resolved in favour of twin A. -/
  | emberInsert (g : Fin 64) (die : Fin 2) (seq : BitVec 32) (image : List Byte)
  /-- EMBER_UPDATE (R391): A received Ember UPDATE applies state under the flow's lock. -/
  | emberUpdate (g : Fin 64) (die : Fin 2) (seq : BitVec 32) (body : List Byte)
  /-- EMBER_HOST_UPDATE (R391): A received HOST_UPDATE applies the record image. -/
  | emberHostUpdate (g : Fin 64) (die : Fin 2) (seq : BitVec 32) (image : List Byte)
  /-- EMBER_DELETE (R391): A received Ember DELETE deletes the record. -/
  | emberDelete (g : Fin 64) (die : Fin 2) (seq : BitVec 32) (body : List Byte)
  /-- EMBER_COUNTER (R397): A received COUNTER adds increments and takes a later last_seen_s. -/
  | emberCounter (g : Fin 64) (die : Fin 2) (seq : BitVec 32) (body : List Byte)
  /-- EMBER_TOUCH (R398): A received TOUCH takes a later last_seen_s. -/
  | emberTouch (g : Fin 64) (die : Fin 2) (seq : BitVec 32) (body : List Byte)
  /-- EMBER_ACK (R394): A received ACK advances the acknowledged sequence and releases held first packets. -/
  | emberAck (g : Fin 64) (die : Fin 2) (seq : BitVec 32)
  /-- SYNC_TIMEOUT (R396): A held packet waiting timeout_us treats the Ember stream as down. -/
  | syncTimeout (die : Fin 2)
  /-- COUNTER_WALK (R397): Every 10 ms a die flushes resident deltas and sends COUNTER entries. -/
  | counterWalk (die : Fin 2)
  /-- EMBER_UP (R400): The Ember stream comes up, and the backlog is sent, or merge Kindling runs after an overflow.
  -/
  | emberUp (die : Fin 2) (key : Word × Word)
  /-- BACKLOG_DRAINED (R400): With the backlog drained and the lag within bound, holds resume and EV_TWN_EMBER_UP is
  raised. -/
  | backlogDrained (die : Fin 2)
  /-- KINDLING_IMAGE (R405): A channel 2 message installs record images whose keys have no record. -/
  | kindlingImage (g : Fin 64) (die : Fin 2) (mode : Fin 3) (count : Fin 81) (body : List Byte) (key : Word × Word)
  /-- KINDLE_DONE (R406): With the lag held within bound for 1 ms, the receiver enters SERVING. -/
  | kindleDone
  /-- KINDLE_MERGE (R407): TWN_KINDLE_CTRL.merge starts two-way merge Kindling. -/
  | kindleMerge
  /-- KINDLE_HOST_DONE (R408): TWN_KINDLE_CTRL.done ends host copying, and R406 applies from it. -/
  | kindleHostDone
  /-- DIST_WRITE32 (R413): A distribution WRITE32 is executed on each accepting target as requester 12. -/
  | distWrite32 (g : Fin 64) (tag : BitVec 16) (offset : BitVec 32) (value : BitVec 32)
  /-- DIST_WRITE64 (R413): A distribution WRITE64 is executed on each accepting target. -/
  | distWrite64 (g : Fin 64) (tag : BitVec 16) (offset : BitVec 32) (value : Word)
  /-- DIST_WRITE64_AT (R413): A distribution WRITE64_AT is scheduled for its TS96 on each target. -/
  | distWrite64At (g : Fin 64) (tag : BitVec 16) (offset : BitVec 32) (value : Word) (due : Stamp)
  /-- DIST_WRITE_AT_EXECUTE (R413): Local time reaches a WRITE64_AT's time, and the write executes. -/
  | distWriteAtExecute
  /-- DIST_DIGEST_LIST (R413): A distribution DIGEST_LIST returns the target's component digests. -/
  | distDigestList (g : Fin 64) (tag : BitVec 16)
  /-- DIST_RESULT (R412): A received result or digest list marks its target done or refused in the command. -/
  | distResult (g : Fin 64) (tag : BitVec 16) (refused : Bool)
  /-- DIST_SILENT (R412): A target silent for 1 ms is marked refused or silent. -/
  | distSilent (pos : Fin 5)
  /-- DIGEST_DIVERGE (R414): A mismatch lasting grace_ms sends DIGEST_LIST, captures the component and raises
  EV_TWN_CFG_DIVERGE. -/
  | digestDiverge (pos : Fin 5) (theirs : List (Nat × Nat × Nat))
  /-- RX_DOORBELL (R420): A write of a receive ring's tail posts descriptors. -/
  | rxDoorbell (ring : Fin 2048) (tail : BitVec 16) (buffers : List (BitVec 64))
  /-- TX_DOORBELL (R420): A write of a transmit ring's tail posts descriptors for fetch. -/
  | txDoorbell (ring : Fin 2048) (tail : BitVec 16)
  /-- TX_DIRECT (R424): A direct transmit descriptor queues its frame on the egress port. -/
  | txDirect (ring : Fin 2048) (desc : TxDesc)
  /-- TX_INJECT (R424): An inject descriptor sends its frame to the ingress port's intake. -/
  | txInject (ring : Fin 2048) (desc : TxDesc)
  /-- MSIX_FIRE (R426): A ring's moderation interval ends after a write-back, and its vector fires. -/
  | msixFire (kind : Fin 3) (n : Fin 2048)
  /-- FETCH_ERROR (R427): A failed descriptor or buffer read disables the ring or stops the command ring. -/
  | fetchError (kind : Fin 4) (n : Fin 2048) (frame : Bool)
  /-- MODE_MOVE (R429): HST_MODE_CTRL.go asks firmware to move a function, which is refused or started. -/
  | modeMove (function : Fin 16) (host : Bool)
  /-- MODE_MOVE_DONE (R430): The move's transition applies, the mode field is written and EV_HST_MODE_DONE is raised.
  -/
  | modeMoveDone
  /-- EVENT_RING_ENABLE (R433): Enabling an event ring resets head, rd, sequence and phase. -/
  | eventRingEnable (ring : Fin 8)
  /-- PCIE_LINK_UP (R484): After PERST_N is released and the SDT is published, the PCIe link trains and comes up. -/
  | pcieLinkUp
  /-- D3HOT_TRANSITION (R417): A power-management write moves the function between D0 and D3hot, which stops or
  restarts DMA while forwarding runs. -/
  | d3hotTransition (on : Bool)
  /-- DEBUG_TOKEN (R452): SEC_CMD op DEBUG_TOKEN verifies a token and opens debug access, or denies it. -/
  | debugToken (req : Fin 13) (length : BitVec 13)
  /-- STORE_CLEAR_DONE (R454): The store clear ends, new keys are drawn, intake reopens and the scope opens. -/
  | storeClearDone
  /-- FUSE_REQUEST (R439): SEC_CMD op FUSE_REQUEST checks a signed request and starts programming or revoking a slot.
  -/
  | fuseRequest (req : Fin 13) (length : BitVec 13)
  /-- FUSE_PROGRAM_DONE (R439): The fuse burn completes and verifies, or fails with result 7. -/
  | fuseProgramDone (verified : Bool)
  /-- QUOTE (R448): SEC_CMD op QUOTE writes a signed quote over SEC_BLOB. -/
  | quote (req : Fin 13)
  /-- NEW_CHALLENGE (R450): SEC_CMD op NEW_CHALLENGE draws a new challenge into SEC_CHAL. -/
  | newChallenge (req : Fin 13)
  /-- EPOCH_COMMIT (R443): SEC_CMD op EPOCH_COMMIT blows the epoch thermometer up to the lowest running epoch. -/
  | epochCommit (req : Fin 13)
  /-- CHALLENGE_LAPSE (R450): A challenge lapses 600 s after it was drawn. -/
  | challengeLapse
  /-- LADDER_READY (R445): The key ladder finishes deriving the identity key and sets ladder_ready. -/
  | ladderReady
  /-- BYPASS (R456): JTAG BYPASS selects the bypass register. -/
  | bypass
  /-- IDCODE (R456): JTAG IDCODE selects the IDCODE register. -/
  | idcode
  /-- SAMPLE_PRELOAD (R456): JTAG SAMPLE/PRELOAD reaches the boundary cells without effect on operation. -/
  | samplePreload
  /-- EXTEST (R456): JTAG EXTEST drives the pins from the boundary cells, removing them from functional control. -/
  | extest
  /-- CLAMP (R456): JTAG CLAMP holds the pins from the boundary cells. -/
  | clamp
  /-- HIGHZ (R456): JTAG HIGHZ floats the pins. -/
  | highz
  /-- EXTEST_PULSE (R456): JTAG EXTEST_PULSE runs the 1149.6 AC test of the lanes. -/
  | extestPulse
  /-- EXTEST_TRAIN (R456): JTAG EXTEST_TRAIN runs the 1149.6 AC test with pulse trains. -/
  | extestTrain
  /-- SECACC (R456): JTAG SECACC reaches the SEC command registers as requester 10. -/
  | secacc (write : Bool) (addr : BitVec 27) (size : Fin 16) (value : Word)
  /-- REGACC (R457): JTAG REGACC reaches BAR0 while scope bit 3 is open, and is otherwise ignored and captured. -/
  | regacc (write : Bool) (addr : BitVec 27) (size : Fin 16) (value : Word)
  /-- SCRUB_READ (R461): A patrol read checks a protected word and writes back any correction. -/
  | scrubRead (at_ : ScrubAt) (result : Fin 4) (last : Bool)
  /-- CE_WINDOW_END (R464): A channel's error window ends, and the die may start an automatic evacuation. -/
  | ceWindowEnd (die : Fin 2) (channel : Fin 32)
  /-- CHANNEL_LOST (R466): A lost channel is mapped onto the reserve, its records are quarantined and its regions are
  rebuilt. -/
  | channelLost (own : Bool) (die : Fin 2) (channel : Fin 32) (regions : BitVec 4) (records : List Nat)
  /-- QUAR_RELEASE_REQUEST (R469): FLW_QUAR_CTRL.release releases a record number at the end of the next scan. -/
  | quarReleaseRequest (die : Fin 2) (record : BitVec 28)
  /-- CORE_MACHINE_CHECK (R471): A core machine check stops the core and restarts its tasks on the survivors. -/
  | coreMachineCheck (core : Fin 8) (ue : Option (BitVec 32))
  /-- CORE_HEARTBEAT_MISS (R471): A core that misses its heartbeat for 1 ms is failed. -/
  | coreHeartbeatMiss (core : Fin 8)
  /-- CORE_RETURN (R471): GLB_CORE_CTRL.go self-tests a core and returns it to service. -/
  | coreReturn (pass : Bool)
  /-- SWAP_GO (R474): BOOT_SWAP_CTRL.go fetches a firmware image into the standby slot. -/
  | swapGo
  /-- SWAP_VERIFY_DONE (R474): The swap image is checked, and the cores hand over to it or the swap is rejected. -/
  | swapVerifyDone (image : List Byte)
  /-- SWAP_REVERT (R475): BOOT_SWAP_CTRL.revert hands over to the other slot's image after its checks. -/
  | swapRevert
  /-- SWAP_AUTO_REVERT (R475): New firmware without a heartbeat after 100 ms reverts automatically. -/
  | swapAutoRevert
  /-- ROLLOUT_FETCH_DONE (R250): The rollout image fetch and checks complete, and the rollout proceeds to spares or is
  rejected. -/
  | rolloutFetchDone (image : List Byte)
  /-- AVS_COMMAND (R482): The device sends an AVSBus command that moves a core rail target by at most 5 mV. -/
  | avsCommand (rail : Fin 3) (want : BitVec 12) (ack : Bool)
  /-- MARGIN_FAIL (R483): Negative margin at 0.78 V for 100 µs trips with cause 5. -/
  | marginFail (rail : Fin 3)
  /-- SENSOR_READING (R492): A new sensor reading crosses the warn, crit or trip threshold. -/
  | sensorReading (sensor : Fin 36) (value : BitVec 12)
  /-- ANALOG_TRIP (R492): The 125 °C analog comparator trips with cause 1. -/
  | analogTrip (die : Fin 2)
  /-- PWR_FAULT (R493): PWR_FAULT_N low, or a rail out of setpoint, for 10 µs trips with cause 2. -/
  | pwrFault
  /-- COOLANT_FAULT (R493): COOLANT_FAULT_N low for 100 µs trips with cause 3. -/
  | coolantFault
  /-- TRIP_RAMP_DONE (R494): The trip ramp ends, and the forwarding dies' clocks stop. -/
  | tripRampDone
  /-- DAMPER_REQUEST (R488): A staged change of activity asks the Damper for its current step. -/
  | damperRequest (rail : Fin 3) (step amps ballast : BitVec 32)
  /-- DAMPER_GRANT (R488): A waiting request's step fits under the ceiling and is granted. -/
  | damperGrant (rail : Fin 3) (amps ballast : BitVec 32)
  /-- DAMPER_DEFER (R488): A request waiting 100 µs raises EV_PWR_DAMPER_DEFER. -/
  | damperDefer (rail : Fin 3)
  /-- SB_STATUS (R502): Sideband STATUS returns the status word and releases SMB_ALERT_N. -/
  | sbStatus
  /-- SB_READ (R502): Sideband READ returns one 64-bit BAR0 value. -/
  | sbRead (addr : BitVec 27)
  /-- SB_WRITE (R502): Sideband WRITE applies to PWR and CLK registers only. -/
  | sbWrite (addr : BitVec 27) (value : Word)
  deriving DecidableEq, Repr

end Sys2Proof
end

