-- ==== Sys2Proof/Config.lean ====
section
/-! DEFINITION. What one implementation fixes and what the spec leaves open. Every constant without a body is a
free value: nothing in Lean can evaluate it, and each is named in an entry of the assumption log. -/
namespace Sys2Proof.Config

/-- Draw `n` of the buffer pool manager's choice among free segments (R314 names none). -/
opaque segmentPick : Nat → Nat

/-- Draw `n` of a die's 16-bit ECN marking LFSR (R336; the polynomial is not given), below 65,536. -/
opaque ecnDraw : Nat → Fin 65536

/-- Fused receive and transmit path constants of a lane in picoseconds (R377). -/
opaque fusedRx : Nat → Int
opaque fusedTx : Nat → Int

/-- Temperature term of a lane and direction for a chiplet reading, in picoseconds (R377). -/
opaque tempCoefRx : Nat → Int → Int
opaque tempCoefTx : Nat → Int → Int

/-- The signature of the device identity key over a byte list (R381, R448); its key is never readable. -/
opaque identitySign : List Byte → List Byte

/-- Bytes past the end of the frame or window that a selector or length byte reaches (R123 states none). -/
opaque beyondWindow : Nat → Byte

/-- Draw `n` of the intake's choice between new frames and waiting side descriptors within the share (R17). -/
opaque intakePick : Nat → Bool

/-- Draw `n` of whether an exact-match add above 95% finds room (R146). -/
opaque exmRoom : Nat → Bool

/-- The class a lookup without a result gives its selector (R143 states none). -/
opaque classOfNone : Fin 4096

/-- SDT entry index of an indirect table (R36: the order of the SDT is not given). -/
opaque sdtIndexOf : Nat → BitVec 24

/-- Draw `n` of the sampler's jitter LFSR (R303; its polynomial is not given). -/
opaque sampleJitter : Nat → Nat

/-- π and its inverse over the 16-bit ports under a bank key (R178; its construction is not given). -/
opaque portPerm : Word → Word → Nat → Fin 65536
opaque portPermInv : Word → Word → Nat → Fin 65536

/-- Draw `n` of the subscriber entry an address is interned in (R265 names none). -/
opaque subscriberPick : Nat → Nat

/-- Draw `n` of a result word that a unit's rule does not name (R226, R275). -/
opaque unitRest : Nat → BitVec 64

/-- timeout_sel of a record that the hardware creates, until its first Sweeper visit (R198 states none). -/
opaque newTimeoutSel : Fin 16

/-- A load-balancer encapsulation template with the backend address at the bytes its flag bits name, of flags,
address and data (R274: the flag bits that name them are not given). -/
opaque encapTemplate : Nat → List Byte → List Byte → List Byte

/-- Priority and drop-eligible bits of a pushed VLAN tag (R283 states none). -/
opaque vlanPcp : Fin 16

/-- The bytes of a table entry that a digest hashes after the table's SDT index: its entry index and content, of
table, key and words (R57; the entry layouts of the SDT are not given). -/
opaque digestEntry : Nat → List Nat → List Nat → List Byte

/-- Output `n` of the device's random source (R444), 64 bits. -/
opaque random : Nat → BitVec 64

/-- Fused device serial and Frealrex debug anchor (R436). -/
opaque fusedSerial : BitVec 64
opaque fusedDebugAnchor : List Byte

/-- Identity of the device (R445): modulus and certificate signature, and decryption with its private key. -/
opaque identityModulus : List Byte
opaque identityCertificate : List Byte
opaque identityDecrypt : List Byte → List Byte

/-- Modulus of the device CA key in boot ROM, and the boot ROM's version (R446, R447). -/
opaque caModulus : List Byte
opaque romVersion : Nat

/-- What the sections of types 1 to 4 of a configuration image say (R65 gives no format): the register writes (offset,
width, value) of a section; the ports of the port map with their lanes; peer lane groups by position (4: the twin's
board); boot links by position; Ember lane groups; the twin's position and role. -/
opaque sectionWrites : Nat → List Byte → List (Nat × Nat × Nat)
opaque portMap : List Byte → List (Nat × List Nat)
opaque pealMap : List Byte → List (Nat × Nat)
opaque bootLinks : List Byte → List (Nat × Nat)
opaque emberGroups : List Byte → List Nat
opaque twinPlace : List Byte → Nat
opaque twinRole : List Byte → Fin 3

/-- The SDT as 32-bit words by BAR0 offset beyond the header words R34 fixes. -/
opaque sdtWord : Nat → BitVec 32

/-- What the table windows of BAR0 hold (R29 names no addresses): the table by number, its instance, entry and 64-bit
word that an 8-byte aligned offset reaches. -/
opaque windowAt : Nat → Option (Nat × Nat × Nat × Nat)

/-- What host memory holds where a register write makes the device read it: a buffer address of a receive descriptor
(R421). -/
opaque hostWord : Nat → Nat

/-- Fused power figures (R482, R486): the current in A of a core rail with clocks running, no traffic and no ballast, at
a temperature in units of 0.125 °C; and with the clocks stopped. -/
opaque staticAmps : Nat → Int → Nat
opaque stoppedAmps : Nat → Nat

/-- Manufacturer field of IDCODE (R456 leaves it to the BSDL file). -/
opaque jtagManufacturer : BitVec 11

end Sys2Proof.Config
end

