-- ==== Sys2Proof/Machine/Events.lean ====
section
/-! DEFINITION. The event codes of revision A0 (R431, R435): code, default severity. -/
namespace Sys2Proof.Machine

/-- One constructor per event code of R435; the manual's name is EV_ and the constructor's name. -/
inductive Ev where
  | GLB_LOCK_VIOLATION | GLB_NOT_DRAINED | GLB_HOLD_EXPIRED | GLB_TRIGGER_BUSY | GLB_TRIGGER_CONFLICT | CLK_REF_LOST 
  | CLK_REF_RESTORED | PWR_THERM_WARN | PWR_THERM_CRIT | PWR_TRIP | PWR_DAMPER_DEFER | PWR_AVS_LIMIT | PWR_RAIL_FAULT 
  | BOOT_IMAGE_REJECTED | BOOT_RELAY_TIMEOUT | BOOT_FW_REJECTED | BOOT_FW_TIMEOUT | BOOT_FW_EARLY | BOOT_RUNNING 
  | SEC_DEBUG_OPENED | SEC_DEBUG_DENIED | SEC_ROLLBACK | SEC_ZEROIZED | SEC_FUSE_FAULT | SDT_WRITE 
  | EVT_RING_OVERFLOW | EVT_CFG_INVALID | HST_BAD_ACCESS | HST_BAR2_WRITE | HST_HOST_LOST | HST_HOST_RETURNED 
  | HST_RX_RING_FULL | HST_TX_DESC_INVALID | HST_FETCH_ERROR | HST_NO_GROUP | HST_MODE_DONE | HST_MODE_REFUSED 
  | TIM_ONESTEP_DROP | TIM_TXQ_OVERFLOW | TIM_STEP | TIM_SLEW_DONE | TIM_PPS_IN_LOST | TIM_RCLK_SQUELCH 
  | TIM_PEAL_LOST | TIM_CAL_CHANGED | TIM_CAL_FAULT | TIM_LEDGER_SIGNED | TWN_PEER_MISSING | TWN_PEER_FAILED 
  | TWN_COMPAT | TWN_LAG | TWN_HOLD_FULL | TWN_SYNC_TIMEOUT | TWN_EMBER_DOWN | TWN_EMBER_UP | TWN_BACKLOG_OVERFLOW 
  | TWN_KINDLE_DONE | TWN_KINDLE_ABANDONED | TWN_CFG_DIVERGE | TWN_CFG_AGREE | PEL_MEMBER_MISSING | PEL_MEMBER_JOINED 
  | PEL_MEMBER_LOST | PEL_IMAGE_MISMATCH | PEL_CFG_INVALID | PEL_LINK_UP | PEL_LINK_DOWN | PEL_SPARE_IN 
  | PEL_DIST_REFUSED | LANE_FEC_DEGRADE | LANE_FAILED | LANE_RECAL_DONE | MAC_LINK_UP | MAC_LINK_DOWN 
  | MAC_CFG_INVALID | PRS_INTAKE_OVERRUN | PRS_DEPTH | PRS_LEN_CONFLICT | PRS_GRAPH_ECC | PRS_ENGINE_RETIRED 
  | CLS_STAGE_CLOSED | CLS_GEN_DRAINED | CLS_LIFETIME | CLS_RECIRC_LIMIT | CLS_REVOKE_DONE | TCM_FALSE_HIT 
  | TCM_ENTRY_RETIRED | TCM_ORDER | TCM_HOLES_LOW | TCM_THROTTLE | FLW_SHED | FLW_TABLE_FULL | FLW_BANK_SPLIT 
  | FLW_MISS_HOLD_WARN | FLW_HOST_PENDING_TIMEOUT | FLW_RECORD_UE | FLW_EVAC_DONE | HRT_ENTRY_UE | HRT_BANK_RETIRED 
  | HRT_SPARES_LOW | ENG_NO_ROUTINE | ENG_ILLEGAL | ENG_TXN_OVERFLOW | ENG_WATCHDOG | ENG_REGION | ENG_MCHK 
  | ENG_REPLAY_DROP | ENG_ENGINE_RETIRED | ENG_CLUSTER_RETIRED | ENG_SPARES_LOW | ENG_COMPAT | ENG_ROLL_DONE 
  | ENG_ROLL_REJECTED | SWP_ILLEGAL | SWP_MCHK | SWP_RETIRED | SWP_VISIT_SLOW | SWP_SCAN_SLOW | BPM_CFG_INVALID 
  | BPM_OVERCOMMIT | BPM_WARN | BPM_LOSSLESS_DROP | BPM_BAD_HANDLE | BPM_DOUBLE_FREE | BPM_FOREIGN_FREE | BPM_ECC_UE 
  | BPM_SEG_RETIRED | FIF_CFG_INVALID | FIF_PARITY | FIF_FLUSH_DONE | FIF_PRODUCER_STALL | SCH_QMAP | SCH_MAX_WAIT 
  | SCH_GATE_OVERSIZE | SCH_GATE_TAKEOVER | TEL_EXPORT_LOST | PRF_SAMPLE_FULL | NAT_EXHAUSTED | NAT_SUB_FULL 
  | NAT_QUARANTINE_FULL | LBL_NONE_ELIGIBLE | LBL_REBUILD_DONE | LBL_BACKEND_DOWN | LBL_BACKEND_UP 
  | LBL_PROBE_OVERLOAD
  deriving DecidableEq

def Ev.all0 : List Ev :=
  [.GLB_LOCK_VIOLATION, .GLB_NOT_DRAINED, .GLB_HOLD_EXPIRED, .GLB_TRIGGER_BUSY, .GLB_TRIGGER_CONFLICT, .CLK_REF_LOST, .CLK_REF_RESTORED, .PWR_THERM_WARN, .PWR_THERM_CRIT, .PWR_TRIP, .PWR_DAMPER_DEFER, .PWR_AVS_LIMIT, .PWR_RAIL_FAULT, .BOOT_IMAGE_REJECTED, .BOOT_RELAY_TIMEOUT, .BOOT_FW_REJECTED, .BOOT_FW_TIMEOUT, .BOOT_FW_EARLY, .BOOT_RUNNING, .SEC_DEBUG_OPENED, .SEC_DEBUG_DENIED, .SEC_ROLLBACK, .SEC_ZEROIZED, .SEC_FUSE_FAULT, .SDT_WRITE, .EVT_RING_OVERFLOW, .EVT_CFG_INVALID, .HST_BAD_ACCESS, .HST_BAR2_WRITE, .HST_HOST_LOST]
def Ev.all1 : List Ev :=
  [.HST_HOST_RETURNED, .HST_RX_RING_FULL, .HST_TX_DESC_INVALID, .HST_FETCH_ERROR, .HST_NO_GROUP, .HST_MODE_DONE, .HST_MODE_REFUSED, .TIM_ONESTEP_DROP, .TIM_TXQ_OVERFLOW, .TIM_STEP, .TIM_SLEW_DONE, .TIM_PPS_IN_LOST, .TIM_RCLK_SQUELCH, .TIM_PEAL_LOST, .TIM_CAL_CHANGED, .TIM_CAL_FAULT, .TIM_LEDGER_SIGNED, .TWN_PEER_MISSING, .TWN_PEER_FAILED, .TWN_COMPAT, .TWN_LAG, .TWN_HOLD_FULL, .TWN_SYNC_TIMEOUT, .TWN_EMBER_DOWN, .TWN_EMBER_UP, .TWN_BACKLOG_OVERFLOW, .TWN_KINDLE_DONE, .TWN_KINDLE_ABANDONED, .TWN_CFG_DIVERGE, .TWN_CFG_AGREE]
def Ev.all2 : List Ev :=
  [.PEL_MEMBER_MISSING, .PEL_MEMBER_JOINED, .PEL_MEMBER_LOST, .PEL_IMAGE_MISMATCH, .PEL_CFG_INVALID, .PEL_LINK_UP, .PEL_LINK_DOWN, .PEL_SPARE_IN, .PEL_DIST_REFUSED, .LANE_FEC_DEGRADE, .LANE_FAILED, .LANE_RECAL_DONE, .MAC_LINK_UP, .MAC_LINK_DOWN, .MAC_CFG_INVALID, .PRS_INTAKE_OVERRUN, .PRS_DEPTH, .PRS_LEN_CONFLICT, .PRS_GRAPH_ECC, .PRS_ENGINE_RETIRED, .CLS_STAGE_CLOSED, .CLS_GEN_DRAINED, .CLS_LIFETIME, .CLS_RECIRC_LIMIT, .CLS_REVOKE_DONE, .TCM_FALSE_HIT, .TCM_ENTRY_RETIRED, .TCM_ORDER, .TCM_HOLES_LOW, .TCM_THROTTLE]
def Ev.all3 : List Ev :=
  [.FLW_SHED, .FLW_TABLE_FULL, .FLW_BANK_SPLIT, .FLW_MISS_HOLD_WARN, .FLW_HOST_PENDING_TIMEOUT, .FLW_RECORD_UE, .FLW_EVAC_DONE, .HRT_ENTRY_UE, .HRT_BANK_RETIRED, .HRT_SPARES_LOW, .ENG_NO_ROUTINE, .ENG_ILLEGAL, .ENG_TXN_OVERFLOW, .ENG_WATCHDOG, .ENG_REGION, .ENG_MCHK, .ENG_REPLAY_DROP, .ENG_ENGINE_RETIRED, .ENG_CLUSTER_RETIRED, .ENG_SPARES_LOW, .ENG_COMPAT, .ENG_ROLL_DONE, .ENG_ROLL_REJECTED, .SWP_ILLEGAL, .SWP_MCHK, .SWP_RETIRED, .SWP_VISIT_SLOW, .SWP_SCAN_SLOW, .BPM_CFG_INVALID, .BPM_OVERCOMMIT]
def Ev.all4 : List Ev :=
  [.BPM_WARN, .BPM_LOSSLESS_DROP, .BPM_BAD_HANDLE, .BPM_DOUBLE_FREE, .BPM_FOREIGN_FREE, .BPM_ECC_UE, .BPM_SEG_RETIRED, .FIF_CFG_INVALID, .FIF_PARITY, .FIF_FLUSH_DONE, .FIF_PRODUCER_STALL, .SCH_QMAP, .SCH_MAX_WAIT, .SCH_GATE_OVERSIZE, .SCH_GATE_TAKEOVER, .TEL_EXPORT_LOST, .PRF_SAMPLE_FULL, .NAT_EXHAUSTED, .NAT_SUB_FULL, .NAT_QUARANTINE_FULL, .LBL_NONE_ELIGIBLE, .LBL_REBUILD_DONE, .LBL_BACKEND_DOWN, .LBL_BACKEND_UP, .LBL_PROBE_OVERLOAD]

/-- Every event of R435. -/
def Ev.all : List Ev :=
  Ev.all0 ++ Ev.all1 ++ Ev.all2 ++ Ev.all3 ++ Ev.all4

/-- The 11-bit event code (R31, R435). -/
def Ev.code : Ev → Nat
  | .GLB_LOCK_VIOLATION => 0x000
  | .GLB_NOT_DRAINED => 0x001
  | .GLB_HOLD_EXPIRED => 0x002
  | .GLB_TRIGGER_BUSY => 0x003
  | .GLB_TRIGGER_CONFLICT => 0x004
  | .CLK_REF_LOST => 0x040
  | .CLK_REF_RESTORED => 0x041
  | .PWR_THERM_WARN => 0x060
  | .PWR_THERM_CRIT => 0x061
  | .PWR_TRIP => 0x062
  | .PWR_DAMPER_DEFER => 0x063
  | .PWR_AVS_LIMIT => 0x064
  | .PWR_RAIL_FAULT => 0x065
  | .BOOT_IMAGE_REJECTED => 0x0A0
  | .BOOT_RELAY_TIMEOUT => 0x0A1
  | .BOOT_FW_REJECTED => 0x0A2
  | .BOOT_FW_TIMEOUT => 0x0A3
  | .BOOT_FW_EARLY => 0x0A4
  | .BOOT_RUNNING => 0x0A5
  | .SEC_DEBUG_OPENED => 0x0C0
  | .SEC_DEBUG_DENIED => 0x0C1
  | .SEC_ROLLBACK => 0x0C2
  | .SEC_ZEROIZED => 0x0C3
  | .SEC_FUSE_FAULT => 0x0C4
  | .SDT_WRITE => 0x100
  | .EVT_RING_OVERFLOW => 0x110
  | .EVT_CFG_INVALID => 0x111
  | .HST_BAD_ACCESS => 0x120
  | .HST_BAR2_WRITE => 0x121
  | .HST_HOST_LOST => 0x122
  | .HST_HOST_RETURNED => 0x123
  | .HST_RX_RING_FULL => 0x124
  | .HST_TX_DESC_INVALID => 0x125
  | .HST_FETCH_ERROR => 0x126
  | .HST_NO_GROUP => 0x127
  | .HST_MODE_DONE => 0x128
  | .HST_MODE_REFUSED => 0x129
  | .TIM_ONESTEP_DROP => 0x180
  | .TIM_TXQ_OVERFLOW => 0x181
  | .TIM_STEP => 0x182
  | .TIM_SLEW_DONE => 0x183
  | .TIM_PPS_IN_LOST => 0x184
  | .TIM_RCLK_SQUELCH => 0x185
  | .TIM_PEAL_LOST => 0x186
  | .TIM_CAL_CHANGED => 0x187
  | .TIM_CAL_FAULT => 0x188
  | .TIM_LEDGER_SIGNED => 0x189
  | .TWN_PEER_MISSING => 0x200
  | .TWN_PEER_FAILED => 0x201
  | .TWN_COMPAT => 0x202
  | .TWN_LAG => 0x203
  | .TWN_HOLD_FULL => 0x204
  | .TWN_SYNC_TIMEOUT => 0x205
  | .TWN_EMBER_DOWN => 0x206
  | .TWN_EMBER_UP => 0x207
  | .TWN_BACKLOG_OVERFLOW => 0x208
  | .TWN_KINDLE_DONE => 0x209
  | .TWN_KINDLE_ABANDONED => 0x20A
  | .TWN_CFG_DIVERGE => 0x20B
  | .TWN_CFG_AGREE => 0x20C
  | .PEL_MEMBER_MISSING => 0x280
  | .PEL_MEMBER_JOINED => 0x281
  | .PEL_MEMBER_LOST => 0x282
  | .PEL_IMAGE_MISMATCH => 0x283
  | .PEL_CFG_INVALID => 0x284
  | .PEL_LINK_UP => 0x285
  | .PEL_LINK_DOWN => 0x286
  | .PEL_SPARE_IN => 0x287
  | .PEL_DIST_REFUSED => 0x288
  | .LANE_FEC_DEGRADE => 0x300
  | .LANE_FAILED => 0x301
  | .LANE_RECAL_DONE => 0x302
  | .MAC_LINK_UP => 0x380
  | .MAC_LINK_DOWN => 0x381
  | .MAC_CFG_INVALID => 0x382
  | .PRS_INTAKE_OVERRUN => 0x3C0
  | .PRS_DEPTH => 0x3C1
  | .PRS_LEN_CONFLICT => 0x3C2
  | .PRS_GRAPH_ECC => 0x3C3
  | .PRS_ENGINE_RETIRED => 0x3C4
  | .CLS_STAGE_CLOSED => 0x400
  | .CLS_GEN_DRAINED => 0x401
  | .CLS_LIFETIME => 0x402
  | .CLS_RECIRC_LIMIT => 0x403
  | .CLS_REVOKE_DONE => 0x404
  | .TCM_FALSE_HIT => 0x440
  | .TCM_ENTRY_RETIRED => 0x441
  | .TCM_ORDER => 0x442
  | .TCM_HOLES_LOW => 0x443
  | .TCM_THROTTLE => 0x444
  | .FLW_SHED => 0x480
  | .FLW_TABLE_FULL => 0x481
  | .FLW_BANK_SPLIT => 0x482
  | .FLW_MISS_HOLD_WARN => 0x483
  | .FLW_HOST_PENDING_TIMEOUT => 0x484
  | .FLW_RECORD_UE => 0x485
  | .FLW_EVAC_DONE => 0x486
  | .HRT_ENTRY_UE => 0x500
  | .HRT_BANK_RETIRED => 0x501
  | .HRT_SPARES_LOW => 0x502
  | .ENG_NO_ROUTINE => 0x540
  | .ENG_ILLEGAL => 0x541
  | .ENG_TXN_OVERFLOW => 0x542
  | .ENG_WATCHDOG => 0x543
  | .ENG_REGION => 0x544
  | .ENG_MCHK => 0x545
  | .ENG_REPLAY_DROP => 0x546
  | .ENG_ENGINE_RETIRED => 0x547
  | .ENG_CLUSTER_RETIRED => 0x548
  | .ENG_SPARES_LOW => 0x549
  | .ENG_COMPAT => 0x54A
  | .ENG_ROLL_DONE => 0x54B
  | .ENG_ROLL_REJECTED => 0x54C
  | .SWP_ILLEGAL => 0x5A0
  | .SWP_MCHK => 0x5A1
  | .SWP_RETIRED => 0x5A2
  | .SWP_VISIT_SLOW => 0x5A3
  | .SWP_SCAN_SLOW => 0x5A4
  | .BPM_CFG_INVALID => 0x5E0
  | .BPM_OVERCOMMIT => 0x5E1
  | .BPM_WARN => 0x5E2
  | .BPM_LOSSLESS_DROP => 0x5E3
  | .BPM_BAD_HANDLE => 0x5E4
  | .BPM_DOUBLE_FREE => 0x5E5
  | .BPM_FOREIGN_FREE => 0x5E6
  | .BPM_ECC_UE => 0x5E7
  | .BPM_SEG_RETIRED => 0x5E8
  | .FIF_CFG_INVALID => 0x620
  | .FIF_PARITY => 0x621
  | .FIF_FLUSH_DONE => 0x622
  | .FIF_PRODUCER_STALL => 0x623
  | .SCH_QMAP => 0x660
  | .SCH_MAX_WAIT => 0x661
  | .SCH_GATE_OVERSIZE => 0x662
  | .SCH_GATE_TAKEOVER => 0x663
  | .TEL_EXPORT_LOST => 0x6A0
  | .PRF_SAMPLE_FULL => 0x6D0
  | .NAT_EXHAUSTED => 0x6E0
  | .NAT_SUB_FULL => 0x6E1
  | .NAT_QUARANTINE_FULL => 0x6E2
  | .LBL_NONE_ELIGIBLE => 0x720
  | .LBL_REBUILD_DONE => 0x721
  | .LBL_BACKEND_DOWN => 0x722
  | .LBL_BACKEND_UP => 0x723
  | .LBL_PROBE_OVERLOAD => 0x724

/-- Default severity (R435): 0 info, 1 notice, 2 warning, 3 error, 4 fatal. -/
def Ev.severity : Ev → Nat
  | .BOOT_RUNNING => 0
  | .HST_MODE_DONE => 0
  | .TIM_SLEW_DONE => 0
  | .TIM_LEDGER_SIGNED => 0
  | .LANE_RECAL_DONE => 0
  | .CLS_GEN_DRAINED => 0
  | .CLS_REVOKE_DONE => 0
  | .FIF_FLUSH_DONE => 0
  | .LBL_REBUILD_DONE => 0
  | .GLB_TRIGGER_BUSY => 1
  | .CLK_REF_RESTORED => 1
  | .PWR_DAMPER_DEFER => 1
  | .SEC_ZEROIZED => 1
  | .HST_HOST_RETURNED => 1
  | .TIM_STEP => 1
  | .TIM_RCLK_SQUELCH => 1
  | .TIM_CAL_CHANGED => 1
  | .TWN_EMBER_UP => 1
  | .TWN_KINDLE_DONE => 1
  | .TWN_CFG_AGREE => 1
  | .PEL_MEMBER_JOINED => 1
  | .PEL_LINK_UP => 1
  | .MAC_LINK_UP => 1
  | .PRS_DEPTH => 1
  | .PRS_LEN_CONFLICT => 1
  | .FLW_EVAC_DONE => 1
  | .ENG_ROLL_DONE => 1
  | .SWP_VISIT_SLOW => 1
  | .BPM_WARN => 1
  | .SCH_GATE_TAKEOVER => 1
  | .PRF_SAMPLE_FULL => 1
  | .LBL_BACKEND_UP => 1
  | .CLK_REF_LOST => 3
  | .PWR_THERM_CRIT => 3
  | .PWR_RAIL_FAULT => 3
  | .BOOT_IMAGE_REJECTED => 3
  | .BOOT_RELAY_TIMEOUT => 3
  | .BOOT_FW_REJECTED => 3
  | .BOOT_FW_TIMEOUT => 3
  | .SEC_DEBUG_OPENED => 3
  | .SEC_FUSE_FAULT => 3
  | .HST_HOST_LOST => 3
  | .HST_FETCH_ERROR => 3
  | .TIM_CAL_FAULT => 3
  | .TWN_PEER_FAILED => 3
  | .TWN_COMPAT => 3
  | .TWN_SYNC_TIMEOUT => 3
  | .TWN_EMBER_DOWN => 3
  | .TWN_BACKLOG_OVERFLOW => 3
  | .TWN_KINDLE_ABANDONED => 3
  | .TWN_CFG_DIVERGE => 3
  | .PEL_MEMBER_LOST => 3
  | .PEL_IMAGE_MISMATCH => 3
  | .PEL_CFG_INVALID => 3
  | .LANE_FAILED => 3
  | .PRS_ENGINE_RETIRED => 3
  | .TCM_ENTRY_RETIRED => 3
  | .FLW_TABLE_FULL => 3
  | .FLW_RECORD_UE => 3
  | .HRT_ENTRY_UE => 3
  | .HRT_BANK_RETIRED => 3
  | .HRT_SPARES_LOW => 3
  | .ENG_ILLEGAL => 3
  | .ENG_REGION => 3
  | .ENG_REPLAY_DROP => 3
  | .ENG_ENGINE_RETIRED => 3
  | .ENG_CLUSTER_RETIRED => 3
  | .ENG_SPARES_LOW => 3
  | .ENG_COMPAT => 3
  | .ENG_ROLL_REJECTED => 3
  | .SWP_ILLEGAL => 3
  | .SWP_RETIRED => 3
  | .BPM_LOSSLESS_DROP => 3
  | .BPM_BAD_HANDLE => 3
  | .BPM_DOUBLE_FREE => 3
  | .BPM_FOREIGN_FREE => 3
  | .BPM_ECC_UE => 3
  | .BPM_SEG_RETIRED => 3
  | .FIF_PARITY => 3
  | .NAT_SUB_FULL => 3
  | .PWR_TRIP => 4
  | _ => 2

/-- default_en of a code: 1 for every code listed in R435, 0 for the others. -/
def Ev.listed (code : Nat) : Bool := Ev.all.any (fun e => e.code == code)

/-- Default severity of a code; 0 for a code R435 does not list (log entry 6). -/
def Ev.sevOfCode (code : Nat) : Nat :=
  ((Ev.all.find? (fun e => e.code == code)).map Ev.severity).getD 0

end Sys2Proof.Machine
end

