-- ==== Sys2Proof/Machine/RegMap.lean ====
section
/-! DEFINITION. The register map of revision A0: every register the chapters of spec/ tabulate, with its
BAR0 address (R29, R36), width, fields, access types (R6, R39) and reset values. Names are the manual's. -/
namespace Sys2Proof.Machine

/-- The access types of R6. -/
inductive Access where
  | rw | ro | rc | w1c | w1s | rws | wo1 | lk | cnt | wt
  deriving DecidableEq, Repr

/-- One constructor per register (array) of the register tables. -/
inductive Reg where
  | GLB_RESET | GLB_CFG_DIGEST | GLB_LOCK_CAPTURE | GLB_DIGEST_KEY | GLB_DEV_DIGEST | GLB_ECC_CNT | GLB_ECC_CAPTURE 
  | GLB_SCRUB_CTRL | GLB_CORE_STATUS | GLB_CORE_CTRL | GLB_LIFE_HIST | CLK_REF_CFG | CLK_REF_STATUS | PWR_STATUS 
  | PWR_RAIL_CFG | PWR_RAIL_STATUS | PWR_THERM_CFG | PWR_TRIP_CFG | PWR_TRIP_CAPTURE | PWR_TEMP | PWR_HBM_TEMP 
  | PWR_CNT | BOOT_STRAPS | BOOT_STATUS | BOOT_FW_LIST | BOOT_FW_CTRL | BOOT_IMAGE_SERIAL | BOOT_PHASE_TIME 
  | BOOT_SWAP_LIST | BOOT_SWAP_CTRL | BOOT_SWAP_STATUS | SEC_STATUS | SEC_ANCHOR_STATUS | SEC_CHAL | SEC_CMD 
  | SEC_CMD_STATUS | EVT_CTRL | EVT_INTN | EVT_CFG_DIGEST | EVT_CNT_WRAP | EVT_SRC_EN | EVT_PEND | EVT_RING_CFG 
  | EVT_RING_CFG2 | EVT_RING_PTR | EVT_RING_STATUS | EVT_SRC_CFG | HST_CFG_DIGEST | HST_HOST_ALIVE 
  | HST_HOSTLOSS_CTRL | HST_MODE_CTRL | HST_MODE_STATUS | HST_FRAG_CFG | HST_CNT | MSIX_ADDR | MSIX_DATA | MSIX_PBA 
  | HST_RXG_CFG | HST_RXR_CFG | HST_RXR_CFG2 | HST_RXR_PTR | HST_RXR_CNT | HST_TXR_CFG | HST_TXR_CFG2 | HST_TXR_PTR 
  | HST_TXR_CNT | TIM_CFG_DIGEST | TIM_CTRL | TIM_NOW_LO | TIM_NOW_HI | TIM_FREQ | TIM_STEP | TIM_SET_LO | TIM_SET_HI 
  | TIM_SLEW | TIM_ADJ_CTRL | TIM_ADJ_STATUS | TIM_PPS_CFG | TIM_PPS_IN_LO | TIM_PPS_IN_HI | TIM_CLK10_STATUS 
  | TIM_RCLK_CFG | TIM_TXQ_DATA0 | TIM_TXQ_DATA1 | TIM_TXQ_CTRL | TIM_TXQ_STATUS | TIM_PEAL_CFG | TIM_LEDGER_HOST 
  | TIM_LEDGER_STATUS | TIM_CNT | TIM_PORT_CFG | TIM_LANE_CAL | TIM_LANE_CAL_STATUS | TWN_HOLD | TWN_CFG_DIGEST 
  | TWN_CTRL | TWN_SYNC_CTRL | TWN_STATUS | TWN_KINDLE_CTRL | TWN_KINDLE_STATUS | TWN_DIGEST_CTRL 
  | TWN_DIVERGE_CAPTURE | TWN_STREAM_STATUS | TWN_STREAM_LAG | TWN_HOLD_OCC | TWN_CNT | PEL_CFG_DIGEST 
  | PEL_GROUP_CFG | PEL_LINK_STATUS | PEL_CELL_CNT | PEL_PEER_STATUS | PEL_DIST_RING | PEL_DIST_PTR | PEL_DIST_CFG 
  | PEL_GROUP_DIGEST | LANE_CTRL | LANE_STATUS | LANE_DEGRADE_CTRL | LANE_FEC_CNT | LANE_CFG_DIGEST | LANE_CNT_WRAP 
  | MAC_PORT_CFG | MAC_PORT_STATUS | MAC_PFC_CTRL | MAC_RX_ERR | MAC_CFG_DIGEST | MAC_CTL_CNT | PRS_INTAKE_CTRL 
  | PRS_INTAKE_OCC | PRS_INTAKE_DROP | PRS_REORDER_OCC | PRS_HOLD | PRS_CFG_DIGEST | PRS_PORT_POLICY 
  | PRS_ENGINE_CTRL | PRS_FLAG_CNT | CLSD_CFG_DIGEST | CLS_GEN_CTRL | CLS_GEN_STATUS | CLS_GEN_INFLIGHT | CLS_TBL_CMD 
  | CLS_TBL_SLICES | CLS_TBL_STATUS | CLS_EXM_CFG | CLS_TBL_DATA | CLS_HOLD | CLS_CFG_DIGEST | CLS_PORT_CFG | CLS_CNT 
  | TCM_CFG_DIGEST | TCM_SLICE_CFG | TCM_THERM_CTRL | TCM_THERM_STATUS | TCM_HOLE_STATUS | TCM_CNT | FLW_HOLD 
  | FLW_CFG_DIGEST | FLW_CTRL | FLW_MISS_HOLD_CTRL | FLW_MISS_HOLD_STATUS | FLW_INSERT_CTRL | FLW_HOSTINS_CTRL 
  | FLW_CMD_RING | FLW_CMD_PTR | FLW_CLASS_CFG | FLW_CLASS_PUNT | FLW_TIMEOUT | FLW_BANK_KEY | FLW_HBM_EVAC 
  | FLW_HBM_CE_CTRL | FLW_QUAR_CTRL | FLW_QUAR_STATUS | FLW_HBM_CH_STATUS | FLW_SHED_CNT | FLW_CNT | FLW_RECORDS 
  | HRT_CFG_DIGEST | HRT_CNT_WRAP | HRT_SPARE_CTRL | HRT_BANK_STATUS | ENG_HOLD | ENG_CFG_DIGEST | ENG_CTRL 
  | ENG_CLUSTER_STATUS | ENG_ENGINE_RETIRED | ENG_MCHK_CAPTURE | ENG_CNT | ENG_SPARE_STATUS | ENG_ROLL_LIST 
  | ENG_ROLL_CTRL | ENG_ROLL_STATUS | SWP_CFG_DIGEST | SWP_CNT_WRAP | SWP_CTRL | SWP_STATUS | SWP_MCHK_CAPTURE 
  | SWP_SCAN | SWP_CNT | BPM_HOLD | BPM_CFG_DIGEST | BPM_POOL_CFG | BPM_POOL_STATUS | BPM_STATUS | BPM_PIPE_CFG 
  | BPM_FREE_CAPTURE | BPM_PRIO_CFG | BPM_PRIO_USE | BPM_CNT | BPM_REQ_QUOTA | BPM_REQ_USE | FIF_CFG_DIGEST | FIF_CFG 
  | FIF_TIMER | FIF_STATUS | FIF_CTRL | FIF_PROD | FIF_CNT | SCH_HOLD | SCH_CFG_DIGEST | SCH_PORT_CFG | SCH_GATE_CFG 
  | SCH_GATE_TIME | SCH_GATE_CTRL | SCH_GATE_STATUS | SCH_GATE_CHANGE | SCH_GATE_MAXOPEN | SCH_PORT_CNT | TEL_HOLD 
  | TEL_CFG_DIGEST | TEL_CTRL | TEL_EXP_DOMAIN | TEL_IOAM_CFG | TEL_IOAM_NODE | TEL_CLASS_CFG | TEL_EXP_CFG 
  | TEL_EXP_CFG2 | TEL_EXP_HDR | TEL_HIST_SHIFT | TEL_CNT | TEL_PORT_BW_CFG | TEL_PORT_BW_RXB | TEL_PORT_BW_TXB 
  | TEL_PORT_BW_FRM | TEL_PORT_BW_SEQ | TEL_PORT_BW_LEN | TEL_PORT_BW_RXP | TEL_PORT_BW_TXP | PRF_CFG_DIGEST 
  | PRF_CNT_WRAP | PRF_CTRL | PRF_PERM_EN | PRF_SAMPLE_CTRL | PRF_SAMPLE_CFG | PRF_SAMPLE_PTR | PRF_CNT_CFG | PRF_CNT 
  | PRF_SNAP | NAT_HOLD | NAT_CFG_DIGEST | NAT_CTRL | NAT_HASH_KEY | NAT_TMO_MAP | NAT_STATUS | NAT_CNT 
  | NAT_POOL_CFG | NAT_POOL_CFG2 | LBL_HOLD | LBL_CFG_DIGEST | LBL_CTRL | LBL_HASH_KEY | LBL_SVC_CMD | LBL_CNT
  deriving DecidableEq

/-- A bit field [hi:lo] of a register. -/
structure Fld where
  reg : Reg
  hi : Nat
  lo : Nat
  deriving DecidableEq

/-- What the SDT says of a field (R36): access type, reset value and flags. `capture` marks the
saturating counts of capture registers (R40); `config` marks a digest input (R57). -/
structure FieldInfo where
  fld : Fld
  acc : Access
  reset : Nat
  drain : Bool := false
  fwOwned : Bool := false
  secret : Bool := false
  capture : Bool := false
  config : Bool := false
  deriving DecidableEq

/-- The number of a register in the order of this map: the first component of its key. -/
def Reg.num (r : Reg) : Nat := r.ctorIdx

/-- BAR0 offset of instance 0, copy 0. -/
def Reg.base : Reg → Nat
  | .GLB_RESET => 0x10010
  | .GLB_CFG_DIGEST => 0x10048
  | .GLB_LOCK_CAPTURE => 0x10100
  | .GLB_DIGEST_KEY => 0x10110
  | .GLB_DEV_DIGEST => 0x10120
  | .GLB_ECC_CNT => 0x10200
  | .GLB_ECC_CAPTURE => 0x10280
  | .GLB_SCRUB_CTRL => 0x102C0
  | .GLB_CORE_STATUS => 0x10300
  | .GLB_CORE_CTRL => 0x10308
  | .GLB_LIFE_HIST => 0x10400
  | .CLK_REF_CFG => 0x10600
  | .CLK_REF_STATUS => 0x10608
  | .PWR_STATUS => 0x10800
  | .PWR_RAIL_CFG => 0x10810
  | .PWR_RAIL_STATUS => 0x10830
  | .PWR_THERM_CFG => 0x10880
  | .PWR_TRIP_CFG => 0x10890
  | .PWR_TRIP_CAPTURE => 0x108C0
  | .PWR_TEMP => 0x10900
  | .PWR_HBM_TEMP => 0x10980
  | .PWR_CNT => 0x10A00
  | .BOOT_STRAPS => 0x20000
  | .BOOT_STATUS => 0x20008
  | .BOOT_FW_LIST => 0x20010
  | .BOOT_FW_CTRL => 0x20018
  | .BOOT_IMAGE_SERIAL => 0x20020
  | .BOOT_PHASE_TIME => 0x20080
  | .BOOT_SWAP_LIST => 0x20100
  | .BOOT_SWAP_CTRL => 0x20108
  | .BOOT_SWAP_STATUS => 0x20110
  | .SEC_STATUS => 0x30000
  | .SEC_ANCHOR_STATUS => 0x30008
  | .SEC_CHAL => 0x30010
  | .SEC_CMD => 0x30100
  | .SEC_CMD_STATUS => 0x30108
  | .EVT_CTRL => 0x40000
  | .EVT_INTN => 0x40010
  | .EVT_CFG_DIGEST => 0x40048
  | .EVT_CNT_WRAP => 0x40050
  | .EVT_SRC_EN => 0x40100
  | .EVT_PEND => 0x40200
  | .EVT_RING_CFG => 0x40400
  | .EVT_RING_CFG2 => 0x40408
  | .EVT_RING_PTR => 0x40410
  | .EVT_RING_STATUS => 0x40418
  | .EVT_SRC_CFG => 0x41000
  | .HST_CFG_DIGEST => 0x80048
  | .HST_HOST_ALIVE => 0x80100
  | .HST_HOSTLOSS_CTRL => 0x80108
  | .HST_MODE_CTRL => 0x80200
  | .HST_MODE_STATUS => 0x80208
  | .HST_FRAG_CFG => 0x80210
  | .HST_CNT => 0x80300
  | .MSIX_ADDR => 0x81000
  | .MSIX_DATA => 0x81008
  | .MSIX_PBA => 0x81800
  | .HST_RXG_CFG => 0x84000
  | .HST_RXR_CFG => 0x90000
  | .HST_RXR_CFG2 => 0x90008
  | .HST_RXR_PTR => 0x90010
  | .HST_RXR_CNT => 0x90020
  | .HST_TXR_CFG => 0xB0000
  | .HST_TXR_CFG2 => 0xB0008
  | .HST_TXR_PTR => 0xB0010
  | .HST_TXR_CNT => 0xB0020
  | .TIM_CFG_DIGEST => 0x100048
  | .TIM_CTRL => 0x100100
  | .TIM_NOW_LO => 0x100110
  | .TIM_NOW_HI => 0x100118
  | .TIM_FREQ => 0x100120
  | .TIM_STEP => 0x100128
  | .TIM_SET_LO => 0x100130
  | .TIM_SET_HI => 0x100138
  | .TIM_SLEW => 0x100140
  | .TIM_ADJ_CTRL => 0x100148
  | .TIM_ADJ_STATUS => 0x100150
  | .TIM_PPS_CFG => 0x100200
  | .TIM_PPS_IN_LO => 0x100208
  | .TIM_PPS_IN_HI => 0x100210
  | .TIM_CLK10_STATUS => 0x100220
  | .TIM_RCLK_CFG => 0x100240
  | .TIM_TXQ_DATA0 => 0x100300
  | .TIM_TXQ_DATA1 => 0x100308
  | .TIM_TXQ_CTRL => 0x100310
  | .TIM_TXQ_STATUS => 0x100318
  | .TIM_PEAL_CFG => 0x100400
  | .TIM_LEDGER_HOST => 0x100500
  | .TIM_LEDGER_STATUS => 0x100508
  | .TIM_CNT => 0x100800
  | .TIM_PORT_CFG => 0x101000
  | .TIM_LANE_CAL => 0x108000
  | .TIM_LANE_CAL_STATUS => 0x108008
  | .TWN_HOLD => 0x200040
  | .TWN_CFG_DIGEST => 0x200048
  | .TWN_CTRL => 0x200100
  | .TWN_SYNC_CTRL => 0x200108
  | .TWN_STATUS => 0x200110
  | .TWN_KINDLE_CTRL => 0x200118
  | .TWN_KINDLE_STATUS => 0x200120
  | .TWN_DIGEST_CTRL => 0x200128
  | .TWN_DIVERGE_CAPTURE => 0x200130
  | .TWN_STREAM_STATUS => 0x200200
  | .TWN_STREAM_LAG => 0x200208
  | .TWN_HOLD_OCC => 0x200210
  | .TWN_CNT => 0x200800
  | .PEL_CFG_DIGEST => 0x300048
  | .PEL_GROUP_CFG => 0x300100
  | .PEL_LINK_STATUS => 0x300108
  | .PEL_CELL_CNT => 0x300800
  | .PEL_PEER_STATUS => 0x300C00
  | .PEL_DIST_RING => 0x300D00
  | .PEL_DIST_PTR => 0x300D08
  | .PEL_DIST_CFG => 0x300D10
  | .PEL_GROUP_DIGEST => 0x300D18
  | .LANE_CTRL => 0x400000
  | .LANE_STATUS => 0x400008
  | .LANE_DEGRADE_CTRL => 0x400010
  | .LANE_FEC_CNT => 0x400020
  | .LANE_CFG_DIGEST => 0x400048
  | .LANE_CNT_WRAP => 0x400050
  | .MAC_PORT_CFG => 0x600000
  | .MAC_PORT_STATUS => 0x600008
  | .MAC_PFC_CTRL => 0x600010
  | .MAC_RX_ERR => 0x600020
  | .MAC_CFG_DIGEST => 0x600048
  | .MAC_CTL_CNT => 0x600060
  | .PRS_INTAKE_CTRL => 0x800000
  | .PRS_INTAKE_OCC => 0x800008
  | .PRS_INTAKE_DROP => 0x800010
  | .PRS_REORDER_OCC => 0x800020
  | .PRS_HOLD => 0x800040
  | .PRS_CFG_DIGEST => 0x800048
  | .PRS_PORT_POLICY => 0x800100
  | .PRS_ENGINE_CTRL => 0x800200
  | .PRS_FLAG_CNT => 0x800400
  | .CLSD_CFG_DIGEST => 0xC00048
  | .CLS_GEN_CTRL => 0xC00100
  | .CLS_GEN_STATUS => 0xC00108
  | .CLS_GEN_INFLIGHT => 0xC00140
  | .CLS_TBL_CMD => 0xC00200
  | .CLS_TBL_SLICES => 0xC00208
  | .CLS_TBL_STATUS => 0xC00210
  | .CLS_EXM_CFG => 0xC00300
  | .CLS_TBL_DATA => 0xC00400
  | .CLS_HOLD => 0xC20040
  | .CLS_CFG_DIGEST => 0xC20048
  | .CLS_PORT_CFG => 0xC20100
  | .CLS_CNT => 0xC20400
  | .TCM_CFG_DIGEST => 0xE00048
  | .TCM_SLICE_CFG => 0xE00100
  | .TCM_THERM_CTRL => 0xE00108
  | .TCM_THERM_STATUS => 0xE00110
  | .TCM_HOLE_STATUS => 0xE00118
  | .TCM_CNT => 0xE00400
  | .FLW_HOLD => 0x1000040
  | .FLW_CFG_DIGEST => 0x1000048
  | .FLW_CTRL => 0x1000100
  | .FLW_MISS_HOLD_CTRL => 0x1000108
  | .FLW_MISS_HOLD_STATUS => 0x1000110
  | .FLW_INSERT_CTRL => 0x1000118
  | .FLW_HOSTINS_CTRL => 0x1000120
  | .FLW_CMD_RING => 0x1000140
  | .FLW_CMD_PTR => 0x1000148
  | .FLW_CLASS_CFG => 0x1000200
  | .FLW_CLASS_PUNT => 0x1000280
  | .FLW_TIMEOUT => 0x1000300
  | .FLW_BANK_KEY => 0x1000380
  | .FLW_HBM_EVAC => 0x1000400
  | .FLW_HBM_CE_CTRL => 0x1000408
  | .FLW_QUAR_CTRL => 0x1000410
  | .FLW_QUAR_STATUS => 0x1000418
  | .FLW_HBM_CH_STATUS => 0x1000500
  | .FLW_SHED_CNT => 0x1000800
  | .FLW_CNT => 0x1000C00
  | .FLW_RECORDS => 0x1000D00
  | .HRT_CFG_DIGEST => 0x1200048
  | .HRT_CNT_WRAP => 0x1200050
  | .HRT_SPARE_CTRL => 0x1200080
  | .HRT_BANK_STATUS => 0x1200100
  | .ENG_HOLD => 0x1400040
  | .ENG_CFG_DIGEST => 0x1400048
  | .ENG_CTRL => 0x1400100
  | .ENG_CLUSTER_STATUS => 0x1400108
  | .ENG_ENGINE_RETIRED => 0x1400140
  | .ENG_MCHK_CAPTURE => 0x1400180
  | .ENG_CNT => 0x1400400
  | .ENG_SPARE_STATUS => 0x1500100
  | .ENG_ROLL_LIST => 0x1500200
  | .ENG_ROLL_CTRL => 0x1500208
  | .ENG_ROLL_STATUS => 0x1500210
  | .SWP_CFG_DIGEST => 0x1600048
  | .SWP_CNT_WRAP => 0x1600050
  | .SWP_CTRL => 0x1600100
  | .SWP_STATUS => 0x1600200
  | .SWP_MCHK_CAPTURE => 0x1600300
  | .SWP_SCAN => 0x1600380
  | .SWP_CNT => 0x1600400
  | .BPM_HOLD => 0x1800040
  | .BPM_CFG_DIGEST => 0x1800048
  | .BPM_POOL_CFG => 0x1800100
  | .BPM_POOL_STATUS => 0x1800120
  | .BPM_STATUS => 0x1800140
  | .BPM_PIPE_CFG => 0x1800180
  | .BPM_FREE_CAPTURE => 0x1800200
  | .BPM_PRIO_CFG => 0x1800400
  | .BPM_PRIO_USE => 0x1800800
  | .BPM_CNT => 0x1800C00
  | .BPM_REQ_QUOTA => 0x1801000
  | .BPM_REQ_USE => 0x1803000
  | .FIF_CFG_DIGEST => 0x1A00048
  | .FIF_CFG => 0x1A10000
  | .FIF_TIMER => 0x1A10008
  | .FIF_STATUS => 0x1A10010
  | .FIF_CTRL => 0x1A10018
  | .FIF_PROD => 0x1A10020
  | .FIF_CNT => 0x1A10040
  | .SCH_HOLD => 0x1C00040
  | .SCH_CFG_DIGEST => 0x1C00048
  | .SCH_PORT_CFG => 0x1C10000
  | .SCH_GATE_CFG => 0x1C10008
  | .SCH_GATE_TIME => 0x1C10010
  | .SCH_GATE_CTRL => 0x1C10018
  | .SCH_GATE_STATUS => 0x1C10020
  | .SCH_GATE_CHANGE => 0x1C10030
  | .SCH_GATE_MAXOPEN => 0x1C10040
  | .SCH_PORT_CNT => 0x1C10080
  | .TEL_HOLD => 0x2000040
  | .TEL_CFG_DIGEST => 0x2000048
  | .TEL_CTRL => 0x2000100
  | .TEL_EXP_DOMAIN => 0x2000108
  | .TEL_IOAM_CFG => 0x2000110
  | .TEL_IOAM_NODE => 0x2000118
  | .TEL_CLASS_CFG => 0x2000180
  | .TEL_EXP_CFG => 0x2000200
  | .TEL_EXP_CFG2 => 0x2000208
  | .TEL_EXP_HDR => 0x2000240
  | .TEL_HIST_SHIFT => 0x2000300
  | .TEL_CNT => 0x2000800
  | .TEL_PORT_BW_CFG => 0x2080000
  | .TEL_PORT_BW_RXB => 0x2080008
  | .TEL_PORT_BW_TXB => 0x2080010
  | .TEL_PORT_BW_FRM => 0x2080018
  | .TEL_PORT_BW_SEQ => 0x2080020
  | .TEL_PORT_BW_LEN => 0x2080028
  | .TEL_PORT_BW_RXP => 0x2080030
  | .TEL_PORT_BW_TXP => 0x2080038
  | .PRF_CFG_DIGEST => 0x2800048
  | .PRF_CNT_WRAP => 0x2800050
  | .PRF_CTRL => 0x2800100
  | .PRF_PERM_EN => 0x2800200
  | .PRF_SAMPLE_CTRL => 0x2800300
  | .PRF_SAMPLE_CFG => 0x2800308
  | .PRF_SAMPLE_PTR => 0x2800310
  | .PRF_CNT_CFG => 0x2801000
  | .PRF_CNT => 0x2802000
  | .PRF_SNAP => 0x2803000
  | .NAT_HOLD => 0x3000040
  | .NAT_CFG_DIGEST => 0x3000048
  | .NAT_CTRL => 0x3000100
  | .NAT_HASH_KEY => 0x3000110
  | .NAT_TMO_MAP => 0x3000180
  | .NAT_STATUS => 0x3000200
  | .NAT_CNT => 0x3000800
  | .NAT_POOL_CFG => 0x3001000
  | .NAT_POOL_CFG2 => 0x3001008
  | .LBL_HOLD => 0x3400040
  | .LBL_CFG_DIGEST => 0x3400048
  | .LBL_CTRL => 0x3400100
  | .LBL_HASH_KEY => 0x3400110
  | .LBL_SVC_CMD => 0x3400120
  | .LBL_CNT => 0x3400800

/-- (count, stride) of each array level, outermost first (R29, R36). -/
def Reg.dims : Reg → List (Nat × Nat)
  | .GLB_DIGEST_KEY => [(2, 0x8)]
  | .GLB_ECC_CNT => [(14, 0x8)]
  | .GLB_LIFE_HIST => [(6, 0x8)]
  | .PWR_RAIL_CFG => [(3, 0x8)]
  | .PWR_RAIL_STATUS => [(3, 0x8)]
  | .PWR_TEMP => [(32, 0x4)]
  | .PWR_HBM_TEMP => [(4, 0x4)]
  | .PWR_CNT => [(6, 0x8)]
  | .BOOT_PHASE_TIME => [(16, 0x4)]
  | .SEC_CHAL => [(4, 0x8)]
  | .EVT_SRC_EN => [(64, 0x4)]
  | .EVT_PEND => [(64, 0x4)]
  | .EVT_RING_CFG => [(8, 0x20)]
  | .EVT_RING_CFG2 => [(8, 0x20)]
  | .EVT_RING_PTR => [(8, 0x20)]
  | .EVT_RING_STATUS => [(8, 0x20)]
  | .EVT_SRC_CFG => [(2048, 0x4)]
  | .HST_CNT => [(3, 0x8)]
  | .MSIX_ADDR => [(64, 0x10)]
  | .MSIX_DATA => [(64, 0x10)]
  | .HST_RXG_CFG => [(1024, 0x8)]
  | .HST_RXR_CFG => [(2048, 0x40)]
  | .HST_RXR_CFG2 => [(2048, 0x40)]
  | .HST_RXR_PTR => [(2048, 0x40)]
  | .HST_RXR_CNT => [(2048, 0x40), (3, 0x8)]
  | .HST_TXR_CFG => [(2048, 0x40)]
  | .HST_TXR_CFG2 => [(2048, 0x40)]
  | .HST_TXR_PTR => [(2048, 0x40)]
  | .HST_TXR_CNT => [(2048, 0x40), (3, 0x8)]
  | .TIM_RCLK_CFG => [(2, 0x8)]
  | .TIM_CNT => [(11, 0x8)]
  | .TIM_PORT_CFG => [(512, 0x20)]
  | .TIM_LANE_CAL => [(512, 0x10)]
  | .TIM_LANE_CAL_STATUS => [(512, 0x10)]
  | .TWN_HOLD => [(2, 0x10000)]
  | .TWN_CFG_DIGEST => [(2, 0x10000)]
  | .TWN_STREAM_STATUS => [(2, 0x10000)]
  | .TWN_STREAM_LAG => [(2, 0x10000)]
  | .TWN_HOLD_OCC => [(2, 0x10000)]
  | .TWN_CNT => [(2, 0x10000), (13, 0x8)]
  | .PEL_CFG_DIGEST => [(2, 0x10000)]
  | .PEL_GROUP_CFG => [(2, 0x10000), (32, 0x20)]
  | .PEL_LINK_STATUS => [(2, 0x10000), (32, 0x20)]
  | .PEL_CELL_CNT => [(2, 0x10000), (32, 0x20), (4, 0x8)]
  | .PEL_PEER_STATUS => [(5, 0x8)]
  | .LANE_CTRL => [(512, 0x1000)]
  | .LANE_STATUS => [(512, 0x1000)]
  | .LANE_DEGRADE_CTRL => [(512, 0x1000)]
  | .LANE_FEC_CNT => [(512, 0x1000), (3, 0x8)]
  | .LANE_CFG_DIGEST => [(512, 0x1000)]
  | .LANE_CNT_WRAP => [(512, 0x1000)]
  | .MAC_PORT_CFG => [(512, 0x1000)]
  | .MAC_PORT_STATUS => [(512, 0x1000)]
  | .MAC_PFC_CTRL => [(512, 0x1000)]
  | .MAC_RX_ERR => [(512, 0x1000), (4, 0x8)]
  | .MAC_CFG_DIGEST => [(512, 0x1000)]
  | .MAC_CTL_CNT => [(512, 0x1000), (3, 0x8)]
  | .PRS_INTAKE_CTRL => [(32, 0x20000)]
  | .PRS_INTAKE_OCC => [(32, 0x20000)]
  | .PRS_INTAKE_DROP => [(32, 0x20000)]
  | .PRS_REORDER_OCC => [(32, 0x20000)]
  | .PRS_HOLD => [(32, 0x20000)]
  | .PRS_CFG_DIGEST => [(32, 0x20000)]
  | .PRS_PORT_POLICY => [(32, 0x20000), (16, 0x8)]
  | .PRS_ENGINE_CTRL => [(32, 0x20000)]
  | .PRS_FLAG_CNT => [(32, 0x20000), (10, 0x8)]
  | .CLS_GEN_INFLIGHT => [(8, 0x8)]
  | .CLS_EXM_CFG => [(16, 0x8)]
  | .CLS_TBL_DATA => [(32, 0x8)]
  | .CLS_HOLD => [(32, 0x8000)]
  | .CLS_CFG_DIGEST => [(32, 0x8000)]
  | .CLS_PORT_CFG => [(32, 0x8000), (16, 0x8)]
  | .CLS_CNT => [(32, 0x8000), (9, 0x8)]
  | .TCM_CFG_DIGEST => [(32, 0x8000)]
  | .TCM_SLICE_CFG => [(32, 0x8000)]
  | .TCM_THERM_CTRL => [(32, 0x8000)]
  | .TCM_THERM_STATUS => [(32, 0x8000)]
  | .TCM_HOLE_STATUS => [(32, 0x8000)]
  | .TCM_CNT => [(32, 0x8000), (7, 0x8)]
  | .FLW_HOLD => [(2, 0x100000)]
  | .FLW_CFG_DIGEST => [(2, 0x100000)]
  | .FLW_CTRL => [(2, 0x100000)]
  | .FLW_MISS_HOLD_CTRL => [(2, 0x100000)]
  | .FLW_MISS_HOLD_STATUS => [(2, 0x100000)]
  | .FLW_INSERT_CTRL => [(2, 0x100000)]
  | .FLW_HOSTINS_CTRL => [(2, 0x100000)]
  | .FLW_CMD_RING => [(2, 0x100000)]
  | .FLW_CMD_PTR => [(2, 0x100000)]
  | .FLW_CLASS_CFG => [(2, 0x100000), (8, 0x8)]
  | .FLW_CLASS_PUNT => [(2, 0x100000), (8, 0x8)]
  | .FLW_TIMEOUT => [(2, 0x100000), (16, 0x4)]
  | .FLW_BANK_KEY => [(2, 0x100000), (2, 0x8)]
  | .FLW_HBM_EVAC => [(2, 0x100000)]
  | .FLW_HBM_CE_CTRL => [(2, 0x100000)]
  | .FLW_QUAR_CTRL => [(2, 0x100000)]
  | .FLW_QUAR_STATUS => [(2, 0x100000)]
  | .FLW_HBM_CH_STATUS => [(2, 0x100000), (32, 0x8)]
  | .FLW_SHED_CNT => [(2, 0x100000), (8, 0x80), (10, 0x8)]
  | .FLW_CNT => [(2, 0x100000), (16, 0x8)]
  | .FLW_RECORDS => [(2, 0x100000)]
  | .HRT_CFG_DIGEST => [(2, 0x100000)]
  | .HRT_CNT_WRAP => [(2, 0x100000), (4, 0x8)]
  | .HRT_SPARE_CTRL => [(2, 0x100000)]
  | .HRT_BANK_STATUS => [(2, 0x100000), (128, 0x8)]
  | .ENG_HOLD => [(32, 0x8000)]
  | .ENG_CFG_DIGEST => [(32, 0x8000)]
  | .ENG_CTRL => [(32, 0x8000)]
  | .ENG_CLUSTER_STATUS => [(32, 0x8000), (6, 0x8)]
  | .ENG_ENGINE_RETIRED => [(32, 0x8000)]
  | .ENG_MCHK_CAPTURE => [(32, 0x8000)]
  | .ENG_CNT => [(32, 0x8000), (10, 0x8)]
  | .ENG_SPARE_STATUS => [(2, 0x80000), (2, 0x8)]
  | .SWP_CFG_DIGEST => [(2, 0x100000)]
  | .SWP_CNT_WRAP => [(2, 0x100000)]
  | .SWP_CTRL => [(2, 0x100000)]
  | .SWP_STATUS => [(2, 0x100000), (32, 0x8)]
  | .SWP_MCHK_CAPTURE => [(2, 0x100000)]
  | .SWP_SCAN => [(2, 0x100000)]
  | .SWP_CNT => [(2, 0x100000), (6, 0x8)]
  | .BPM_HOLD => [(2, 0x100000)]
  | .BPM_CFG_DIGEST => [(2, 0x100000)]
  | .BPM_POOL_CFG => [(2, 0x100000), (3, 0x8)]
  | .BPM_POOL_STATUS => [(2, 0x100000), (3, 0x8)]
  | .BPM_STATUS => [(2, 0x100000)]
  | .BPM_PIPE_CFG => [(2, 0x100000), (16, 0x8)]
  | .BPM_FREE_CAPTURE => [(2, 0x100000)]
  | .BPM_PRIO_CFG => [(2, 0x100000), (16, 0x40), (8, 0x8)]
  | .BPM_PRIO_USE => [(2, 0x100000), (16, 0x40), (8, 0x8)]
  | .BPM_CNT => [(2, 0x100000), (12, 0x8)]
  | .BPM_REQ_QUOTA => [(2, 0x100000), (256, 0x20), (3, 0x8)]
  | .BPM_REQ_USE => [(2, 0x100000), (256, 0x20), (3, 0x8)]
  | .FIF_CFG_DIGEST => [(2, 0x100000)]
  | .FIF_CFG => [(2, 0x100000), (512, 0x80)]
  | .FIF_TIMER => [(2, 0x100000), (512, 0x80)]
  | .FIF_STATUS => [(2, 0x100000), (512, 0x80)]
  | .FIF_CTRL => [(2, 0x100000), (512, 0x80)]
  | .FIF_PROD => [(2, 0x100000), (512, 0x80), (4, 0x8)]
  | .FIF_CNT => [(2, 0x100000), (512, 0x80), (6, 0x8)]
  | .SCH_HOLD => [(2, 0x200000)]
  | .SCH_CFG_DIGEST => [(2, 0x200000)]
  | .SCH_PORT_CFG => [(2, 0x200000), (256, 0x100)]
  | .SCH_GATE_CFG => [(2, 0x200000), (256, 0x100)]
  | .SCH_GATE_TIME => [(2, 0x200000), (256, 0x100)]
  | .SCH_GATE_CTRL => [(2, 0x200000), (256, 0x100)]
  | .SCH_GATE_STATUS => [(2, 0x200000), (256, 0x100)]
  | .SCH_GATE_CHANGE => [(2, 0x200000), (256, 0x100)]
  | .SCH_GATE_MAXOPEN => [(2, 0x200000), (256, 0x100), (8, 0x4)]
  | .SCH_PORT_CNT => [(2, 0x200000), (256, 0x100), (10, 0x8)]
  | .TEL_HOLD => [(2, 0x100000)]
  | .TEL_CFG_DIGEST => [(2, 0x100000)]
  | .TEL_CLASS_CFG => [(8, 0x4)]
  | .TEL_EXP_CFG => [(2, 0x100000)]
  | .TEL_EXP_CFG2 => [(2, 0x100000)]
  | .TEL_EXP_HDR => [(2, 0x100000), (8, 0x8)]
  | .TEL_HIST_SHIFT => [(2, 0x100000), (2, 0x8)]
  | .TEL_CNT => [(2, 0x100000), (11, 0x8)]
  | .TEL_PORT_BW_CFG => [(512, 0x40)]
  | .TEL_PORT_BW_RXB => [(512, 0x40)]
  | .TEL_PORT_BW_TXB => [(512, 0x40)]
  | .TEL_PORT_BW_FRM => [(512, 0x40)]
  | .TEL_PORT_BW_SEQ => [(512, 0x40)]
  | .TEL_PORT_BW_LEN => [(512, 0x40)]
  | .TEL_PORT_BW_RXP => [(512, 0x40)]
  | .TEL_PORT_BW_TXP => [(512, 0x40)]
  | .PRF_CFG_DIGEST => [(2, 0x100000)]
  | .PRF_CNT_WRAP => [(2, 0x100000)]
  | .PRF_PERM_EN => [(32, 0x4)]
  | .PRF_SAMPLE_CTRL => [(2, 0x100000)]
  | .PRF_SAMPLE_CFG => [(2, 0x100000)]
  | .PRF_SAMPLE_PTR => [(2, 0x100000)]
  | .PRF_CNT_CFG => [(2, 0x100000), (256, 0x8)]
  | .PRF_CNT => [(2, 0x100000), (256, 0x8)]
  | .PRF_SNAP => [(2, 0x100000), (256, 0x8)]
  | .NAT_HOLD => [(2, 0x100000)]
  | .NAT_CFG_DIGEST => [(2, 0x100000)]
  | .NAT_HASH_KEY => [(2, 0x8)]
  | .NAT_STATUS => [(2, 0x100000)]
  | .NAT_CNT => [(2, 0x100000), (16, 0x8)]
  | .NAT_POOL_CFG => [(256, 0x10)]
  | .NAT_POOL_CFG2 => [(256, 0x10)]
  | .LBL_HOLD => [(2, 0x100000)]
  | .LBL_CFG_DIGEST => [(2, 0x100000)]
  | .LBL_HASH_KEY => [(2, 0x8)]
  | .LBL_CNT => [(2, 0x100000), (8, 0x8)]
  | _ => []

/-- Register width in bits. -/
def Reg.width : Reg → Nat
  | .GLB_RESET => 32
  | .GLB_SCRUB_CTRL => 32
  | .GLB_CORE_STATUS => 32
  | .GLB_CORE_CTRL => 32
  | .CLK_REF_CFG => 32
  | .CLK_REF_STATUS => 32
  | .PWR_TRIP_CFG => 32
  | .PWR_TEMP => 32
  | .PWR_HBM_TEMP => 32
  | .BOOT_STRAPS => 32
  | .BOOT_FW_CTRL => 32
  | .BOOT_PHASE_TIME => 32
  | .BOOT_SWAP_CTRL => 32
  | .SEC_ANCHOR_STATUS => 32
  | .SEC_CMD => 32
  | .SEC_CMD_STATUS => 32
  | .EVT_CTRL => 32
  | .EVT_INTN => 32
  | .EVT_SRC_EN => 32
  | .EVT_PEND => 32
  | .EVT_RING_CFG2 => 32
  | .EVT_SRC_CFG => 32
  | .HST_HOST_ALIVE => 32
  | .HST_HOSTLOSS_CTRL => 32
  | .HST_MODE_CTRL => 32
  | .HST_FRAG_CFG => 32
  | .HST_RXG_CFG => 32
  | .HST_RXR_CFG2 => 32
  | .HST_TXR_CFG2 => 32
  | .TIM_CTRL => 32
  | .TIM_ADJ_CTRL => 32
  | .TIM_CLK10_STATUS => 32
  | .TIM_RCLK_CFG => 32
  | .TIM_TXQ_CTRL => 32
  | .TIM_TXQ_STATUS => 32
  | .TIM_PEAL_CFG => 32
  | .TWN_HOLD => 32
  | .TWN_CTRL => 32
  | .TWN_SYNC_CTRL => 32
  | .TWN_STATUS => 32
  | .TWN_KINDLE_CTRL => 32
  | .TWN_DIGEST_CTRL => 32
  | .TWN_HOLD_OCC => 32
  | .PEL_GROUP_CFG => 32
  | .PEL_LINK_STATUS => 32
  | .PEL_DIST_CFG => 32
  | .LANE_CTRL => 32
  | .LANE_STATUS => 32
  | .LANE_DEGRADE_CTRL => 32
  | .MAC_PORT_STATUS => 32
  | .MAC_PFC_CTRL => 32
  | .PRS_INTAKE_CTRL => 32
  | .PRS_INTAKE_OCC => 32
  | .PRS_REORDER_OCC => 32
  | .PRS_HOLD => 32
  | .PRS_ENGINE_CTRL => 32
  | .CLS_GEN_CTRL => 32
  | .CLS_GEN_INFLIGHT => 32
  | .CLS_TBL_SLICES => 32
  | .CLS_EXM_CFG => 32
  | .CLS_HOLD => 32
  | .TCM_THERM_CTRL => 32
  | .TCM_THERM_STATUS => 32
  | .TCM_HOLE_STATUS => 32
  | .FLW_HOLD => 32
  | .FLW_CTRL => 32
  | .FLW_MISS_HOLD_STATUS => 32
  | .FLW_HOSTINS_CTRL => 32
  | .FLW_TIMEOUT => 32
  | .FLW_HBM_EVAC => 32
  | .FLW_RECORDS => 32
  | .HRT_SPARE_CTRL => 32
  | .HRT_BANK_STATUS => 32
  | .ENG_HOLD => 32
  | .ENG_CTRL => 32
  | .ENG_ROLL_CTRL => 32
  | .SWP_CTRL => 32
  | .SWP_STATUS => 32
  | .BPM_HOLD => 32
  | .BPM_STATUS => 32
  | .BPM_PIPE_CFG => 32
  | .FIF_TIMER => 32
  | .FIF_CTRL => 32
  | .SCH_HOLD => 32
  | .SCH_GATE_CTRL => 32
  | .SCH_GATE_STATUS => 32
  | .SCH_GATE_MAXOPEN => 32
  | .TEL_HOLD => 32
  | .TEL_CTRL => 32
  | .TEL_IOAM_CFG => 32
  | .TEL_CLASS_CFG => 32
  | .TEL_EXP_CFG2 => 32
  | .PRF_CTRL => 32
  | .PRF_PERM_EN => 32
  | .PRF_SAMPLE_CTRL => 32
  | .NAT_HOLD => 32
  | .NAT_CTRL => 32
  | .LBL_HOLD => 32
  | .LBL_CTRL => 32
  | _ => 64

namespace F
abbrev GLB_RESET_warm : Fld := ⟨.GLB_RESET, 0, 0⟩
abbrev GLB_CFG_DIGEST_digest : Fld := ⟨.GLB_CFG_DIGEST, 63, 0⟩
abbrev GLB_LOCK_CAPTURE_valid : Fld := ⟨.GLB_LOCK_CAPTURE, 63, 63⟩
abbrev GLB_LOCK_CAPTURE_type : Fld := ⟨.GLB_LOCK_CAPTURE, 62, 61⟩
abbrev GLB_LOCK_CAPTURE_requester : Fld := ⟨.GLB_LOCK_CAPTURE, 60, 57⟩
abbrev GLB_LOCK_CAPTURE_count : Fld := ⟨.GLB_LOCK_CAPTURE, 47, 32⟩
abbrev GLB_LOCK_CAPTURE_address : Fld := ⟨.GLB_LOCK_CAPTURE, 26, 0⟩
abbrev GLB_DIGEST_KEY_key : Fld := ⟨.GLB_DIGEST_KEY, 63, 0⟩
abbrev GLB_DEV_DIGEST_digest : Fld := ⟨.GLB_DEV_DIGEST, 63, 0⟩
abbrev GLB_ECC_CNT_count : Fld := ⟨.GLB_ECC_CNT, 63, 0⟩
abbrev GLB_ECC_CAPTURE_valid : Fld := ⟨.GLB_ECC_CAPTURE, 63, 63⟩
abbrev GLB_ECC_CAPTURE_store : Fld := ⟨.GLB_ECC_CAPTURE, 62, 59⟩
abbrev GLB_ECC_CAPTURE_die : Fld := ⟨.GLB_ECC_CAPTURE, 58, 57⟩
abbrev GLB_ECC_CAPTURE_count : Fld := ⟨.GLB_ECC_CAPTURE, 47, 32⟩
abbrev GLB_ECC_CAPTURE_address : Fld := ⟨.GLB_ECC_CAPTURE, 31, 0⟩
abbrev GLB_SCRUB_CTRL_hbm_en : Fld := ⟨.GLB_SCRUB_CTRL, 16, 16⟩
abbrev GLB_SCRUB_CTRL_hbm_pass_s : Fld := ⟨.GLB_SCRUB_CTRL, 15, 0⟩
abbrev GLB_CORE_STATUS_failed : Fld := ⟨.GLB_CORE_STATUS, 15, 8⟩
abbrev GLB_CORE_STATUS_in_service : Fld := ⟨.GLB_CORE_STATUS, 7, 0⟩
abbrev GLB_CORE_CTRL_go : Fld := ⟨.GLB_CORE_CTRL, 31, 31⟩
abbrev GLB_CORE_CTRL_core : Fld := ⟨.GLB_CORE_CTRL, 2, 0⟩
abbrev GLB_LIFE_HIST_seconds : Fld := ⟨.GLB_LIFE_HIST, 63, 0⟩
abbrev CLK_REF_CFG_tol : Fld := ⟨.CLK_REF_CFG, 6, 0⟩
abbrev CLK_REF_STATUS_lost : Fld := ⟨.CLK_REF_STATUS, 31, 31⟩
abbrev CLK_REF_STATUS_ref10_valid : Fld := ⟨.CLK_REF_STATUS, 30, 30⟩
abbrev CLK_REF_STATUS_offset : Fld := ⟨.CLK_REF_STATUS, 23, 0⟩
abbrev PWR_STATUS_hbm_max : Fld := ⟨.PWR_STATUS, 63, 56⟩
abbrev PWR_STATUS_temp_max : Fld := ⟨.PWR_STATUS, 55, 44⟩
abbrev PWR_STATUS_temp_sensor : Fld := ⟨.PWR_STATUS, 43, 39⟩
abbrev PWR_STATUS_therm_state : Fld := ⟨.PWR_STATUS, 38, 37⟩
abbrev PWR_STATUS_trip : Fld := ⟨.PWR_STATUS, 36, 36⟩
abbrev PWR_STATUS_avs_limit : Fld := ⟨.PWR_STATUS, 35, 35⟩
abbrev PWR_RAIL_CFG_l_eff_nh : Fld := ⟨.PWR_RAIL_CFG, 47, 32⟩
abbrev PWR_RAIL_CFG_resp_us : Fld := ⟨.PWR_RAIL_CFG, 31, 24⟩
abbrev PWR_RAIL_CFG_floor_a : Fld := ⟨.PWR_RAIL_CFG, 15, 6⟩
abbrev PWR_RAIL_CFG_slew : Fld := ⟨.PWR_RAIL_CFG, 5, 0⟩
abbrev PWR_RAIL_STATUS_static_a : Fld := ⟨.PWR_RAIL_STATUS, 51, 40⟩
abbrev PWR_RAIL_STATUS_ceiling_a : Fld := ⟨.PWR_RAIL_STATUS, 39, 28⟩
abbrev PWR_RAIL_STATUS_estimate_a : Fld := ⟨.PWR_RAIL_STATUS, 27, 16⟩
abbrev PWR_RAIL_STATUS_setpoint_mv : Fld := ⟨.PWR_RAIL_STATUS, 9, 0⟩
abbrev PWR_THERM_CFG_crit_ceiling_a : Fld := ⟨.PWR_THERM_CFG, 41, 32⟩
abbrev PWR_THERM_CFG_trip : Fld := ⟨.PWR_THERM_CFG, 31, 24⟩
abbrev PWR_THERM_CFG_crit : Fld := ⟨.PWR_THERM_CFG, 23, 16⟩
abbrev PWR_THERM_CFG_warn : Fld := ⟨.PWR_THERM_CFG, 15, 8⟩
abbrev PWR_TRIP_CFG_coolant_en : Fld := ⟨.PWR_TRIP_CFG, 16, 16⟩
abbrev PWR_TRIP_CFG_ramp_us : Fld := ⟨.PWR_TRIP_CFG, 15, 0⟩
abbrev PWR_TRIP_CAPTURE_valid : Fld := ⟨.PWR_TRIP_CAPTURE, 63, 63⟩
abbrev PWR_TRIP_CAPTURE_cause : Fld := ⟨.PWR_TRIP_CAPTURE, 62, 60⟩
abbrev PWR_TRIP_CAPTURE_sensor : Fld := ⟨.PWR_TRIP_CAPTURE, 59, 55⟩
abbrev PWR_TRIP_CAPTURE_temp : Fld := ⟨.PWR_TRIP_CAPTURE, 51, 40⟩
abbrev PWR_TRIP_CAPTURE_seconds : Fld := ⟨.PWR_TRIP_CAPTURE, 39, 32⟩
abbrev PWR_TRIP_CAPTURE_time_s : Fld := ⟨.PWR_TRIP_CAPTURE, 31, 0⟩
abbrev PWR_TEMP_temp : Fld := ⟨.PWR_TEMP, 11, 0⟩
abbrev PWR_HBM_TEMP_present : Fld := ⟨.PWR_HBM_TEMP, 8, 8⟩
abbrev PWR_HBM_TEMP_temp : Fld := ⟨.PWR_HBM_TEMP, 7, 0⟩
abbrev PWR_CNT_count : Fld := ⟨.PWR_CNT, 63, 0⟩
abbrev BOOT_STRAPS_boot_src : Fld := ⟨.BOOT_STRAPS, 2, 2⟩
abbrev BOOT_STRAPS_board_pos : Fld := ⟨.BOOT_STRAPS, 1, 0⟩
abbrev BOOT_STATUS_fw_window_ms : Fld := ⟨.BOOT_STATUS, 63, 32⟩
abbrev BOOT_STATUS_recovery : Fld := ⟨.BOOT_STATUS, 17, 17⟩
abbrev BOOT_STATUS_hold_lanes : Fld := ⟨.BOOT_STATUS, 16, 16⟩
abbrev BOOT_STATUS_error : Fld := ⟨.BOOT_STATUS, 15, 8⟩
abbrev BOOT_STATUS_phase : Fld := ⟨.BOOT_STATUS, 3, 0⟩
abbrev BOOT_FW_LIST_list_addr : Fld := ⟨.BOOT_FW_LIST, 63, 6⟩
abbrev BOOT_FW_CTRL_go : Fld := ⟨.BOOT_FW_CTRL, 31, 31⟩
abbrev BOOT_FW_CTRL_kind : Fld := ⟨.BOOT_FW_CTRL, 30, 30⟩
abbrev BOOT_FW_CTRL_extents : Fld := ⟨.BOOT_FW_CTRL, 10, 0⟩
abbrev BOOT_IMAGE_SERIAL_image_serial : Fld := ⟨.BOOT_IMAGE_SERIAL, 63, 0⟩
abbrev BOOT_PHASE_TIME_entry_us : Fld := ⟨.BOOT_PHASE_TIME, 31, 0⟩
abbrev BOOT_SWAP_LIST_list_addr : Fld := ⟨.BOOT_SWAP_LIST, 63, 6⟩
abbrev BOOT_SWAP_CTRL_go : Fld := ⟨.BOOT_SWAP_CTRL, 31, 31⟩
abbrev BOOT_SWAP_CTRL_revert : Fld := ⟨.BOOT_SWAP_CTRL, 30, 30⟩
abbrev BOOT_SWAP_CTRL_extents : Fld := ⟨.BOOT_SWAP_CTRL, 10, 0⟩
abbrev BOOT_SWAP_STATUS_standby_version : Fld := ⟨.BOOT_SWAP_STATUS, 63, 32⟩
abbrev BOOT_SWAP_STATUS_error : Fld := ⟨.BOOT_SWAP_STATUS, 23, 16⟩
abbrev BOOT_SWAP_STATUS_running_slot : Fld := ⟨.BOOT_SWAP_STATUS, 8, 8⟩
abbrev BOOT_SWAP_STATUS_state : Fld := ⟨.BOOT_SWAP_STATUS, 3, 0⟩
abbrev SEC_STATUS_fw_reject : Fld := ⟨.SEC_STATUS, 47, 40⟩
abbrev SEC_STATUS_epoch : Fld := ⟨.SEC_STATUS, 39, 32⟩
abbrev SEC_STATUS_deny_count : Fld := ⟨.SEC_STATUS, 31, 24⟩
abbrev SEC_STATUS_scope : Fld := ⟨.SEC_STATUS, 19, 16⟩
abbrev SEC_STATUS_chal_valid : Fld := ⟨.SEC_STATUS, 15, 15⟩
abbrev SEC_STATUS_provisioning : Fld := ⟨.SEC_STATUS, 4, 4⟩
abbrev SEC_STATUS_ladder_blocked : Fld := ⟨.SEC_STATUS, 3, 3⟩
abbrev SEC_STATUS_ladder_ready : Fld := ⟨.SEC_STATUS, 2, 2⟩
abbrev SEC_STATUS_debug_opened : Fld := ⟨.SEC_STATUS, 1, 1⟩
abbrev SEC_STATUS_fuse_ok : Fld := ⟨.SEC_STATUS, 0, 0⟩
abbrev SEC_ANCHOR_STATUS_slot_used : Fld := ⟨.SEC_ANCHOR_STATUS, 27, 24⟩
abbrev SEC_ANCHOR_STATUS_dbg_revoked : Fld := ⟨.SEC_ANCHOR_STATUS, 19, 18⟩
abbrev SEC_ANCHOR_STATUS_dbg_programmed : Fld := ⟨.SEC_ANCHOR_STATUS, 17, 16⟩
abbrev SEC_ANCHOR_STATUS_cfg_revoked : Fld := ⟨.SEC_ANCHOR_STATUS, 15, 8⟩
abbrev SEC_ANCHOR_STATUS_cfg_programmed : Fld := ⟨.SEC_ANCHOR_STATUS, 7, 0⟩
abbrev SEC_CHAL_value : Fld := ⟨.SEC_CHAL, 63, 0⟩
abbrev SEC_CMD_go : Fld := ⟨.SEC_CMD, 31, 31⟩
abbrev SEC_CMD_op : Fld := ⟨.SEC_CMD, 19, 16⟩
abbrev SEC_CMD_length : Fld := ⟨.SEC_CMD, 12, 0⟩
abbrev SEC_CMD_STATUS_requester : Fld := ⟨.SEC_CMD_STATUS, 15, 12⟩
abbrev SEC_CMD_STATUS_busy : Fld := ⟨.SEC_CMD_STATUS, 8, 8⟩
abbrev SEC_CMD_STATUS_result : Fld := ⟨.SEC_CMD_STATUS, 7, 0⟩
abbrev EVT_CTRL_intn_en : Fld := ⟨.EVT_CTRL, 3, 3⟩
abbrev EVT_CTRL_intn_sev : Fld := ⟨.EVT_CTRL, 2, 0⟩
abbrev EVT_INTN_host_absent : Fld := ⟨.EVT_INTN, 2, 2⟩
abbrev EVT_INTN_boot : Fld := ⟨.EVT_INTN, 1, 1⟩
abbrev EVT_INTN_event : Fld := ⟨.EVT_INTN, 0, 0⟩
abbrev EVT_CFG_DIGEST_digest : Fld := ⟨.EVT_CFG_DIGEST, 63, 0⟩
abbrev EVT_CNT_WRAP_wrap : Fld := ⟨.EVT_CNT_WRAP, 7, 0⟩
abbrev EVT_SRC_EN_enable : Fld := ⟨.EVT_SRC_EN, 31, 0⟩
abbrev EVT_PEND_pending : Fld := ⟨.EVT_PEND, 31, 0⟩
abbrev EVT_RING_CFG_base : Fld := ⟨.EVT_RING_CFG, 63, 12⟩
abbrev EVT_RING_CFG_enable : Fld := ⟨.EVT_RING_CFG, 5, 5⟩
abbrev EVT_RING_CFG_log2_size : Fld := ⟨.EVT_RING_CFG, 4, 0⟩
abbrev EVT_RING_CFG2_vector : Fld := ⟨.EVT_RING_CFG2, 31, 26⟩
abbrev EVT_RING_CFG2_itr_us : Fld := ⟨.EVT_RING_CFG2, 25, 16⟩
abbrev EVT_RING_PTR_head : Fld := ⟨.EVT_RING_PTR, 47, 32⟩
abbrev EVT_RING_PTR_rd : Fld := ⟨.EVT_RING_PTR, 15, 0⟩
abbrev EVT_RING_STATUS_lost : Fld := ⟨.EVT_RING_STATUS, 63, 32⟩
abbrev EVT_RING_STATUS_overflow : Fld := ⟨.EVT_RING_STATUS, 0, 0⟩
abbrev EVT_SRC_CFG_ring : Fld := ⟨.EVT_SRC_CFG, 5, 3⟩
abbrev EVT_SRC_CFG_severity : Fld := ⟨.EVT_SRC_CFG, 2, 0⟩
abbrev HST_CFG_DIGEST_digest : Fld := ⟨.HST_CFG_DIGEST, 63, 0⟩
abbrev HST_HOST_ALIVE_beat : Fld := ⟨.HST_HOST_ALIVE, 0, 0⟩
abbrev HST_HOSTLOSS_CTRL_timeout_ms : Fld := ⟨.HST_HOSTLOSS_CTRL, 31, 16⟩
abbrev HST_HOSTLOSS_CTRL_absent : Fld := ⟨.HST_HOSTLOSS_CTRL, 15, 15⟩
abbrev HST_HOSTLOSS_CTRL_stay : Fld := ⟨.HST_HOSTLOSS_CTRL, 8, 0⟩
abbrev HST_MODE_CTRL_go : Fld := ⟨.HST_MODE_CTRL, 31, 31⟩
abbrev HST_MODE_CTRL_mode : Fld := ⟨.HST_MODE_CTRL, 8, 8⟩
abbrev HST_MODE_CTRL_function : Fld := ⟨.HST_MODE_CTRL, 3, 0⟩
abbrev HST_MODE_STATUS_error : Fld := ⟨.HST_MODE_STATUS, 31, 24⟩
abbrev HST_MODE_STATUS_current : Fld := ⟨.HST_MODE_STATUS, 23, 20⟩
abbrev HST_MODE_STATUS_busy : Fld := ⟨.HST_MODE_STATUS, 16, 16⟩
abbrev HST_MODE_STATUS_host_modes : Fld := ⟨.HST_MODE_STATUS, 8, 0⟩
abbrev HST_FRAG_CFG_group : Fld := ⟨.HST_FRAG_CFG, 11, 0⟩
abbrev HST_CNT_count : Fld := ⟨.HST_CNT, 63, 0⟩
abbrev MSIX_ADDR_addr : Fld := ⟨.MSIX_ADDR, 63, 2⟩
abbrev MSIX_DATA_mask : Fld := ⟨.MSIX_DATA, 32, 32⟩
abbrev MSIX_DATA_data : Fld := ⟨.MSIX_DATA, 31, 0⟩
abbrev MSIX_PBA_pending : Fld := ⟨.MSIX_PBA, 63, 0⟩
abbrev HST_RXG_CFG_valid : Fld := ⟨.HST_RXG_CFG, 15, 15⟩
abbrev HST_RXG_CFG_log2_count : Fld := ⟨.HST_RXG_CFG, 14, 12⟩
abbrev HST_RXG_CFG_base_ring : Fld := ⟨.HST_RXG_CFG, 10, 0⟩
abbrev HST_RXR_CFG_base : Fld := ⟨.HST_RXR_CFG, 63, 12⟩
abbrev HST_RXR_CFG_meta : Fld := ⟨.HST_RXR_CFG, 6, 6⟩
abbrev HST_RXR_CFG_enable : Fld := ⟨.HST_RXR_CFG, 5, 5⟩
abbrev HST_RXR_CFG_log2_size : Fld := ⟨.HST_RXR_CFG, 4, 0⟩
abbrev HST_RXR_CFG2_vector : Fld := ⟨.HST_RXR_CFG2, 31, 26⟩
abbrev HST_RXR_CFG2_itr_us : Fld := ⟨.HST_RXR_CFG2, 25, 16⟩
abbrev HST_RXR_CFG2_buf_size : Fld := ⟨.HST_RXR_CFG2, 7, 0⟩
abbrev HST_RXR_PTR_head : Fld := ⟨.HST_RXR_PTR, 47, 32⟩
abbrev HST_RXR_PTR_tail : Fld := ⟨.HST_RXR_PTR, 15, 0⟩
abbrev HST_RXR_CNT_count : Fld := ⟨.HST_RXR_CNT, 63, 0⟩
abbrev HST_TXR_CFG_base : Fld := ⟨.HST_TXR_CFG, 63, 12⟩
abbrev HST_TXR_CFG_enable : Fld := ⟨.HST_TXR_CFG, 5, 5⟩
abbrev HST_TXR_CFG_log2_size : Fld := ⟨.HST_TXR_CFG, 4, 0⟩
abbrev HST_TXR_CFG2_vector : Fld := ⟨.HST_TXR_CFG2, 31, 26⟩
abbrev HST_TXR_CFG2_itr_us : Fld := ⟨.HST_TXR_CFG2, 25, 16⟩
abbrev HST_TXR_CFG2_requester : Fld := ⟨.HST_TXR_CFG2, 6, 0⟩
abbrev HST_TXR_PTR_head : Fld := ⟨.HST_TXR_PTR, 47, 32⟩
abbrev HST_TXR_PTR_tail : Fld := ⟨.HST_TXR_PTR, 15, 0⟩
abbrev HST_TXR_CNT_count : Fld := ⟨.HST_TXR_CNT, 63, 0⟩
abbrev TIM_CFG_DIGEST_digest : Fld := ⟨.TIM_CFG_DIGEST, 63, 0⟩
abbrev TIM_CTRL_ptp_hdr_id : Fld := ⟨.TIM_CTRL, 31, 24⟩
abbrev TIM_CTRL_servo_host : Fld := ⟨.TIM_CTRL, 0, 0⟩
abbrev TIM_NOW_LO_time : Fld := ⟨.TIM_NOW_LO, 63, 0⟩
abbrev TIM_NOW_HI_time : Fld := ⟨.TIM_NOW_HI, 63, 0⟩
abbrev TIM_FREQ_adj : Fld := ⟨.TIM_FREQ, 39, 0⟩
abbrev TIM_STEP_amount : Fld := ⟨.TIM_STEP, 63, 0⟩
abbrev TIM_SET_LO_time : Fld := ⟨.TIM_SET_LO, 63, 0⟩
abbrev TIM_SET_HI_time : Fld := ⟨.TIM_SET_HI, 63, 0⟩
abbrev TIM_SLEW_rate_ppm : Fld := ⟨.TIM_SLEW, 63, 48⟩
abbrev TIM_SLEW_amount : Fld := ⟨.TIM_SLEW, 47, 0⟩
abbrev TIM_ADJ_CTRL_slew_abort : Fld := ⟨.TIM_ADJ_CTRL, 3, 3⟩
abbrev TIM_ADJ_CTRL_slew_go : Fld := ⟨.TIM_ADJ_CTRL, 2, 2⟩
abbrev TIM_ADJ_CTRL_set_go : Fld := ⟨.TIM_ADJ_CTRL, 1, 1⟩
abbrev TIM_ADJ_CTRL_step_go : Fld := ⟨.TIM_ADJ_CTRL, 0, 0⟩
abbrev TIM_ADJ_STATUS_step_pending : Fld := ⟨.TIM_ADJ_STATUS, 49, 49⟩
abbrev TIM_ADJ_STATUS_slew_busy : Fld := ⟨.TIM_ADJ_STATUS, 48, 48⟩
abbrev TIM_ADJ_STATUS_remaining : Fld := ⟨.TIM_ADJ_STATUS, 47, 0⟩
abbrev TIM_PPS_CFG_out_offset : Fld := ⟨.TIM_PPS_CFG, 63, 32⟩
abbrev TIM_PPS_CFG_in_delay : Fld := ⟨.TIM_PPS_CFG, 31, 16⟩
abbrev TIM_PPS_CFG_out_width : Fld := ⟨.TIM_PPS_CFG, 15, 6⟩
abbrev TIM_PPS_CFG_in_en : Fld := ⟨.TIM_PPS_CFG, 1, 1⟩
abbrev TIM_PPS_CFG_out_en : Fld := ⟨.TIM_PPS_CFG, 0, 0⟩
abbrev TIM_PPS_IN_LO_time : Fld := ⟨.TIM_PPS_IN_LO, 63, 0⟩
abbrev TIM_PPS_IN_HI_valid : Fld := ⟨.TIM_PPS_IN_HI, 63, 63⟩
abbrev TIM_PPS_IN_HI_seconds_hi : Fld := ⟨.TIM_PPS_IN_HI, 31, 0⟩
abbrev TIM_CLK10_STATUS_present : Fld := ⟨.TIM_CLK10_STATUS, 31, 31⟩
abbrev TIM_CLK10_STATUS_offset : Fld := ⟨.TIM_CLK10_STATUS, 23, 0⟩
abbrev TIM_RCLK_CFG_enable : Fld := ⟨.TIM_RCLK_CFG, 15, 15⟩
abbrev TIM_RCLK_CFG_div : Fld := ⟨.TIM_RCLK_CFG, 14, 14⟩
abbrev TIM_RCLK_CFG_squelched : Fld := ⟨.TIM_RCLK_CFG, 13, 13⟩
abbrev TIM_RCLK_CFG_lane : Fld := ⟨.TIM_RCLK_CFG, 8, 0⟩
abbrev TIM_TXQ_DATA0_time : Fld := ⟨.TIM_TXQ_DATA0, 63, 0⟩
abbrev TIM_TXQ_DATA1_valid : Fld := ⟨.TIM_TXQ_DATA1, 63, 63⟩
abbrev TIM_TXQ_DATA1_port : Fld := ⟨.TIM_TXQ_DATA1, 56, 48⟩
abbrev TIM_TXQ_DATA1_id : Fld := ⟨.TIM_TXQ_DATA1, 47, 32⟩
abbrev TIM_TXQ_DATA1_seconds_hi : Fld := ⟨.TIM_TXQ_DATA1, 31, 0⟩
abbrev TIM_TXQ_CTRL_pop : Fld := ⟨.TIM_TXQ_CTRL, 0, 0⟩
abbrev TIM_TXQ_STATUS_overflow : Fld := ⟨.TIM_TXQ_STATUS, 31, 31⟩
abbrev TIM_TXQ_STATUS_depth : Fld := ⟨.TIM_TXQ_STATUS, 6, 0⟩
abbrev TIM_PEAL_CFG_asym : Fld := ⟨.TIM_PEAL_CFG, 31, 16⟩
abbrev TIM_PEAL_CFG_follow : Fld := ⟨.TIM_PEAL_CFG, 2, 2⟩
abbrev TIM_PEAL_CFG_source_pos : Fld := ⟨.TIM_PEAL_CFG, 1, 0⟩
abbrev TIM_LEDGER_HOST_offset : Fld := ⟨.TIM_LEDGER_HOST, 63, 32⟩
abbrev TIM_LEDGER_HOST_source_idx : Fld := ⟨.TIM_LEDGER_HOST, 31, 16⟩
abbrev TIM_LEDGER_HOST_source : Fld := ⟨.TIM_LEDGER_HOST, 15, 8⟩
abbrev TIM_LEDGER_HOST_state : Fld := ⟨.TIM_LEDGER_HOST, 7, 0⟩
abbrev TIM_LEDGER_STATUS_records : Fld := ⟨.TIM_LEDGER_STATUS, 63, 32⟩
abbrev TIM_LEDGER_STATUS_blocks : Fld := ⟨.TIM_LEDGER_STATUS, 31, 0⟩
abbrev TIM_CNT_count : Fld := ⟨.TIM_CNT, 63, 0⟩
abbrev TIM_PORT_CFG_link_delay : Fld := ⟨.TIM_PORT_CFG, 63, 32⟩
abbrev TIM_PORT_CFG_asym : Fld := ⟨.TIM_PORT_CFG, 31, 16⟩
abbrev TIM_PORT_CFG_ptp_mode : Fld := ⟨.TIM_PORT_CFG, 1, 0⟩
abbrev TIM_LANE_CAL_board_tx : Fld := ⟨.TIM_LANE_CAL, 31, 16⟩
abbrev TIM_LANE_CAL_board_rx : Fld := ⟨.TIM_LANE_CAL, 15, 0⟩
abbrev TIM_LANE_CAL_STATUS_loop_err : Fld := ⟨.TIM_LANE_CAL_STATUS, 63, 48⟩
abbrev TIM_LANE_CAL_STATUS_temp : Fld := ⟨.TIM_LANE_CAL_STATUS, 47, 40⟩
abbrev TIM_LANE_CAL_STATUS_timing_valid : Fld := ⟨.TIM_LANE_CAL_STATUS, 1, 1⟩
abbrev TIM_LANE_CAL_STATUS_checked : Fld := ⟨.TIM_LANE_CAL_STATUS, 0, 0⟩
abbrev TWN_HOLD_expired : Fld := ⟨.TWN_HOLD, 2, 2⟩
abbrev TWN_HOLD_ack : Fld := ⟨.TWN_HOLD, 1, 1⟩
abbrev TWN_HOLD_req : Fld := ⟨.TWN_HOLD, 0, 0⟩
abbrev TWN_CFG_DIGEST_digest : Fld := ⟨.TWN_CFG_DIGEST, 63, 0⟩
abbrev TWN_CTRL_lag_bound_us : Fld := ⟨.TWN_CTRL, 24, 16⟩
abbrev TWN_CTRL_resync_host : Fld := ⟨.TWN_CTRL, 3, 3⟩
abbrev TWN_CTRL_hold_ports : Fld := ⟨.TWN_CTRL, 2, 2⟩
abbrev TWN_CTRL_sync_down : Fld := ⟨.TWN_CTRL, 1, 1⟩
abbrev TWN_SYNC_CTRL_timeout_us : Fld := ⟨.TWN_SYNC_CTRL, 31, 16⟩
abbrev TWN_SYNC_CTRL_hold_max : Fld := ⟨.TWN_SYNC_CTRL, 14, 0⟩
abbrev TWN_STATUS_compat_ok : Fld := ⟨.TWN_STATUS, 14, 14⟩
abbrev TWN_STATUS_backlog_lost : Fld := ⟨.TWN_STATUS, 13, 13⟩
abbrev TWN_STATUS_empty_start : Fld := ⟨.TWN_STATUS, 12, 12⟩
abbrev TWN_STATUS_peer_state : Fld := ⟨.TWN_STATUS, 11, 9⟩
abbrev TWN_STATUS_ember : Fld := ⟨.TWN_STATUS, 8, 7⟩
abbrev TWN_STATUS_peer_failed : Fld := ⟨.TWN_STATUS, 6, 6⟩
abbrev TWN_STATUS_alone : Fld := ⟨.TWN_STATUS, 5, 5⟩
abbrev TWN_STATUS_state : Fld := ⟨.TWN_STATUS, 4, 2⟩
abbrev TWN_STATUS_role : Fld := ⟨.TWN_STATUS, 1, 0⟩
abbrev TWN_KINDLE_CTRL_done : Fld := ⟨.TWN_KINDLE_CTRL, 1, 1⟩
abbrev TWN_KINDLE_CTRL_merge : Fld := ⟨.TWN_KINDLE_CTRL, 0, 0⟩
abbrev TWN_KINDLE_STATUS_records : Fld := ⟨.TWN_KINDLE_STATUS, 63, 36⟩
abbrev TWN_KINDLE_STATUS_progress : Fld := ⟨.TWN_KINDLE_STATUS, 31, 24⟩
abbrev TWN_KINDLE_STATUS_kstate : Fld := ⟨.TWN_KINDLE_STATUS, 2, 0⟩
abbrev TWN_DIGEST_CTRL_grace_ms : Fld := ⟨.TWN_DIGEST_CTRL, 15, 0⟩
abbrev TWN_DIVERGE_CAPTURE_valid : Fld := ⟨.TWN_DIVERGE_CAPTURE, 63, 63⟩
abbrev TWN_DIVERGE_CAPTURE_kind : Fld := ⟨.TWN_DIVERGE_CAPTURE, 62, 62⟩
abbrev TWN_DIVERGE_CAPTURE_peer : Fld := ⟨.TWN_DIVERGE_CAPTURE, 61, 59⟩
abbrev TWN_DIVERGE_CAPTURE_component : Fld := ⟨.TWN_DIVERGE_CAPTURE, 55, 32⟩
abbrev TWN_DIVERGE_CAPTURE_instance : Fld := ⟨.TWN_DIVERGE_CAPTURE, 31, 16⟩
abbrev TWN_STREAM_STATUS_sent_seq : Fld := ⟨.TWN_STREAM_STATUS, 63, 32⟩
abbrev TWN_STREAM_STATUS_acked_seq : Fld := ⟨.TWN_STREAM_STATUS, 31, 0⟩
abbrev TWN_STREAM_LAG_backlog : Fld := ⟨.TWN_STREAM_LAG, 57, 32⟩
abbrev TWN_STREAM_LAG_lag_ns : Fld := ⟨.TWN_STREAM_LAG, 31, 0⟩
abbrev TWN_HOLD_OCC_peak : Fld := ⟨.TWN_HOLD_OCC, 30, 16⟩
abbrev TWN_HOLD_OCC_occupancy : Fld := ⟨.TWN_HOLD_OCC, 14, 0⟩
abbrev TWN_CNT_count : Fld := ⟨.TWN_CNT, 63, 0⟩
abbrev PEL_CFG_DIGEST_digest : Fld := ⟨.PEL_CFG_DIGEST, 63, 0⟩
abbrev PEL_GROUP_CFG_spare_mask : Fld := ⟨.PEL_GROUP_CFG, 23, 16⟩
abbrev PEL_GROUP_CFG_lane_mask : Fld := ⟨.PEL_GROUP_CFG, 15, 8⟩
abbrev PEL_GROUP_CFG_cable : Fld := ⟨.PEL_GROUP_CFG, 6, 6⟩
abbrev PEL_GROUP_CFG_peer_pos : Fld := ⟨.PEL_GROUP_CFG, 5, 4⟩
abbrev PEL_GROUP_CFG_boot : Fld := ⟨.PEL_GROUP_CFG, 1, 1⟩
abbrev PEL_GROUP_CFG_peal_en : Fld := ⟨.PEL_GROUP_CFG, 0, 0⟩
abbrev PEL_LINK_STATUS_lanes_up : Fld := ⟨.PEL_LINK_STATUS, 31, 24⟩
abbrev PEL_LINK_STATUS_spares_idle : Fld := ⟨.PEL_LINK_STATUS, 23, 16⟩
abbrev PEL_LINK_STATUS_failed : Fld := ⟨.PEL_LINK_STATUS, 15, 8⟩
abbrev PEL_LINK_STATUS_state : Fld := ⟨.PEL_LINK_STATUS, 2, 0⟩
abbrev PEL_CELL_CNT_cells : Fld := ⟨.PEL_CELL_CNT, 63, 0⟩
abbrev PEL_PEER_STATUS_toll_seq : Fld := ⟨.PEL_PEER_STATUS, 63, 32⟩
abbrev PEL_PEER_STATUS_admitted : Fld := ⟨.PEL_PEER_STATUS, 23, 23⟩
abbrev PEL_PEER_STATUS_serial_mismatch : Fld := ⟨.PEL_PEER_STATUS, 22, 22⟩
abbrev PEL_PEER_STATUS_compat_mismatch : Fld := ⟨.PEL_PEER_STATUS, 21, 21⟩
abbrev PEL_PEER_STATUS_twin_state : Fld := ⟨.PEL_PEER_STATUS, 20, 18⟩
abbrev PEL_PEER_STATUS_missed : Fld := ⟨.PEL_PEER_STATUS, 17, 2⟩
abbrev PEL_PEER_STATUS_lost : Fld := ⟨.PEL_PEER_STATUS, 1, 1⟩
abbrev PEL_DIST_RING_base : Fld := ⟨.PEL_DIST_RING, 63, 8⟩
abbrev PEL_DIST_RING_log2_size : Fld := ⟨.PEL_DIST_RING, 4, 0⟩
abbrev PEL_DIST_PTR_head : Fld := ⟨.PEL_DIST_PTR, 47, 32⟩
abbrev PEL_DIST_PTR_tail : Fld := ⟨.PEL_DIST_PTR, 15, 0⟩
abbrev PEL_DIST_CFG_accept : Fld := ⟨.PEL_DIST_CFG, 4, 0⟩
abbrev PEL_GROUP_DIGEST_digest : Fld := ⟨.PEL_GROUP_DIGEST, 63, 0⟩
abbrev LANE_CTRL_adapt_freeze : Fld := ⟨.LANE_CTRL, 9, 9⟩
abbrev LANE_CTRL_recal : Fld := ⟨.LANE_CTRL, 8, 8⟩
abbrev LANE_CTRL_rx_invert : Fld := ⟨.LANE_CTRL, 4, 4⟩
abbrev LANE_CTRL_tx_invert : Fld := ⟨.LANE_CTRL, 3, 3⟩
abbrev LANE_CTRL_loopback : Fld := ⟨.LANE_CTRL, 2, 1⟩
abbrev LANE_CTRL_tx_enable : Fld := ⟨.LANE_CTRL, 0, 0⟩
abbrev LANE_STATUS_recal_count : Fld := ⟨.LANE_STATUS, 31, 16⟩
abbrev LANE_STATUS_eye_margin : Fld := ⟨.LANE_STATUS, 15, 8⟩
abbrev LANE_STATUS_fec_lock : Fld := ⟨.LANE_STATUS, 5, 5⟩
abbrev LANE_STATUS_rx_signal : Fld := ⟨.LANE_STATUS, 4, 4⟩
abbrev LANE_STATUS_pll_lock : Fld := ⟨.LANE_STATUS, 3, 3⟩
abbrev LANE_STATUS_state : Fld := ⟨.LANE_STATUS, 2, 0⟩
abbrev LANE_DEGRADE_CTRL_fail_windows : Fld := ⟨.LANE_DEGRADE_CTRL, 31, 24⟩
abbrev LANE_DEGRADE_CTRL_symbols : Fld := ⟨.LANE_DEGRADE_CTRL, 23, 0⟩
abbrev LANE_FEC_CNT_count : Fld := ⟨.LANE_FEC_CNT, 63, 0⟩
abbrev LANE_CFG_DIGEST_digest : Fld := ⟨.LANE_CFG_DIGEST, 63, 0⟩
abbrev LANE_CNT_WRAP_wrap : Fld := ⟨.LANE_CNT_WRAP, 0, 0⟩
abbrev MAC_PORT_CFG_max_frame : Fld := ⟨.MAC_PORT_CFG, 47, 32⟩
abbrev MAC_PORT_CFG_fc_mode : Fld := ⟨.MAC_PORT_CFG, 19, 18⟩
abbrev MAC_PORT_CFG_pfc_gen_mask : Fld := ⟨.MAC_PORT_CFG, 15, 8⟩
abbrev MAC_PORT_CFG_lanes : Fld := ⟨.MAC_PORT_CFG, 5, 4⟩
abbrev MAC_PORT_CFG_an_en : Fld := ⟨.MAC_PORT_CFG, 3, 3⟩
abbrev MAC_PORT_CFG_enable : Fld := ⟨.MAC_PORT_CFG, 0, 0⟩
abbrev MAC_PORT_STATUS_pfc_tx : Fld := ⟨.MAC_PORT_STATUS, 23, 16⟩
abbrev MAC_PORT_STATUS_pfc_rx : Fld := ⟨.MAC_PORT_STATUS, 15, 8⟩
abbrev MAC_PORT_STATUS_drained : Fld := ⟨.MAC_PORT_STATUS, 3, 3⟩
abbrev MAC_PORT_STATUS_remote_fault : Fld := ⟨.MAC_PORT_STATUS, 2, 2⟩
abbrev MAC_PORT_STATUS_local_fault : Fld := ⟨.MAC_PORT_STATUS, 1, 1⟩
abbrev MAC_PORT_STATUS_link_up : Fld := ⟨.MAC_PORT_STATUS, 0, 0⟩
abbrev MAC_PFC_CTRL_rx_prio_enable : Fld := ⟨.MAC_PFC_CTRL, 23, 16⟩
abbrev MAC_PFC_CTRL_quanta : Fld := ⟨.MAC_PFC_CTRL, 15, 0⟩
abbrev MAC_RX_ERR_frames : Fld := ⟨.MAC_RX_ERR, 63, 0⟩
abbrev MAC_CFG_DIGEST_digest : Fld := ⟨.MAC_CFG_DIGEST, 63, 0⟩
abbrev MAC_CTL_CNT_frames : Fld := ⟨.MAC_CTL_CNT, 63, 0⟩
abbrev PRS_INTAKE_CTRL_recirc_share : Fld := ⟨.PRS_INTAKE_CTRL, 4, 0⟩
abbrev PRS_INTAKE_OCC_peak : Fld := ⟨.PRS_INTAKE_OCC, 28, 16⟩
abbrev PRS_INTAKE_OCC_occupancy : Fld := ⟨.PRS_INTAKE_OCC, 12, 0⟩
abbrev PRS_INTAKE_DROP_frames : Fld := ⟨.PRS_INTAKE_DROP, 63, 0⟩
abbrev PRS_REORDER_OCC_peak : Fld := ⟨.PRS_REORDER_OCC, 22, 16⟩
abbrev PRS_REORDER_OCC_occupancy : Fld := ⟨.PRS_REORDER_OCC, 6, 0⟩
abbrev PRS_HOLD_expired : Fld := ⟨.PRS_HOLD, 2, 2⟩
abbrev PRS_HOLD_ack : Fld := ⟨.PRS_HOLD, 1, 1⟩
abbrev PRS_HOLD_req : Fld := ⟨.PRS_HOLD, 0, 0⟩
abbrev PRS_CFG_DIGEST_digest : Fld := ⟨.PRS_CFG_DIGEST, 63, 0⟩
abbrev PRS_PORT_POLICY_zone : Fld := ⟨.PRS_PORT_POLICY, 63, 48⟩
abbrev PRS_PORT_POLICY_start_state : Fld := ⟨.PRS_PORT_POLICY, 43, 32⟩
abbrev PRS_PORT_POLICY_flow_layer : Fld := ⟨.PRS_PORT_POLICY, 7, 7⟩
abbrev PRS_PORT_POLICY_conflict_act : Fld := ⟨.PRS_PORT_POLICY, 4, 4⟩
abbrev PRS_PORT_POLICY_depth_act : Fld := ⟨.PRS_PORT_POLICY, 3, 3⟩
abbrev PRS_ENGINE_CTRL_retired : Fld := ⟨.PRS_ENGINE_CTRL, 27, 16⟩
abbrev PRS_ENGINE_CTRL_retire : Fld := ⟨.PRS_ENGINE_CTRL, 11, 0⟩
abbrev PRS_FLAG_CNT_packets : Fld := ⟨.PRS_FLAG_CNT, 63, 0⟩
abbrev CLSD_CFG_DIGEST_digest : Fld := ⟨.CLSD_CFG_DIGEST, 63, 0⟩
abbrev CLS_GEN_CTRL_abort : Fld := ⟨.CLS_GEN_CTRL, 1, 1⟩
abbrev CLS_GEN_CTRL_commit : Fld := ⟨.CLS_GEN_CTRL, 0, 0⟩
abbrev CLS_GEN_STATUS_commit_pending : Fld := ⟨.CLS_GEN_STATUS, 42, 42⟩
abbrev CLS_GEN_STATUS_preparing : Fld := ⟨.CLS_GEN_STATUS, 41, 41⟩
abbrev CLS_GEN_STATUS_stage_open : Fld := ⟨.CLS_GEN_STATUS, 40, 40⟩
abbrev CLS_GEN_STATUS_staged_slot : Fld := ⟨.CLS_GEN_STATUS, 38, 36⟩
abbrev CLS_GEN_STATUS_live_count : Fld := ⟨.CLS_GEN_STATUS, 35, 32⟩
abbrev CLS_GEN_STATUS_oldest_gen : Fld := ⟨.CLS_GEN_STATUS, 31, 16⟩
abbrev CLS_GEN_STATUS_live_gen : Fld := ⟨.CLS_GEN_STATUS, 15, 0⟩
abbrev CLS_GEN_INFLIGHT_packets : Fld := ⟨.CLS_GEN_INFLIGHT, 31, 0⟩
abbrev CLS_TBL_CMD_index : Fld := ⟨.CLS_TBL_CMD, 63, 32⟩
abbrev CLS_TBL_CMD_op : Fld := ⟨.CLS_TBL_CMD, 31, 28⟩
abbrev CLS_TBL_CMD_table : Fld := ⟨.CLS_TBL_CMD, 23, 0⟩
abbrev CLS_TBL_SLICES_slices : Fld := ⟨.CLS_TBL_SLICES, 31, 0⟩
abbrev CLS_TBL_STATUS_result : Fld := ⟨.CLS_TBL_STATUS, 63, 32⟩
abbrev CLS_TBL_STATUS_busy : Fld := ⟨.CLS_TBL_STATUS, 8, 8⟩
abbrev CLS_TBL_STATUS_code : Fld := ⟨.CLS_TBL_STATUS, 7, 0⟩
abbrev CLS_EXM_CFG_width : Fld := ⟨.CLS_EXM_CFG, 1, 0⟩
abbrev CLS_TBL_DATA_data : Fld := ⟨.CLS_TBL_DATA, 63, 0⟩
abbrev CLS_HOLD_expired : Fld := ⟨.CLS_HOLD, 2, 2⟩
abbrev CLS_HOLD_ack : Fld := ⟨.CLS_HOLD, 1, 1⟩
abbrev CLS_HOLD_req : Fld := ⟨.CLS_HOLD, 0, 0⟩
abbrev CLS_CFG_DIGEST_digest : Fld := ⟨.CLS_CFG_DIGEST, 63, 0⟩
abbrev CLS_PORT_CFG_tcam_en : Fld := ⟨.CLS_PORT_CFG, 28, 28⟩
abbrev CLS_PORT_CFG_vrf : Fld := ⟨.CLS_PORT_CFG, 27, 16⟩
abbrev CLS_PORT_CFG_tunnel_profile : Fld := ⟨.CLS_PORT_CFG, 13, 8⟩
abbrev CLS_PORT_CFG_key_profile : Fld := ⟨.CLS_PORT_CFG, 5, 0⟩
abbrev CLS_CNT_packets : Fld := ⟨.CLS_CNT, 63, 0⟩
abbrev TCM_CFG_DIGEST_digest : Fld := ⟨.TCM_CFG_DIGEST, 63, 0⟩
abbrev TCM_SLICE_CFG_miss_rule : Fld := ⟨.TCM_SLICE_CFG, 51, 32⟩
abbrev TCM_SLICE_CFG_hw_holes : Fld := ⟨.TCM_SLICE_CFG, 16, 16⟩
abbrev TCM_SLICE_CFG_hole_spacing : Fld := ⟨.TCM_SLICE_CFG, 8, 0⟩
abbrev TCM_THERM_CTRL_enable : Fld := ⟨.TCM_THERM_CTRL, 16, 16⟩
abbrev TCM_THERM_CTRL_t2 : Fld := ⟨.TCM_THERM_CTRL, 15, 8⟩
abbrev TCM_THERM_CTRL_t1 : Fld := ⟨.TCM_THERM_CTRL, 7, 0⟩
abbrev TCM_THERM_STATUS_state : Fld := ⟨.TCM_THERM_STATUS, 9, 8⟩
abbrev TCM_THERM_STATUS_temp : Fld := ⟨.TCM_THERM_STATUS, 7, 0⟩
abbrev TCM_HOLE_STATUS_spacing_lost : Fld := ⟨.TCM_HOLE_STATUS, 31, 31⟩
abbrev TCM_HOLE_STATUS_free : Fld := ⟨.TCM_HOLE_STATUS, 14, 0⟩
abbrev TCM_CNT_count : Fld := ⟨.TCM_CNT, 63, 0⟩
abbrev FLW_HOLD_expired : Fld := ⟨.FLW_HOLD, 2, 2⟩
abbrev FLW_HOLD_ack : Fld := ⟨.FLW_HOLD, 1, 1⟩
abbrev FLW_HOLD_req : Fld := ⟨.FLW_HOLD, 0, 0⟩
abbrev FLW_CFG_DIGEST_digest : Fld := ⟨.FLW_CFG_DIGEST, 63, 0⟩
abbrev FLW_CTRL_age_host : Fld := ⟨.FLW_CTRL, 1, 1⟩
abbrev FLW_CTRL_ins_host : Fld := ⟨.FLW_CTRL, 0, 0⟩
abbrev FLW_MISS_HOLD_CTRL_warn : Fld := ⟨.FLW_MISS_HOLD_CTRL, 45, 32⟩
abbrev FLW_MISS_HOLD_CTRL_per_key : Fld := ⟨.FLW_MISS_HOLD_CTRL, 23, 16⟩
abbrev FLW_MISS_HOLD_CTRL_limit : Fld := ⟨.FLW_MISS_HOLD_CTRL, 13, 0⟩
abbrev FLW_MISS_HOLD_STATUS_peak : Fld := ⟨.FLW_MISS_HOLD_STATUS, 29, 16⟩
abbrev FLW_MISS_HOLD_STATUS_occupancy : Fld := ⟨.FLW_MISS_HOLD_STATUS, 13, 0⟩
abbrev FLW_INSERT_CTRL_burst : Fld := ⟨.FLW_INSERT_CTRL, 47, 32⟩
abbrev FLW_INSERT_CTRL_rate : Fld := ⟨.FLW_INSERT_CTRL, 9, 0⟩
abbrev FLW_HOSTINS_CTRL_hold_max : Fld := ⟨.FLW_HOSTINS_CTRL, 31, 24⟩
abbrev FLW_HOSTINS_CTRL_timeout_us : Fld := ⟨.FLW_HOSTINS_CTRL, 13, 0⟩
abbrev FLW_CMD_RING_base : Fld := ⟨.FLW_CMD_RING, 63, 8⟩
abbrev FLW_CMD_RING_log2_size : Fld := ⟨.FLW_CMD_RING, 4, 0⟩
abbrev FLW_CMD_PTR_head : Fld := ⟨.FLW_CMD_PTR, 51, 32⟩
abbrev FLW_CMD_PTR_tail : Fld := ⟨.FLW_CMD_PTR, 19, 0⟩
abbrev FLW_CLASS_CFG_punt_ring : Fld := ⟨.FLW_CLASS_CFG, 59, 48⟩
abbrev FLW_CLASS_CFG_max : Fld := ⟨.FLW_CLASS_CFG, 45, 32⟩
abbrev FLW_CLASS_CFG_reserve : Fld := ⟨.FLW_CLASS_CFG, 29, 16⟩
abbrev FLW_CLASS_CFG_shed : Fld := ⟨.FLW_CLASS_CFG, 1, 0⟩
abbrev FLW_CLASS_PUNT_burst : Fld := ⟨.FLW_CLASS_PUNT, 47, 32⟩
abbrev FLW_CLASS_PUNT_rate : Fld := ⟨.FLW_CLASS_PUNT, 31, 0⟩
abbrev FLW_TIMEOUT_seconds : Fld := ⟨.FLW_TIMEOUT, 15, 0⟩
abbrev FLW_BANK_KEY_key : Fld := ⟨.FLW_BANK_KEY, 63, 0⟩
abbrev FLW_HBM_EVAC_progress : Fld := ⟨.FLW_HBM_EVAC, 31, 24⟩
abbrev FLW_HBM_EVAC_state : Fld := ⟨.FLW_HBM_EVAC, 17, 16⟩
abbrev FLW_HBM_EVAC_start : Fld := ⟨.FLW_HBM_EVAC, 8, 8⟩
abbrev FLW_HBM_EVAC_channel : Fld := ⟨.FLW_HBM_EVAC, 4, 0⟩
abbrev FLW_HBM_CE_CTRL_auto_evac : Fld := ⟨.FLW_HBM_CE_CTRL, 40, 40⟩
abbrev FLW_HBM_CE_CTRL_ue_fail : Fld := ⟨.FLW_HBM_CE_CTRL, 39, 32⟩
abbrev FLW_HBM_CE_CTRL_window_s : Fld := ⟨.FLW_HBM_CE_CTRL, 31, 24⟩
abbrev FLW_HBM_CE_CTRL_ce_thresh : Fld := ⟨.FLW_HBM_CE_CTRL, 23, 0⟩
abbrev FLW_QUAR_CTRL_release : Fld := ⟨.FLW_QUAR_CTRL, 63, 63⟩
abbrev FLW_QUAR_CTRL_hold : Fld := ⟨.FLW_QUAR_CTRL, 32, 32⟩
abbrev FLW_QUAR_CTRL_record : Fld := ⟨.FLW_QUAR_CTRL, 27, 0⟩
abbrev FLW_QUAR_STATUS_retired : Fld := ⟨.FLW_QUAR_STATUS, 63, 32⟩
abbrev FLW_QUAR_STATUS_quarantined : Fld := ⟨.FLW_QUAR_STATUS, 31, 0⟩
abbrev FLW_HBM_CH_STATUS_state : Fld := ⟨.FLW_HBM_CH_STATUS, 42, 40⟩
abbrev FLW_HBM_CH_STATUS_ue_window : Fld := ⟨.FLW_HBM_CH_STATUS, 39, 32⟩
abbrev FLW_HBM_CH_STATUS_ce_window : Fld := ⟨.FLW_HBM_CH_STATUS, 23, 0⟩
abbrev FLW_SHED_CNT_packets : Fld := ⟨.FLW_SHED_CNT, 63, 0⟩
abbrev FLW_CNT_count : Fld := ⟨.FLW_CNT, 63, 0⟩
abbrev FLW_RECORDS_live : Fld := ⟨.FLW_RECORDS, 27, 0⟩
abbrev HRT_CFG_DIGEST_digest : Fld := ⟨.HRT_CFG_DIGEST, 63, 0⟩
abbrev HRT_CNT_WRAP_wrap : Fld := ⟨.HRT_CNT_WRAP, 63, 0⟩
abbrev HRT_SPARE_CTRL_spares_free : Fld := ⟨.HRT_SPARE_CTRL, 9, 8⟩
abbrev HRT_SPARE_CTRL_retire_go : Fld := ⟨.HRT_SPARE_CTRL, 7, 7⟩
abbrev HRT_SPARE_CTRL_retire : Fld := ⟨.HRT_SPARE_CTRL, 6, 0⟩
abbrev HRT_BANK_STATUS_ue_count : Fld := ⟨.HRT_BANK_STATUS, 31, 24⟩
abbrev HRT_BANK_STATUS_ce_count : Fld := ⟨.HRT_BANK_STATUS, 23, 16⟩
abbrev HRT_BANK_STATUS_spare : Fld := ⟨.HRT_BANK_STATUS, 9, 8⟩
abbrev HRT_BANK_STATUS_state : Fld := ⟨.HRT_BANK_STATUS, 1, 0⟩
abbrev ENG_HOLD_expired : Fld := ⟨.ENG_HOLD, 2, 2⟩
abbrev ENG_HOLD_ack : Fld := ⟨.ENG_HOLD, 1, 1⟩
abbrev ENG_HOLD_req : Fld := ⟨.ENG_HOLD, 0, 0⟩
abbrev ENG_CFG_DIGEST_digest : Fld := ⟨.ENG_CFG_DIGEST, 63, 0⟩
abbrev ENG_CTRL_max_cycles : Fld := ⟨.ENG_CTRL, 11, 0⟩
abbrev ENG_CLUSTER_STATUS_compat : Fld := ⟨.ENG_CLUSTER_STATUS, 63, 32⟩
abbrev ENG_CLUSTER_STATUS_spare_in : Fld := ⟨.ENG_CLUSTER_STATUS, 18, 18⟩
abbrev ENG_CLUSTER_STATUS_spare_id : Fld := ⟨.ENG_CLUSTER_STATUS, 17, 16⟩
abbrev ENG_CLUSTER_STATUS_engines_out : Fld := ⟨.ENG_CLUSTER_STATUS, 15, 8⟩
abbrev ENG_CLUSTER_STATUS_state : Fld := ⟨.ENG_CLUSTER_STATUS, 2, 0⟩
abbrev ENG_ENGINE_RETIRED_retired : Fld := ⟨.ENG_ENGINE_RETIRED, 47, 0⟩
abbrev ENG_MCHK_CAPTURE_valid : Fld := ⟨.ENG_MCHK_CAPTURE, 63, 63⟩
abbrev ENG_MCHK_CAPTURE_kind : Fld := ⟨.ENG_MCHK_CAPTURE, 62, 62⟩
abbrev ENG_MCHK_CAPTURE_count : Fld := ⟨.ENG_MCHK_CAPTURE, 47, 32⟩
abbrev ENG_MCHK_CAPTURE_cluster : Fld := ⟨.ENG_MCHK_CAPTURE, 21, 19⟩
abbrev ENG_MCHK_CAPTURE_engine : Fld := ⟨.ENG_MCHK_CAPTURE, 18, 16⟩
abbrev ENG_MCHK_CAPTURE_address : Fld := ⟨.ENG_MCHK_CAPTURE, 12, 0⟩
abbrev ENG_CNT_count : Fld := ⟨.ENG_CNT, 63, 0⟩
abbrev ENG_SPARE_STATUS_compat : Fld := ⟨.ENG_SPARE_STATUS, 63, 32⟩
abbrev ENG_SPARE_STATUS_pipeline : Fld := ⟨.ENG_SPARE_STATUS, 15, 11⟩
abbrev ENG_SPARE_STATUS_cluster : Fld := ⟨.ENG_SPARE_STATUS, 10, 8⟩
abbrev ENG_SPARE_STATUS_state : Fld := ⟨.ENG_SPARE_STATUS, 2, 0⟩
abbrev ENG_ROLL_LIST_list_addr : Fld := ⟨.ENG_ROLL_LIST, 63, 6⟩
abbrev ENG_ROLL_CTRL_go : Fld := ⟨.ENG_ROLL_CTRL, 31, 31⟩
abbrev ENG_ROLL_CTRL_abort : Fld := ⟨.ENG_ROLL_CTRL, 30, 30⟩
abbrev ENG_ROLL_CTRL_allow_reduced : Fld := ⟨.ENG_ROLL_CTRL, 16, 16⟩
abbrev ENG_ROLL_CTRL_extents : Fld := ⟨.ENG_ROLL_CTRL, 10, 0⟩
abbrev ENG_ROLL_STATUS_compat : Fld := ⟨.ENG_ROLL_STATUS, 63, 32⟩
abbrev ENG_ROLL_STATUS_sweepers_done : Fld := ⟨.ENG_ROLL_STATUS, 31, 24⟩
abbrev ENG_ROLL_STATUS_clusters_done : Fld := ⟨.ENG_ROLL_STATUS, 23, 16⟩
abbrev ENG_ROLL_STATUS_error : Fld := ⟨.ENG_ROLL_STATUS, 15, 8⟩
abbrev ENG_ROLL_STATUS_state : Fld := ⟨.ENG_ROLL_STATUS, 3, 0⟩
abbrev SWP_CFG_DIGEST_digest : Fld := ⟨.SWP_CFG_DIGEST, 63, 0⟩
abbrev SWP_CNT_WRAP_wrap : Fld := ⟨.SWP_CNT_WRAP, 0, 0⟩
abbrev SWP_CTRL_pause : Fld := ⟨.SWP_CTRL, 31, 0⟩
abbrev SWP_STATUS_state : Fld := ⟨.SWP_STATUS, 31, 28⟩
abbrev SWP_STATUS_pc : Fld := ⟨.SWP_STATUS, 11, 0⟩
abbrev SWP_MCHK_CAPTURE_valid : Fld := ⟨.SWP_MCHK_CAPTURE, 63, 63⟩
abbrev SWP_MCHK_CAPTURE_kind : Fld := ⟨.SWP_MCHK_CAPTURE, 62, 62⟩
abbrev SWP_MCHK_CAPTURE_count : Fld := ⟨.SWP_MCHK_CAPTURE, 47, 32⟩
abbrev SWP_MCHK_CAPTURE_sweeper : Fld := ⟨.SWP_MCHK_CAPTURE, 20, 16⟩
abbrev SWP_MCHK_CAPTURE_address : Fld := ⟨.SWP_MCHK_CAPTURE, 11, 0⟩
abbrev SWP_SCAN_scans : Fld := ⟨.SWP_SCAN, 63, 32⟩
abbrev SWP_SCAN_last_ms : Fld := ⟨.SWP_SCAN, 31, 0⟩
abbrev SWP_CNT_count : Fld := ⟨.SWP_CNT, 63, 0⟩
abbrev BPM_HOLD_expired : Fld := ⟨.BPM_HOLD, 2, 2⟩
abbrev BPM_HOLD_ack : Fld := ⟨.BPM_HOLD, 1, 1⟩
abbrev BPM_HOLD_req : Fld := ⟨.BPM_HOLD, 0, 0⟩
abbrev BPM_CFG_DIGEST_digest : Fld := ⟨.BPM_CFG_DIGEST, 63, 0⟩
abbrev BPM_POOL_CFG_warn_lo : Fld := ⟨.BPM_POOL_CFG, 59, 40⟩
abbrev BPM_POOL_CFG_warn_hi : Fld := ⟨.BPM_POOL_CFG, 39, 20⟩
abbrev BPM_POOL_CFG_segments : Fld := ⟨.BPM_POOL_CFG, 19, 0⟩
abbrev BPM_POOL_STATUS_peak : Fld := ⟨.BPM_POOL_STATUS, 51, 32⟩
abbrev BPM_POOL_STATUS_warn : Fld := ⟨.BPM_POOL_STATUS, 21, 21⟩
abbrev BPM_POOL_STATUS_free : Fld := ⟨.BPM_POOL_STATUS, 19, 0⟩
abbrev BPM_STATUS_die_warn : Fld := ⟨.BPM_STATUS, 3, 3⟩
abbrev BPM_STATUS_overcommit : Fld := ⟨.BPM_STATUS, 2, 0⟩
abbrev BPM_PIPE_CFG_untagged_prio : Fld := ⟨.BPM_PIPE_CFG, 2, 0⟩
abbrev BPM_FREE_CAPTURE_valid : Fld := ⟨.BPM_FREE_CAPTURE, 63, 63⟩
abbrev BPM_FREE_CAPTURE_kind : Fld := ⟨.BPM_FREE_CAPTURE, 62, 61⟩
abbrev BPM_FREE_CAPTURE_requester : Fld := ⟨.BPM_FREE_CAPTURE, 55, 48⟩
abbrev BPM_FREE_CAPTURE_count : Fld := ⟨.BPM_FREE_CAPTURE, 47, 32⟩
abbrev BPM_FREE_CAPTURE_handle : Fld := ⟨.BPM_FREE_CAPTURE, 23, 0⟩
abbrev BPM_PRIO_CFG_max : Fld := ⟨.BPM_PRIO_CFG, 59, 40⟩
abbrev BPM_PRIO_CFG_resume : Fld := ⟨.BPM_PRIO_CFG, 39, 20⟩
abbrev BPM_PRIO_CFG_warn : Fld := ⟨.BPM_PRIO_CFG, 19, 0⟩
abbrev BPM_PRIO_USE_peak : Fld := ⟨.BPM_PRIO_USE, 51, 32⟩
abbrev BPM_PRIO_USE_warn : Fld := ⟨.BPM_PRIO_USE, 20, 20⟩
abbrev BPM_PRIO_USE_charge : Fld := ⟨.BPM_PRIO_USE, 19, 0⟩
abbrev BPM_CNT_count : Fld := ⟨.BPM_CNT, 63, 0⟩
abbrev BPM_REQ_QUOTA_warn : Fld := ⟨.BPM_REQ_QUOTA, 59, 40⟩
abbrev BPM_REQ_QUOTA_max : Fld := ⟨.BPM_REQ_QUOTA, 39, 20⟩
abbrev BPM_REQ_QUOTA_min : Fld := ⟨.BPM_REQ_QUOTA, 19, 0⟩
abbrev BPM_REQ_USE_peak : Fld := ⟨.BPM_REQ_USE, 51, 32⟩
abbrev BPM_REQ_USE_use : Fld := ⟨.BPM_REQ_USE, 19, 0⟩
abbrev FIF_CFG_DIGEST_digest : Fld := ⟨.FIF_CFG_DIGEST, 63, 0⟩
abbrev FIF_CFG_ring : Fld := ⟨.FIF_CFG, 63, 52⟩
abbrev FIF_CFG_max_item : Fld := ⟨.FIF_CFG, 51, 42⟩
abbrev FIF_CFG_wake_level : Fld := ⟨.FIF_CFG, 41, 24⟩
abbrev FIF_CFG_consumer : Fld := ⟨.FIF_CFG, 23, 22⟩
abbrev FIF_CFG_mode : Fld := ⟨.FIF_CFG, 21, 21⟩
abbrev FIF_CFG_enable : Fld := ⟨.FIF_CFG, 20, 20⟩
abbrev FIF_CFG_depth : Fld := ⟨.FIF_CFG, 19, 12⟩
abbrev FIF_CFG_base : Fld := ⟨.FIF_CFG, 11, 0⟩
abbrev FIF_TIMER_idle : Fld := ⟨.FIF_TIMER, 13, 0⟩
abbrev FIF_STATUS_holder : Fld := ⟨.FIF_STATUS, 51, 50⟩
abbrev FIF_STATUS_mid_item : Fld := ⟨.FIF_STATUS, 49, 49⟩
abbrev FIF_STATUS_flush_busy : Fld := ⟨.FIF_STATUS, 48, 48⟩
abbrev FIF_STATUS_items : Fld := ⟨.FIF_STATUS, 47, 32⟩
abbrev FIF_STATUS_words : Fld := ⟨.FIF_STATUS, 17, 0⟩
abbrev FIF_CTRL_flush : Fld := ⟨.FIF_CTRL, 0, 0⟩
abbrev FIF_PROD_held : Fld := ⟨.FIF_PROD, 51, 34⟩
abbrev FIF_PROD_valid : Fld := ⟨.FIF_PROD, 33, 33⟩
abbrev FIF_PROD_credits : Fld := ⟨.FIF_PROD, 32, 15⟩
abbrev FIF_PROD_producer : Fld := ⟨.FIF_PROD, 14, 0⟩
abbrev FIF_CNT_count : Fld := ⟨.FIF_CNT, 63, 0⟩
abbrev SCH_HOLD_expired : Fld := ⟨.SCH_HOLD, 2, 2⟩
abbrev SCH_HOLD_ack : Fld := ⟨.SCH_HOLD, 1, 1⟩
abbrev SCH_HOLD_req : Fld := ⟨.SCH_HOLD, 0, 0⟩
abbrev SCH_CFG_DIGEST_digest : Fld := ⟨.SCH_CFG_DIGEST, 63, 0⟩
abbrev SCH_PORT_CFG_max_wait : Fld := ⟨.SCH_PORT_CFG, 63, 52⟩
abbrev SCH_PORT_CFG_qlog : Fld := ⟨.SCH_PORT_CFG, 51, 49⟩
abbrev SCH_PORT_CFG_qbase : Fld := ⟨.SCH_PORT_CFG, 48, 32⟩
abbrev SCH_PORT_CFG_prio_of_tc : Fld := ⟨.SCH_PORT_CFG, 31, 8⟩
abbrev SCH_PORT_CFG_linkdown_drop : Fld := ⟨.SCH_PORT_CFG, 7, 7⟩
abbrev SCH_PORT_CFG_overhead : Fld := ⟨.SCH_PORT_CFG, 6, 0⟩
abbrev SCH_GATE_CFG_count : Fld := ⟨.SCH_GATE_CFG, 58, 48⟩
abbrev SCH_GATE_CFG_base_s : Fld := ⟨.SCH_GATE_CFG, 47, 0⟩
abbrev SCH_GATE_TIME_cycle_ns : Fld := ⟨.SCH_GATE_TIME, 63, 32⟩
abbrev SCH_GATE_TIME_base_ns : Fld := ⟨.SCH_GATE_TIME, 29, 0⟩
abbrev SCH_GATE_CTRL_ext_ns : Fld := ⟨.SCH_GATE_CTRL, 31, 16⟩
abbrev SCH_GATE_CTRL_guard : Fld := ⟨.SCH_GATE_CTRL, 15, 8⟩
abbrev SCH_GATE_CTRL_abort : Fld := ⟨.SCH_GATE_CTRL, 2, 2⟩
abbrev SCH_GATE_CTRL_go : Fld := ⟨.SCH_GATE_CTRL, 1, 1⟩
abbrev SCH_GATE_CTRL_enable : Fld := ⟨.SCH_GATE_CTRL, 0, 0⟩
abbrev SCH_GATE_STATUS_operating : Fld := ⟨.SCH_GATE_STATUS, 20, 20⟩
abbrev SCH_GATE_STATUS_pending : Fld := ⟨.SCH_GATE_STATUS, 19, 19⟩
abbrev SCH_GATE_STATUS_oper_bank : Fld := ⟨.SCH_GATE_STATUS, 18, 18⟩
abbrev SCH_GATE_STATUS_entry : Fld := ⟨.SCH_GATE_STATUS, 17, 8⟩
abbrev SCH_GATE_STATUS_gates : Fld := ⟨.SCH_GATE_STATUS, 7, 0⟩
abbrev SCH_GATE_CHANGE_t_s : Fld := ⟨.SCH_GATE_CHANGE, 63, 32⟩
abbrev SCH_GATE_CHANGE_t_ns : Fld := ⟨.SCH_GATE_CHANGE, 29, 0⟩
abbrev SCH_GATE_MAXOPEN_ns : Fld := ⟨.SCH_GATE_MAXOPEN, 31, 0⟩
abbrev SCH_PORT_CNT_count : Fld := ⟨.SCH_PORT_CNT, 63, 0⟩
abbrev TEL_HOLD_expired : Fld := ⟨.TEL_HOLD, 2, 2⟩
abbrev TEL_HOLD_ack : Fld := ⟨.TEL_HOLD, 1, 1⟩
abbrev TEL_HOLD_req : Fld := ⟨.TEL_HOLD, 0, 0⟩
abbrev TEL_CFG_DIGEST_digest : Fld := ⟨.TEL_CFG_DIGEST, 63, 0⟩
abbrev TEL_CTRL_exp_host : Fld := ⟨.TEL_CTRL, 0, 0⟩
abbrev TEL_EXP_DOMAIN_leap_s : Fld := ⟨.TEL_EXP_DOMAIN, 39, 32⟩
abbrev TEL_EXP_DOMAIN_obs_domain : Fld := ⟨.TEL_EXP_DOMAIN, 31, 0⟩
abbrev TEL_IOAM_CFG_enable : Fld := ⟨.TEL_IOAM_CFG, 17, 17⟩
abbrev TEL_IOAM_CFG_ns_any : Fld := ⟨.TEL_IOAM_CFG, 16, 16⟩
abbrev TEL_IOAM_CFG_ns_id : Fld := ⟨.TEL_IOAM_CFG, 15, 0⟩
abbrev TEL_IOAM_NODE_node_id : Fld := ⟨.TEL_IOAM_NODE, 55, 0⟩
abbrev TEL_CLASS_CFG_every : Fld := ⟨.TEL_CLASS_CFG, 15, 8⟩
abbrev TEL_CLASS_CFG_end_en : Fld := ⟨.TEL_CLASS_CFG, 1, 1⟩
abbrev TEL_CLASS_CFG_export_en : Fld := ⟨.TEL_CLASS_CFG, 0, 0⟩
abbrev TEL_EXP_CFG_host_ring : Fld := ⟨.TEL_EXP_CFG, 59, 48⟩
abbrev TEL_EXP_CFG_template_s : Fld := ⟨.TEL_EXP_CFG, 47, 40⟩
abbrev TEL_EXP_CFG_start_state : Fld := ⟨.TEL_EXP_CFG, 39, 28⟩
abbrev TEL_EXP_CFG_pipe : Fld := ⟨.TEL_EXP_CFG, 27, 24⟩
abbrev TEL_EXP_CFG_hdr_len : Fld := ⟨.TEL_EXP_CFG, 23, 16⟩
abbrev TEL_EXP_CFG_max_msg : Fld := ⟨.TEL_EXP_CFG, 13, 0⟩
abbrev TEL_EXP_CFG2_enable : Fld := ⟨.TEL_EXP_CFG2, 17, 17⟩
abbrev TEL_EXP_CFG2_ipv6 : Fld := ⟨.TEL_EXP_CFG2, 16, 16⟩
abbrev TEL_EXP_CFG2_udp_off : Fld := ⟨.TEL_EXP_CFG2, 15, 8⟩
abbrev TEL_EXP_CFG2_ip_off : Fld := ⟨.TEL_EXP_CFG2, 7, 0⟩
abbrev TEL_EXP_HDR_bytes : Fld := ⟨.TEL_EXP_HDR, 63, 0⟩
abbrev TEL_HIST_SHIFT_shift : Fld := ⟨.TEL_HIST_SHIFT, 63, 0⟩
abbrev TEL_CNT_count : Fld := ⟨.TEL_CNT, 63, 0⟩
abbrev TEL_PORT_BW_CFG_wire : Fld := ⟨.TEL_PORT_BW_CFG, 20, 20⟩
abbrev TEL_PORT_BW_CFG_window_us : Fld := ⟨.TEL_PORT_BW_CFG, 19, 0⟩
abbrev TEL_PORT_BW_RXB_rx_bytes : Fld := ⟨.TEL_PORT_BW_RXB, 63, 0⟩
abbrev TEL_PORT_BW_TXB_tx_bytes : Fld := ⟨.TEL_PORT_BW_TXB, 63, 0⟩
abbrev TEL_PORT_BW_FRM_tx_frames : Fld := ⟨.TEL_PORT_BW_FRM, 63, 32⟩
abbrev TEL_PORT_BW_FRM_rx_frames : Fld := ⟨.TEL_PORT_BW_FRM, 31, 0⟩
abbrev TEL_PORT_BW_SEQ_window_seq : Fld := ⟨.TEL_PORT_BW_SEQ, 63, 48⟩
abbrev TEL_PORT_BW_SEQ_end_ts : Fld := ⟨.TEL_PORT_BW_SEQ, 47, 0⟩
abbrev TEL_PORT_BW_LEN_last_len_ns : Fld := ⟨.TEL_PORT_BW_LEN, 31, 0⟩
abbrev TEL_PORT_BW_RXP_rx_peak : Fld := ⟨.TEL_PORT_BW_RXP, 63, 0⟩
abbrev TEL_PORT_BW_TXP_tx_peak : Fld := ⟨.TEL_PORT_BW_TXP, 63, 0⟩
abbrev PRF_CFG_DIGEST_digest : Fld := ⟨.PRF_CFG_DIGEST, 63, 0⟩
abbrev PRF_CNT_WRAP_wrap : Fld := ⟨.PRF_CNT_WRAP, 0, 0⟩
abbrev PRF_CTRL_clear : Fld := ⟨.PRF_CTRL, 2, 2⟩
abbrev PRF_CTRL_snap : Fld := ⟨.PRF_CTRL, 1, 1⟩
abbrev PRF_CTRL_run : Fld := ⟨.PRF_CTRL, 0, 0⟩
abbrev PRF_PERM_EN_enable : Fld := ⟨.PRF_PERM_EN, 31, 0⟩
abbrev PRF_SAMPLE_CTRL_stop_full : Fld := ⟨.PRF_SAMPLE_CTRL, 5, 5⟩
abbrev PRF_SAMPLE_CTRL_opc_en : Fld := ⟨.PRF_SAMPLE_CTRL, 4, 4⟩
abbrev PRF_SAMPLE_CTRL_jitter : Fld := ⟨.PRF_SAMPLE_CTRL, 3, 3⟩
abbrev PRF_SAMPLE_CTRL_trigger : Fld := ⟨.PRF_SAMPLE_CTRL, 2, 2⟩
abbrev PRF_SAMPLE_CTRL_class : Fld := ⟨.PRF_SAMPLE_CTRL, 1, 1⟩
abbrev PRF_SAMPLE_CTRL_enable : Fld := ⟨.PRF_SAMPLE_CTRL, 0, 0⟩
abbrev PRF_SAMPLE_CFG_period : Fld := ⟨.PRF_SAMPLE_CFG, 63, 40⟩
abbrev PRF_SAMPLE_CFG_match_addr : Fld := ⟨.PRF_SAMPLE_CFG, 36, 24⟩
abbrev PRF_SAMPLE_CFG_opcode : Fld := ⟨.PRF_SAMPLE_CFG, 23, 16⟩
abbrev PRF_SAMPLE_CFG_pipe_mask : Fld := ⟨.PRF_SAMPLE_CFG, 15, 0⟩
abbrev PRF_SAMPLE_PTR_lost : Fld := ⟨.PRF_SAMPLE_PTR, 63, 32⟩
abbrev PRF_SAMPLE_PTR_rd : Fld := ⟨.PRF_SAMPLE_PTR, 31, 16⟩
abbrev PRF_SAMPLE_PTR_wr : Fld := ⟨.PRF_SAMPLE_PTR, 15, 0⟩
abbrev PRF_CNT_CFG_inst_mask : Fld := ⟨.PRF_CNT_CFG, 47, 32⟩
abbrev PRF_CNT_CFG_opc : Fld := ⟨.PRF_CNT_CFG, 31, 24⟩
abbrev PRF_CNT_CFG_opc_en : Fld := ⟨.PRF_CNT_CFG, 23, 23⟩
abbrev PRF_CNT_CFG_thresh : Fld := ⟨.PRF_CNT_CFG, 22, 16⟩
abbrev PRF_CNT_CFG_mode : Fld := ⟨.PRF_CNT_CFG, 12, 12⟩
abbrev PRF_CNT_CFG_event : Fld := ⟨.PRF_CNT_CFG, 11, 0⟩
abbrev PRF_CNT_count : Fld := ⟨.PRF_CNT, 63, 0⟩
abbrev PRF_SNAP_snapshot : Fld := ⟨.PRF_SNAP, 63, 0⟩
abbrev NAT_HOLD_expired : Fld := ⟨.NAT_HOLD, 2, 2⟩
abbrev NAT_HOLD_ack : Fld := ⟨.NAT_HOLD, 1, 1⟩
abbrev NAT_HOLD_req : Fld := ⟨.NAT_HOLD, 0, 0⟩
abbrev NAT_CFG_DIGEST_digest : Fld := ⟨.NAT_CFG_DIGEST, 63, 0⟩
abbrev NAT_CTRL_frag_host : Fld := ⟨.NAT_CTRL, 1, 1⟩
abbrev NAT_CTRL_alloc_host : Fld := ⟨.NAT_CTRL, 0, 0⟩
abbrev NAT_HASH_KEY_key : Fld := ⟨.NAT_HASH_KEY, 63, 0⟩
abbrev NAT_TMO_MAP_sel : Fld := ⟨.NAT_TMO_MAP, 35, 0⟩
abbrev NAT_STATUS_quarantine : Fld := ⟨.NAT_STATUS, 55, 32⟩
abbrev NAT_STATUS_subscribers : Fld := ⟨.NAT_STATUS, 17, 0⟩
abbrev NAT_CNT_count : Fld := ⟨.NAT_CNT, 63, 0⟩
abbrev NAT_POOL_CFG_port_hi : Fld := ⟨.NAT_POOL_CFG, 63, 48⟩
abbrev NAT_POOL_CFG_port_lo : Fld := ⟨.NAT_POOL_CFG, 47, 32⟩
abbrev NAT_POOL_CFG_count : Fld := ⟨.NAT_POOL_CFG, 20, 10⟩
abbrev NAT_POOL_CFG_first : Fld := ⟨.NAT_POOL_CFG, 9, 0⟩
abbrev NAT_POOL_CFG2_exhaust_act : Fld := ⟨.NAT_POOL_CFG2, 48, 48⟩
abbrev NAT_POOL_CFG2_hold_s : Fld := ⟨.NAT_POOL_CFG2, 47, 32⟩
abbrev NAT_POOL_CFG2_rev_zone : Fld := ⟨.NAT_POOL_CFG2, 15, 0⟩
abbrev LBL_HOLD_expired : Fld := ⟨.LBL_HOLD, 2, 2⟩
abbrev LBL_HOLD_ack : Fld := ⟨.LBL_HOLD, 1, 1⟩
abbrev LBL_HOLD_req : Fld := ⟨.LBL_HOLD, 0, 0⟩
abbrev LBL_CFG_DIGEST_digest : Fld := ⟨.LBL_CFG_DIGEST, 63, 0⟩
abbrev LBL_CTRL_health_host : Fld := ⟨.LBL_CTRL, 0, 0⟩
abbrev LBL_HASH_KEY_key : Fld := ⟨.LBL_HASH_KEY, 63, 0⟩
abbrev LBL_SVC_CMD_busy : Fld := ⟨.LBL_SVC_CMD, 32, 32⟩
abbrev LBL_SVC_CMD_go : Fld := ⟨.LBL_SVC_CMD, 31, 31⟩
abbrev LBL_SVC_CMD_service : Fld := ⟨.LBL_SVC_CMD, 13, 0⟩
abbrev LBL_CNT_count : Fld := ⟨.LBL_CNT, 63, 0⟩
end F

/-- The fields of a register, with the reset value of index 0 where copies differ (`Reg.resetOf`). -/
def Reg.fields : Reg → List FieldInfo
  | .GLB_RESET => [
      ⟨F.GLB_RESET_warm, .wt, 0x0, false, false, false, false, false⟩]
  | .GLB_CFG_DIGEST => [
      ⟨F.GLB_CFG_DIGEST_digest, .ro, 0x0, false, false, false, false, false⟩]
  | .GLB_LOCK_CAPTURE => [
      ⟨F.GLB_LOCK_CAPTURE_valid, .w1c, 0x0, false, false, false, false, false⟩,
      ⟨F.GLB_LOCK_CAPTURE_type, .ro, 0x0, false, false, false, false, false⟩,
      ⟨F.GLB_LOCK_CAPTURE_requester, .ro, 0x0, false, false, false, false, false⟩,
      ⟨F.GLB_LOCK_CAPTURE_count, .cnt, 0x0, false, false, false, true, false⟩,
      ⟨F.GLB_LOCK_CAPTURE_address, .ro, 0x0, false, false, false, false, false⟩]
  | .GLB_DIGEST_KEY => [
      ⟨F.GLB_DIGEST_KEY_key, .wo1, 0x0, false, false, true, false, false⟩]
  | .GLB_DEV_DIGEST => [
      ⟨F.GLB_DEV_DIGEST_digest, .ro, 0x0, false, false, false, false, false⟩]
  | .GLB_ECC_CNT => [
      ⟨F.GLB_ECC_CNT_count, .cnt, 0x0, false, false, false, false, false⟩]
  | .GLB_ECC_CAPTURE => [
      ⟨F.GLB_ECC_CAPTURE_valid, .w1c, 0x0, false, false, false, false, false⟩,
      ⟨F.GLB_ECC_CAPTURE_store, .ro, 0x0, false, false, false, false, false⟩,
      ⟨F.GLB_ECC_CAPTURE_die, .ro, 0x0, false, false, false, false, false⟩,
      ⟨F.GLB_ECC_CAPTURE_count, .cnt, 0x0, false, false, false, true, false⟩,
      ⟨F.GLB_ECC_CAPTURE_address, .ro, 0x0, false, false, false, false, false⟩]
  | .GLB_SCRUB_CTRL => [
      ⟨F.GLB_SCRUB_CTRL_hbm_en, .rw, 0x1, false, false, false, false, true⟩,
      ⟨F.GLB_SCRUB_CTRL_hbm_pass_s, .rw, 0x40, false, false, false, false, true⟩]
  | .GLB_CORE_STATUS => [
      ⟨F.GLB_CORE_STATUS_failed, .ro, 0x0, false, false, false, false, false⟩,
      ⟨F.GLB_CORE_STATUS_in_service, .ro, 0x0, false, false, false, false, false⟩]
  | .GLB_CORE_CTRL => [
      ⟨F.GLB_CORE_CTRL_go, .wt, 0x0, false, false, false, false, false⟩,
      ⟨F.GLB_CORE_CTRL_core, .rw, 0x0, false, false, false, false, false⟩]
  | .GLB_LIFE_HIST => [
      ⟨F.GLB_LIFE_HIST_seconds, .rc, 0x0, false, false, false, false, false⟩]
  | .CLK_REF_CFG => [
      ⟨F.CLK_REF_CFG_tol, .rw, 0x32, false, false, false, false, true⟩]
  | .CLK_REF_STATUS => [
      ⟨F.CLK_REF_STATUS_lost, .rc, 0x0, false, false, false, false, false⟩,
      ⟨F.CLK_REF_STATUS_ref10_valid, .rc, 0x0, false, false, false, false, false⟩,
      ⟨F.CLK_REF_STATUS_offset, .rc, 0x0, false, false, false, false, false⟩]
  | .PWR_STATUS => [
      ⟨F.PWR_STATUS_hbm_max, .rc, 0x0, false, false, false, false, false⟩,
      ⟨F.PWR_STATUS_temp_max, .rc, 0x0, false, false, false, false, false⟩,
      ⟨F.PWR_STATUS_temp_sensor, .rc, 0x0, false, false, false, false, false⟩,
      ⟨F.PWR_STATUS_therm_state, .rc, 0x0, false, false, false, false, false⟩,
      ⟨F.PWR_STATUS_trip, .rc, 0x0, false, false, false, false, false⟩,
      ⟨F.PWR_STATUS_avs_limit, .rc, 0x0, false, false, false, false, false⟩]
  | .PWR_RAIL_CFG => [
      ⟨F.PWR_RAIL_CFG_l_eff_nh, .rw, 0x32, false, false, false, false, false⟩,
      ⟨F.PWR_RAIL_CFG_resp_us, .rw, 0x2, false, false, false, false, false⟩,
      ⟨F.PWR_RAIL_CFG_floor_a, .rw, 0x0, false, false, false, false, false⟩,
      ⟨F.PWR_RAIL_CFG_slew, .rw, 0x28, false, false, false, false, false⟩]
  | .PWR_RAIL_STATUS => [
      ⟨F.PWR_RAIL_STATUS_static_a, .rc, 0x0, false, false, false, false, false⟩,
      ⟨F.PWR_RAIL_STATUS_ceiling_a, .rc, 0x0, false, false, false, false, false⟩,
      ⟨F.PWR_RAIL_STATUS_estimate_a, .rc, 0x0, false, false, false, false, false⟩,
      ⟨F.PWR_RAIL_STATUS_setpoint_mv, .rc, 0x2BC, false, false, false, false, false⟩]
  | .PWR_THERM_CFG => [
      ⟨F.PWR_THERM_CFG_crit_ceiling_a, .rw, 0x118, false, false, false, false, true⟩,
      ⟨F.PWR_THERM_CFG_trip, .rw, 0x73, false, false, false, false, true⟩,
      ⟨F.PWR_THERM_CFG_crit, .rw, 0x69, false, false, false, false, true⟩,
      ⟨F.PWR_THERM_CFG_warn, .rw, 0x64, false, false, false, false, true⟩]
  | .PWR_TRIP_CFG => [
      ⟨F.PWR_TRIP_CFG_coolant_en, .rw, 0x1, false, false, false, false, true⟩,
      ⟨F.PWR_TRIP_CFG_ramp_us, .rw, 0xFA, false, false, false, false, true⟩]
  | .PWR_TRIP_CAPTURE => [
      ⟨F.PWR_TRIP_CAPTURE_valid, .rws, 0x0, false, false, false, false, false⟩,
      ⟨F.PWR_TRIP_CAPTURE_cause, .rws, 0x0, false, false, false, false, false⟩,
      ⟨F.PWR_TRIP_CAPTURE_sensor, .rws, 0x0, false, false, false, false, false⟩,
      ⟨F.PWR_TRIP_CAPTURE_temp, .rws, 0x0, false, false, false, false, false⟩,
      ⟨F.PWR_TRIP_CAPTURE_seconds, .rws, 0x0, false, false, false, false, false⟩,
      ⟨F.PWR_TRIP_CAPTURE_time_s, .rws, 0x0, false, false, false, false, false⟩]
  | .PWR_TEMP => [
      ⟨F.PWR_TEMP_temp, .rc, 0x0, false, false, false, false, false⟩]
  | .PWR_HBM_TEMP => [
      ⟨F.PWR_HBM_TEMP_present, .rc, 0x0, false, false, false, false, false⟩,
      ⟨F.PWR_HBM_TEMP_temp, .rc, 0x0, false, false, false, false, false⟩]
  | .PWR_CNT => [
      ⟨F.PWR_CNT_count, .cnt, 0x0, false, false, false, false, false⟩]
  | .BOOT_STRAPS => [
      ⟨F.BOOT_STRAPS_boot_src, .ro, 0x0, false, false, false, false, false⟩,
      ⟨F.BOOT_STRAPS_board_pos, .ro, 0x0, false, false, false, false, false⟩]
  | .BOOT_STATUS => [
      ⟨F.BOOT_STATUS_fw_window_ms, .ro, 0x0, false, false, false, false, false⟩,
      ⟨F.BOOT_STATUS_recovery, .ro, 0x0, false, false, false, false, false⟩,
      ⟨F.BOOT_STATUS_hold_lanes, .ro, 0x0, false, false, false, false, false⟩,
      ⟨F.BOOT_STATUS_error, .ro, 0x0, false, false, false, false, false⟩,
      ⟨F.BOOT_STATUS_phase, .ro, 0x0, false, false, false, false, false⟩]
  | .BOOT_FW_LIST => [
      ⟨F.BOOT_FW_LIST_list_addr, .rw, 0x0, false, false, false, false, false⟩]
  | .BOOT_FW_CTRL => [
      ⟨F.BOOT_FW_CTRL_go, .wt, 0x0, false, false, false, false, false⟩,
      ⟨F.BOOT_FW_CTRL_kind, .rw, 0x0, false, false, false, false, false⟩,
      ⟨F.BOOT_FW_CTRL_extents, .rw, 0x0, false, false, false, false, false⟩]
  | .BOOT_IMAGE_SERIAL => [
      ⟨F.BOOT_IMAGE_SERIAL_image_serial, .ro, 0x0, false, false, false, false, false⟩]
  | .BOOT_PHASE_TIME => [
      ⟨F.BOOT_PHASE_TIME_entry_us, .ro, 0xFFFFFFFF, false, false, false, false, false⟩]
  | .BOOT_SWAP_LIST => [
      ⟨F.BOOT_SWAP_LIST_list_addr, .rw, 0x0, false, false, false, false, false⟩]
  | .BOOT_SWAP_CTRL => [
      ⟨F.BOOT_SWAP_CTRL_go, .wt, 0x0, false, false, false, false, false⟩,
      ⟨F.BOOT_SWAP_CTRL_revert, .wt, 0x0, false, false, false, false, false⟩,
      ⟨F.BOOT_SWAP_CTRL_extents, .rw, 0x0, false, false, false, false, false⟩]
  | .BOOT_SWAP_STATUS => [
      ⟨F.BOOT_SWAP_STATUS_standby_version, .ro, 0x0, false, false, false, false, false⟩,
      ⟨F.BOOT_SWAP_STATUS_error, .ro, 0x0, false, false, false, false, false⟩,
      ⟨F.BOOT_SWAP_STATUS_running_slot, .ro, 0x0, false, false, false, false, false⟩,
      ⟨F.BOOT_SWAP_STATUS_state, .ro, 0x0, false, false, false, false, false⟩]
  | .SEC_STATUS => [
      ⟨F.SEC_STATUS_fw_reject, .ro, 0x0, false, false, false, false, false⟩,
      ⟨F.SEC_STATUS_epoch, .ro, 0x0, false, false, false, false, false⟩,
      ⟨F.SEC_STATUS_deny_count, .ro, 0x0, false, false, false, false, false⟩,
      ⟨F.SEC_STATUS_scope, .ro, 0x0, false, false, false, false, false⟩,
      ⟨F.SEC_STATUS_chal_valid, .ro, 0x0, false, false, false, false, false⟩,
      ⟨F.SEC_STATUS_provisioning, .ro, 0x0, false, false, false, false, false⟩,
      ⟨F.SEC_STATUS_ladder_blocked, .ro, 0x0, false, false, false, false, false⟩,
      ⟨F.SEC_STATUS_ladder_ready, .ro, 0x0, false, false, false, false, false⟩,
      ⟨F.SEC_STATUS_debug_opened, .ro, 0x0, false, false, false, false, false⟩,
      ⟨F.SEC_STATUS_fuse_ok, .ro, 0x0, false, false, false, false, false⟩]
  | .SEC_ANCHOR_STATUS => [
      ⟨F.SEC_ANCHOR_STATUS_slot_used, .ro, 0x0, false, false, false, false, false⟩,
      ⟨F.SEC_ANCHOR_STATUS_dbg_revoked, .ro, 0x0, false, false, false, false, false⟩,
      ⟨F.SEC_ANCHOR_STATUS_dbg_programmed, .ro, 0x0, false, false, false, false, false⟩,
      ⟨F.SEC_ANCHOR_STATUS_cfg_revoked, .ro, 0x0, false, false, false, false, false⟩,
      ⟨F.SEC_ANCHOR_STATUS_cfg_programmed, .ro, 0x0, false, false, false, false, false⟩]
  | .SEC_CHAL => [
      ⟨F.SEC_CHAL_value, .ro, 0x0, false, false, false, false, false⟩]
  | .SEC_CMD => [
      ⟨F.SEC_CMD_go, .wt, 0x0, false, false, false, false, false⟩,
      ⟨F.SEC_CMD_op, .rw, 0x0, false, false, false, false, false⟩,
      ⟨F.SEC_CMD_length, .rw, 0x0, false, false, false, false, false⟩]
  | .SEC_CMD_STATUS => [
      ⟨F.SEC_CMD_STATUS_requester, .ro, 0x0, false, false, false, false, false⟩,
      ⟨F.SEC_CMD_STATUS_busy, .ro, 0x0, false, false, false, false, false⟩,
      ⟨F.SEC_CMD_STATUS_result, .ro, 0x0, false, false, false, false, false⟩]
  | .EVT_CTRL => [
      ⟨F.EVT_CTRL_intn_en, .rw, 0x1, false, false, false, false, true⟩,
      ⟨F.EVT_CTRL_intn_sev, .rw, 0x3, false, false, false, false, true⟩]
  | .EVT_INTN => [
      ⟨F.EVT_INTN_host_absent, .ro, 0x0, false, false, false, false, false⟩,
      ⟨F.EVT_INTN_boot, .ro, 0x0, false, false, false, false, false⟩,
      ⟨F.EVT_INTN_event, .ro, 0x0, false, false, false, false, false⟩]
  | .EVT_CFG_DIGEST => [
      ⟨F.EVT_CFG_DIGEST_digest, .ro, 0x0, false, false, false, false, false⟩]
  | .EVT_CNT_WRAP => [
      ⟨F.EVT_CNT_WRAP_wrap, .w1c, 0x0, false, false, false, false, false⟩]
  | .EVT_SRC_EN => [
      ⟨F.EVT_SRC_EN_enable, .rw, 0x0, false, false, false, false, true⟩]
  | .EVT_PEND => [
      ⟨F.EVT_PEND_pending, .w1c, 0x0, false, false, false, false, false⟩]
  | .EVT_RING_CFG => [
      ⟨F.EVT_RING_CFG_base, .rw, 0x0, true, false, false, false, false⟩,
      ⟨F.EVT_RING_CFG_enable, .rw, 0x0, false, false, false, false, false⟩,
      ⟨F.EVT_RING_CFG_log2_size, .rw, 0x6, true, false, false, false, false⟩]
  | .EVT_RING_CFG2 => [
      ⟨F.EVT_RING_CFG2_vector, .rw, 0x0, false, false, false, false, false⟩,
      ⟨F.EVT_RING_CFG2_itr_us, .rw, 0x0, false, false, false, false, false⟩]
  | .EVT_RING_PTR => [
      ⟨F.EVT_RING_PTR_head, .ro, 0x0, false, false, false, false, false⟩,
      ⟨F.EVT_RING_PTR_rd, .rw, 0x0, false, false, false, false, false⟩]
  | .EVT_RING_STATUS => [
      ⟨F.EVT_RING_STATUS_lost, .cnt, 0x0, false, false, false, false, false⟩,
      ⟨F.EVT_RING_STATUS_overflow, .w1c, 0x0, false, false, false, false, false⟩]
  | .EVT_SRC_CFG => [
      ⟨F.EVT_SRC_CFG_ring, .rw, 0x0, false, false, false, false, true⟩,
      ⟨F.EVT_SRC_CFG_severity, .rw, 0x0, false, false, false, false, true⟩]
  | .HST_CFG_DIGEST => [
      ⟨F.HST_CFG_DIGEST_digest, .ro, 0x0, false, false, false, false, false⟩]
  | .HST_HOST_ALIVE => [
      ⟨F.HST_HOST_ALIVE_beat, .wt, 0x0, false, false, false, false, false⟩]
  | .HST_HOSTLOSS_CTRL => [
      ⟨F.HST_HOSTLOSS_CTRL_timeout_ms, .rw, 0x3E8, false, false, false, false, false⟩,
      ⟨F.HST_HOSTLOSS_CTRL_absent, .ro, 0x0, false, false, false, false, false⟩,
      ⟨F.HST_HOSTLOSS_CTRL_stay, .rw, 0x0, false, false, false, false, false⟩]
  | .HST_MODE_CTRL => [
      ⟨F.HST_MODE_CTRL_go, .wt, 0x0, false, false, false, false, false⟩,
      ⟨F.HST_MODE_CTRL_mode, .rw, 0x0, false, false, false, false, false⟩,
      ⟨F.HST_MODE_CTRL_function, .rw, 0x0, false, false, false, false, false⟩]
  | .HST_MODE_STATUS => [
      ⟨F.HST_MODE_STATUS_error, .ro, 0x0, false, false, false, false, false⟩,
      ⟨F.HST_MODE_STATUS_current, .ro, 0x0, false, false, false, false, false⟩,
      ⟨F.HST_MODE_STATUS_busy, .ro, 0x0, false, false, false, false, false⟩,
      ⟨F.HST_MODE_STATUS_host_modes, .ro, 0x0, false, false, false, false, false⟩]
  | .HST_FRAG_CFG => [
      ⟨F.HST_FRAG_CFG_group, .rw, 0x0, false, false, false, false, false⟩]
  | .HST_CNT => [
      ⟨F.HST_CNT_count, .cnt, 0x0, false, false, false, false, false⟩]
  | .MSIX_ADDR => [
      ⟨F.MSIX_ADDR_addr, .rw, 0x0, false, false, false, false, false⟩]
  | .MSIX_DATA => [
      ⟨F.MSIX_DATA_mask, .rw, 0x1, false, false, false, false, false⟩,
      ⟨F.MSIX_DATA_data, .rw, 0x0, false, false, false, false, false⟩]
  | .MSIX_PBA => [
      ⟨F.MSIX_PBA_pending, .ro, 0x0, false, false, false, false, false⟩]
  | .HST_RXG_CFG => [
      ⟨F.HST_RXG_CFG_valid, .rw, 0x0, false, false, false, false, false⟩,
      ⟨F.HST_RXG_CFG_log2_count, .rw, 0x0, false, false, false, false, false⟩,
      ⟨F.HST_RXG_CFG_base_ring, .rw, 0x0, false, false, false, false, false⟩]
  | .HST_RXR_CFG => [
      ⟨F.HST_RXR_CFG_base, .rw, 0x0, true, false, false, false, false⟩,
      ⟨F.HST_RXR_CFG_meta, .rw, 0x0, false, false, false, false, false⟩,
      ⟨F.HST_RXR_CFG_enable, .rw, 0x0, false, false, false, false, false⟩,
      ⟨F.HST_RXR_CFG_log2_size, .rw, 0x6, true, false, false, false, false⟩]
  | .HST_RXR_CFG2 => [
      ⟨F.HST_RXR_CFG2_vector, .rw, 0x0, false, false, false, false, false⟩,
      ⟨F.HST_RXR_CFG2_itr_us, .rw, 0x0, false, false, false, false, false⟩,
      ⟨F.HST_RXR_CFG2_buf_size, .rw, 0x8, false, false, false, false, false⟩]
  | .HST_RXR_PTR => [
      ⟨F.HST_RXR_PTR_head, .ro, 0x0, false, false, false, false, false⟩,
      ⟨F.HST_RXR_PTR_tail, .rw, 0x0, false, false, false, false, false⟩]
  | .HST_RXR_CNT => [
      ⟨F.HST_RXR_CNT_count, .cnt, 0x0, false, false, false, false, false⟩]
  | .HST_TXR_CFG => [
      ⟨F.HST_TXR_CFG_base, .rw, 0x0, true, false, false, false, false⟩,
      ⟨F.HST_TXR_CFG_enable, .rw, 0x0, false, false, false, false, false⟩,
      ⟨F.HST_TXR_CFG_log2_size, .rw, 0x6, true, false, false, false, false⟩]
  | .HST_TXR_CFG2 => [
      ⟨F.HST_TXR_CFG2_vector, .rw, 0x0, false, false, false, false, false⟩,
      ⟨F.HST_TXR_CFG2_itr_us, .rw, 0x0, false, false, false, false, false⟩,
      ⟨F.HST_TXR_CFG2_requester, .rw, 0x0, false, false, false, false, false⟩]
  | .HST_TXR_PTR => [
      ⟨F.HST_TXR_PTR_head, .ro, 0x0, false, false, false, false, false⟩,
      ⟨F.HST_TXR_PTR_tail, .rw, 0x0, false, false, false, false, false⟩]
  | .HST_TXR_CNT => [
      ⟨F.HST_TXR_CNT_count, .cnt, 0x0, false, false, false, false, false⟩]
  | .TIM_CFG_DIGEST => [
      ⟨F.TIM_CFG_DIGEST_digest, .ro, 0x0, false, false, false, false, false⟩]
  | .TIM_CTRL => [
      ⟨F.TIM_CTRL_ptp_hdr_id, .rw, 0x0, false, false, false, false, true⟩,
      ⟨F.TIM_CTRL_servo_host, .rw, 0x0, false, true, false, false, true⟩]
  | .TIM_NOW_LO => [
      ⟨F.TIM_NOW_LO_time, .ro, 0x0, false, false, false, false, false⟩]
  | .TIM_NOW_HI => [
      ⟨F.TIM_NOW_HI_time, .ro, 0x0, false, false, false, false, false⟩]
  | .TIM_FREQ => [
      ⟨F.TIM_FREQ_adj, .rw, 0x0, false, false, false, false, false⟩]
  | .TIM_STEP => [
      ⟨F.TIM_STEP_amount, .rw, 0x0, false, false, false, false, false⟩]
  | .TIM_SET_LO => [
      ⟨F.TIM_SET_LO_time, .rw, 0x0, false, false, false, false, false⟩]
  | .TIM_SET_HI => [
      ⟨F.TIM_SET_HI_time, .rw, 0x0, false, false, false, false, false⟩]
  | .TIM_SLEW => [
      ⟨F.TIM_SLEW_rate_ppm, .rw, 0x64, false, false, false, false, false⟩,
      ⟨F.TIM_SLEW_amount, .rw, 0x0, false, false, false, false, false⟩]
  | .TIM_ADJ_CTRL => [
      ⟨F.TIM_ADJ_CTRL_slew_abort, .wt, 0x0, false, false, false, false, false⟩,
      ⟨F.TIM_ADJ_CTRL_slew_go, .wt, 0x0, false, false, false, false, false⟩,
      ⟨F.TIM_ADJ_CTRL_set_go, .wt, 0x0, false, false, false, false, false⟩,
      ⟨F.TIM_ADJ_CTRL_step_go, .wt, 0x0, false, false, false, false, false⟩]
  | .TIM_ADJ_STATUS => [
      ⟨F.TIM_ADJ_STATUS_step_pending, .ro, 0x0, false, false, false, false, false⟩,
      ⟨F.TIM_ADJ_STATUS_slew_busy, .ro, 0x0, false, false, false, false, false⟩,
      ⟨F.TIM_ADJ_STATUS_remaining, .ro, 0x0, false, false, false, false, false⟩]
  | .TIM_PPS_CFG => [
      ⟨F.TIM_PPS_CFG_out_offset, .rw, 0x0, false, false, false, false, false⟩,
      ⟨F.TIM_PPS_CFG_in_delay, .rw, 0x0, false, false, false, false, false⟩,
      ⟨F.TIM_PPS_CFG_out_width, .rw, 0x64, false, false, false, false, false⟩,
      ⟨F.TIM_PPS_CFG_in_en, .rw, 0x0, false, false, false, false, false⟩,
      ⟨F.TIM_PPS_CFG_out_en, .rw, 0x0, false, false, false, false, false⟩]
  | .TIM_PPS_IN_LO => [
      ⟨F.TIM_PPS_IN_LO_time, .ro, 0x0, false, false, false, false, false⟩]
  | .TIM_PPS_IN_HI => [
      ⟨F.TIM_PPS_IN_HI_valid, .w1c, 0x0, false, false, false, false, false⟩,
      ⟨F.TIM_PPS_IN_HI_seconds_hi, .ro, 0x0, false, false, false, false, false⟩]
  | .TIM_CLK10_STATUS => [
      ⟨F.TIM_CLK10_STATUS_present, .ro, 0x0, false, false, false, false, false⟩,
      ⟨F.TIM_CLK10_STATUS_offset, .ro, 0x0, false, false, false, false, false⟩]
  | .TIM_RCLK_CFG => [
      ⟨F.TIM_RCLK_CFG_enable, .rw, 0x0, false, false, false, false, false⟩,
      ⟨F.TIM_RCLK_CFG_div, .rw, 0x0, false, false, false, false, false⟩,
      ⟨F.TIM_RCLK_CFG_squelched, .ro, 0x1, false, false, false, false, false⟩,
      ⟨F.TIM_RCLK_CFG_lane, .rw, 0x0, false, false, false, false, false⟩]
  | .TIM_TXQ_DATA0 => [
      ⟨F.TIM_TXQ_DATA0_time, .ro, 0x0, false, false, false, false, false⟩]
  | .TIM_TXQ_DATA1 => [
      ⟨F.TIM_TXQ_DATA1_valid, .ro, 0x0, false, false, false, false, false⟩,
      ⟨F.TIM_TXQ_DATA1_port, .ro, 0x0, false, false, false, false, false⟩,
      ⟨F.TIM_TXQ_DATA1_id, .ro, 0x0, false, false, false, false, false⟩,
      ⟨F.TIM_TXQ_DATA1_seconds_hi, .ro, 0x0, false, false, false, false, false⟩]
  | .TIM_TXQ_CTRL => [
      ⟨F.TIM_TXQ_CTRL_pop, .wt, 0x0, false, false, false, false, false⟩]
  | .TIM_TXQ_STATUS => [
      ⟨F.TIM_TXQ_STATUS_overflow, .w1c, 0x0, false, false, false, false, false⟩,
      ⟨F.TIM_TXQ_STATUS_depth, .ro, 0x0, false, false, false, false, false⟩]
  | .TIM_PEAL_CFG => [
      ⟨F.TIM_PEAL_CFG_asym, .rw, 0x0, false, false, false, false, false⟩,
      ⟨F.TIM_PEAL_CFG_follow, .rw, 0x0, false, false, false, false, false⟩,
      ⟨F.TIM_PEAL_CFG_source_pos, .rw, 0x0, false, false, false, false, false⟩]
  | .TIM_LEDGER_HOST => [
      ⟨F.TIM_LEDGER_HOST_offset, .rw, 0x0, false, false, false, false, false⟩,
      ⟨F.TIM_LEDGER_HOST_source_idx, .rw, 0x0, false, false, false, false, false⟩,
      ⟨F.TIM_LEDGER_HOST_source, .rw, 0x0, false, false, false, false, false⟩,
      ⟨F.TIM_LEDGER_HOST_state, .rw, 0x0, false, false, false, false, false⟩]
  | .TIM_LEDGER_STATUS => [
      ⟨F.TIM_LEDGER_STATUS_records, .ro, 0x0, false, false, false, false, false⟩,
      ⟨F.TIM_LEDGER_STATUS_blocks, .ro, 0x0, false, false, false, false, false⟩]
  | .TIM_CNT => [
      ⟨F.TIM_CNT_count, .cnt, 0x0, false, false, false, false, false⟩]
  | .TIM_PORT_CFG => [
      ⟨F.TIM_PORT_CFG_link_delay, .rw, 0x0, false, false, false, false, false⟩,
      ⟨F.TIM_PORT_CFG_asym, .rw, 0x0, false, false, false, false, false⟩,
      ⟨F.TIM_PORT_CFG_ptp_mode, .rw, 0x0, false, false, false, false, false⟩]
  | .TIM_LANE_CAL => [
      ⟨F.TIM_LANE_CAL_board_tx, .rw, 0x0, false, false, false, false, false⟩,
      ⟨F.TIM_LANE_CAL_board_rx, .rw, 0x0, false, false, false, false, false⟩]
  | .TIM_LANE_CAL_STATUS => [
      ⟨F.TIM_LANE_CAL_STATUS_loop_err, .ro, 0x0, false, false, false, false, false⟩,
      ⟨F.TIM_LANE_CAL_STATUS_temp, .ro, 0x0, false, false, false, false, false⟩,
      ⟨F.TIM_LANE_CAL_STATUS_timing_valid, .ro, 0x1, false, false, false, false, false⟩,
      ⟨F.TIM_LANE_CAL_STATUS_checked, .ro, 0x0, false, false, false, false, false⟩]
  | .TWN_HOLD => [
      ⟨F.TWN_HOLD_expired, .w1c, 0x0, false, false, false, false, false⟩,
      ⟨F.TWN_HOLD_ack, .ro, 0x0, false, false, false, false, false⟩,
      ⟨F.TWN_HOLD_req, .rw, 0x0, false, false, false, false, false⟩]
  | .TWN_CFG_DIGEST => [
      ⟨F.TWN_CFG_DIGEST_digest, .ro, 0x0, false, false, false, false, false⟩]
  | .TWN_CTRL => [
      ⟨F.TWN_CTRL_lag_bound_us, .rw, 0x14, false, false, false, false, true⟩,
      ⟨F.TWN_CTRL_resync_host, .rw, 0x0, false, true, false, false, true⟩,
      ⟨F.TWN_CTRL_hold_ports, .rw, 0x1, false, false, false, false, true⟩,
      ⟨F.TWN_CTRL_sync_down, .rw, 0x0, false, false, false, false, true⟩]
  | .TWN_SYNC_CTRL => [
      ⟨F.TWN_SYNC_CTRL_timeout_us, .rw, 0x64, false, false, false, false, true⟩,
      ⟨F.TWN_SYNC_CTRL_hold_max, .rw, 0x4000, false, false, false, false, true⟩]
  | .TWN_STATUS => [
      ⟨F.TWN_STATUS_compat_ok, .ro, 0x0, false, false, false, false, false⟩,
      ⟨F.TWN_STATUS_backlog_lost, .w1c, 0x0, false, false, false, false, false⟩,
      ⟨F.TWN_STATUS_empty_start, .ro, 0x0, false, false, false, false, false⟩,
      ⟨F.TWN_STATUS_peer_state, .ro, 0x0, false, false, false, false, false⟩,
      ⟨F.TWN_STATUS_ember, .ro, 0x3, false, false, false, false, false⟩,
      ⟨F.TWN_STATUS_peer_failed, .ro, 0x0, false, false, false, false, false⟩,
      ⟨F.TWN_STATUS_alone, .ro, 0x0, false, false, false, false, false⟩,
      ⟨F.TWN_STATUS_state, .ro, 0x0, false, false, false, false, false⟩,
      ⟨F.TWN_STATUS_role, .ro, 0x0, false, false, false, false, false⟩]
  | .TWN_KINDLE_CTRL => [
      ⟨F.TWN_KINDLE_CTRL_done, .wt, 0x0, false, false, false, false, false⟩,
      ⟨F.TWN_KINDLE_CTRL_merge, .wt, 0x0, false, false, false, false, false⟩]
  | .TWN_KINDLE_STATUS => [
      ⟨F.TWN_KINDLE_STATUS_records, .ro, 0x0, false, false, false, false, false⟩,
      ⟨F.TWN_KINDLE_STATUS_progress, .ro, 0x0, false, false, false, false, false⟩,
      ⟨F.TWN_KINDLE_STATUS_kstate, .ro, 0x0, false, false, false, false, false⟩]
  | .TWN_DIGEST_CTRL => [
      ⟨F.TWN_DIGEST_CTRL_grace_ms, .rw, 0x64, false, false, false, false, true⟩]
  | .TWN_DIVERGE_CAPTURE => [
      ⟨F.TWN_DIVERGE_CAPTURE_valid, .w1c, 0x0, false, false, false, false, false⟩,
      ⟨F.TWN_DIVERGE_CAPTURE_kind, .ro, 0x0, false, false, false, false, false⟩,
      ⟨F.TWN_DIVERGE_CAPTURE_peer, .ro, 0x0, false, false, false, false, false⟩,
      ⟨F.TWN_DIVERGE_CAPTURE_component, .ro, 0x0, false, false, false, false, false⟩,
      ⟨F.TWN_DIVERGE_CAPTURE_instance, .ro, 0x0, false, false, false, false, false⟩]
  | .TWN_STREAM_STATUS => [
      ⟨F.TWN_STREAM_STATUS_sent_seq, .ro, 0x0, false, false, false, false, false⟩,
      ⟨F.TWN_STREAM_STATUS_acked_seq, .ro, 0x0, false, false, false, false, false⟩]
  | .TWN_STREAM_LAG => [
      ⟨F.TWN_STREAM_LAG_backlog, .ro, 0x0, false, false, false, false, false⟩,
      ⟨F.TWN_STREAM_LAG_lag_ns, .ro, 0x0, false, false, false, false, false⟩]
  | .TWN_HOLD_OCC => [
      ⟨F.TWN_HOLD_OCC_peak, .rw, 0x0, false, false, false, false, false⟩,
      ⟨F.TWN_HOLD_OCC_occupancy, .ro, 0x0, false, false, false, false, false⟩]
  | .TWN_CNT => [
      ⟨F.TWN_CNT_count, .cnt, 0x0, false, false, false, false, false⟩]
  | .PEL_CFG_DIGEST => [
      ⟨F.PEL_CFG_DIGEST_digest, .ro, 0x0, false, false, false, false, false⟩]
  | .PEL_GROUP_CFG => [
      ⟨F.PEL_GROUP_CFG_spare_mask, .rw, 0x0, true, false, false, false, false⟩,
      ⟨F.PEL_GROUP_CFG_lane_mask, .rw, 0x0, true, false, false, false, false⟩,
      ⟨F.PEL_GROUP_CFG_cable, .rw, 0x0, true, false, false, false, false⟩,
      ⟨F.PEL_GROUP_CFG_peer_pos, .rw, 0x0, true, false, false, false, false⟩,
      ⟨F.PEL_GROUP_CFG_boot, .ro, 0x0, false, false, false, false, false⟩,
      ⟨F.PEL_GROUP_CFG_peal_en, .rw, 0x0, true, false, false, false, false⟩]
  | .PEL_LINK_STATUS => [
      ⟨F.PEL_LINK_STATUS_lanes_up, .ro, 0x0, false, false, false, false, false⟩,
      ⟨F.PEL_LINK_STATUS_spares_idle, .ro, 0x0, false, false, false, false, false⟩,
      ⟨F.PEL_LINK_STATUS_failed, .ro, 0x0, false, false, false, false, false⟩,
      ⟨F.PEL_LINK_STATUS_state, .ro, 0x0, false, false, false, false, false⟩]
  | .PEL_CELL_CNT => [
      ⟨F.PEL_CELL_CNT_cells, .cnt, 0x0, false, false, false, false, false⟩]
  | .PEL_PEER_STATUS => [
      ⟨F.PEL_PEER_STATUS_toll_seq, .ro, 0x0, false, false, false, false, false⟩,
      ⟨F.PEL_PEER_STATUS_admitted, .ro, 0x0, false, false, false, false, false⟩,
      ⟨F.PEL_PEER_STATUS_serial_mismatch, .ro, 0x0, false, false, false, false, false⟩,
      ⟨F.PEL_PEER_STATUS_compat_mismatch, .ro, 0x0, false, false, false, false, false⟩,
      ⟨F.PEL_PEER_STATUS_twin_state, .ro, 0x0, false, false, false, false, false⟩,
      ⟨F.PEL_PEER_STATUS_missed, .ro, 0x0, false, false, false, false, false⟩,
      ⟨F.PEL_PEER_STATUS_lost, .ro, 0x0, false, false, false, false, false⟩]
  | .PEL_DIST_RING => [
      ⟨F.PEL_DIST_RING_base, .rw, 0x0, true, false, false, false, false⟩,
      ⟨F.PEL_DIST_RING_log2_size, .rw, 0x0, true, false, false, false, false⟩]
  | .PEL_DIST_PTR => [
      ⟨F.PEL_DIST_PTR_head, .ro, 0x0, false, false, false, false, false⟩,
      ⟨F.PEL_DIST_PTR_tail, .rw, 0x0, false, false, false, false, false⟩]
  | .PEL_DIST_CFG => [
      ⟨F.PEL_DIST_CFG_accept, .rw, 0x0, false, false, false, false, false⟩]
  | .PEL_GROUP_DIGEST => [
      ⟨F.PEL_GROUP_DIGEST_digest, .ro, 0x0, false, false, false, false, false⟩]
  | .LANE_CTRL => [
      ⟨F.LANE_CTRL_adapt_freeze, .rw, 0x0, false, false, false, false, false⟩,
      ⟨F.LANE_CTRL_recal, .wt, 0x0, false, false, false, false, false⟩,
      ⟨F.LANE_CTRL_rx_invert, .rw, 0x0, false, false, false, false, false⟩,
      ⟨F.LANE_CTRL_tx_invert, .rw, 0x0, false, false, false, false, false⟩,
      ⟨F.LANE_CTRL_loopback, .rw, 0x0, false, false, false, false, false⟩,
      ⟨F.LANE_CTRL_tx_enable, .rw, 0x1, false, false, false, false, false⟩]
  | .LANE_STATUS => [
      ⟨F.LANE_STATUS_recal_count, .cnt, 0x0, false, false, false, false, false⟩,
      ⟨F.LANE_STATUS_eye_margin, .ro, 0x0, false, false, false, false, false⟩,
      ⟨F.LANE_STATUS_fec_lock, .ro, 0x0, false, false, false, false, false⟩,
      ⟨F.LANE_STATUS_rx_signal, .ro, 0x0, false, false, false, false, false⟩,
      ⟨F.LANE_STATUS_pll_lock, .ro, 0x0, false, false, false, false, false⟩,
      ⟨F.LANE_STATUS_state, .ro, 0x0, false, false, false, false, false⟩]
  | .LANE_DEGRADE_CTRL => [
      ⟨F.LANE_DEGRADE_CTRL_fail_windows, .rw, 0xA, false, false, false, false, false⟩,
      ⟨F.LANE_DEGRADE_CTRL_symbols, .rw, 0xC350, false, false, false, false, false⟩]
  | .LANE_FEC_CNT => [
      ⟨F.LANE_FEC_CNT_count, .cnt, 0x0, false, false, false, false, false⟩]
  | .LANE_CFG_DIGEST => [
      ⟨F.LANE_CFG_DIGEST_digest, .ro, 0x0, false, false, false, false, false⟩]
  | .LANE_CNT_WRAP => [
      ⟨F.LANE_CNT_WRAP_wrap, .w1c, 0x0, false, false, false, false, false⟩]
  | .MAC_PORT_CFG => [
      ⟨F.MAC_PORT_CFG_max_frame, .rw, 0x2400, false, false, false, false, true⟩,
      ⟨F.MAC_PORT_CFG_fc_mode, .rw, 0x0, false, false, false, false, true⟩,
      ⟨F.MAC_PORT_CFG_pfc_gen_mask, .rw, 0x0, false, false, false, false, true⟩,
      ⟨F.MAC_PORT_CFG_lanes, .rw, 0x0, true, false, false, false, true⟩,
      ⟨F.MAC_PORT_CFG_an_en, .rw, 0x1, true, false, false, false, true⟩,
      ⟨F.MAC_PORT_CFG_enable, .rw, 0x0, false, false, false, false, true⟩]
  | .MAC_PORT_STATUS => [
      ⟨F.MAC_PORT_STATUS_pfc_tx, .ro, 0x0, false, false, false, false, false⟩,
      ⟨F.MAC_PORT_STATUS_pfc_rx, .ro, 0x0, false, false, false, false, false⟩,
      ⟨F.MAC_PORT_STATUS_drained, .ro, 0x1, false, false, false, false, false⟩,
      ⟨F.MAC_PORT_STATUS_remote_fault, .ro, 0x0, false, false, false, false, false⟩,
      ⟨F.MAC_PORT_STATUS_local_fault, .ro, 0x0, false, false, false, false, false⟩,
      ⟨F.MAC_PORT_STATUS_link_up, .ro, 0x0, false, false, false, false, false⟩]
  | .MAC_PFC_CTRL => [
      ⟨F.MAC_PFC_CTRL_rx_prio_enable, .rw, 0xFF, false, false, false, false, true⟩,
      ⟨F.MAC_PFC_CTRL_quanta, .rw, 0xFFFF, false, false, false, false, true⟩]
  | .MAC_RX_ERR => [
      ⟨F.MAC_RX_ERR_frames, .cnt, 0x0, false, false, false, false, false⟩]
  | .MAC_CFG_DIGEST => [
      ⟨F.MAC_CFG_DIGEST_digest, .ro, 0x0, false, false, false, false, false⟩]
  | .MAC_CTL_CNT => [
      ⟨F.MAC_CTL_CNT_frames, .cnt, 0x0, false, false, false, false, false⟩]
  | .PRS_INTAKE_CTRL => [
      ⟨F.PRS_INTAKE_CTRL_recirc_share, .rw, 0x2, false, false, false, false, false⟩]
  | .PRS_INTAKE_OCC => [
      ⟨F.PRS_INTAKE_OCC_peak, .rw, 0x0, false, false, false, false, false⟩,
      ⟨F.PRS_INTAKE_OCC_occupancy, .ro, 0x0, false, false, false, false, false⟩]
  | .PRS_INTAKE_DROP => [
      ⟨F.PRS_INTAKE_DROP_frames, .cnt, 0x0, false, false, false, false, false⟩]
  | .PRS_REORDER_OCC => [
      ⟨F.PRS_REORDER_OCC_peak, .rw, 0x0, false, false, false, false, false⟩,
      ⟨F.PRS_REORDER_OCC_occupancy, .ro, 0x0, false, false, false, false, false⟩]
  | .PRS_HOLD => [
      ⟨F.PRS_HOLD_expired, .w1c, 0x0, false, false, false, false, false⟩,
      ⟨F.PRS_HOLD_ack, .ro, 0x0, false, false, false, false, false⟩,
      ⟨F.PRS_HOLD_req, .rw, 0x0, false, false, false, false, false⟩]
  | .PRS_CFG_DIGEST => [
      ⟨F.PRS_CFG_DIGEST_digest, .ro, 0x0, false, false, false, false, false⟩]
  | .PRS_PORT_POLICY => [
      ⟨F.PRS_PORT_POLICY_zone, .rw, 0x0, false, false, false, false, true⟩,
      ⟨F.PRS_PORT_POLICY_start_state, .rw, 0x0, false, false, false, false, true⟩,
      ⟨F.PRS_PORT_POLICY_flow_layer, .rw, 0x0, false, false, false, false, true⟩,
      ⟨F.PRS_PORT_POLICY_conflict_act, .rw, 0x0, false, false, false, false, true⟩,
      ⟨F.PRS_PORT_POLICY_depth_act, .rw, 0x0, false, false, false, false, true⟩]
  | .PRS_ENGINE_CTRL => [
      ⟨F.PRS_ENGINE_CTRL_retired, .w1c, 0x0, false, false, false, false, false⟩,
      ⟨F.PRS_ENGINE_CTRL_retire, .w1s, 0x0, false, false, false, false, false⟩]
  | .PRS_FLAG_CNT => [
      ⟨F.PRS_FLAG_CNT_packets, .cnt, 0x0, false, false, false, false, false⟩]
  | .CLSD_CFG_DIGEST => [
      ⟨F.CLSD_CFG_DIGEST_digest, .ro, 0x0, false, false, false, false, false⟩]
  | .CLS_GEN_CTRL => [
      ⟨F.CLS_GEN_CTRL_abort, .wt, 0x0, false, false, false, false, false⟩,
      ⟨F.CLS_GEN_CTRL_commit, .wt, 0x0, false, false, false, false, false⟩]
  | .CLS_GEN_STATUS => [
      ⟨F.CLS_GEN_STATUS_commit_pending, .ro, 0x0, false, false, false, false, false⟩,
      ⟨F.CLS_GEN_STATUS_preparing, .ro, 0x0, false, false, false, false, false⟩,
      ⟨F.CLS_GEN_STATUS_stage_open, .ro, 0x1, false, false, false, false, false⟩,
      ⟨F.CLS_GEN_STATUS_staged_slot, .ro, 0x0, false, false, false, false, false⟩,
      ⟨F.CLS_GEN_STATUS_live_count, .ro, 0x0, false, false, false, false, false⟩,
      ⟨F.CLS_GEN_STATUS_oldest_gen, .ro, 0x0, false, false, false, false, false⟩,
      ⟨F.CLS_GEN_STATUS_live_gen, .ro, 0x0, false, false, false, false, false⟩]
  | .CLS_GEN_INFLIGHT => [
      ⟨F.CLS_GEN_INFLIGHT_packets, .ro, 0x0, false, false, false, false, false⟩]
  | .CLS_TBL_CMD => [
      ⟨F.CLS_TBL_CMD_index, .rw, 0x0, false, false, false, false, false⟩,
      ⟨F.CLS_TBL_CMD_op, .wt, 0x0, false, false, false, false, false⟩,
      ⟨F.CLS_TBL_CMD_table, .rw, 0x0, false, false, false, false, false⟩]
  | .CLS_TBL_SLICES => [
      ⟨F.CLS_TBL_SLICES_slices, .rw, 0xFFFFFFFF, false, false, false, false, false⟩]
  | .CLS_TBL_STATUS => [
      ⟨F.CLS_TBL_STATUS_result, .ro, 0x0, false, false, false, false, false⟩,
      ⟨F.CLS_TBL_STATUS_busy, .ro, 0x0, false, false, false, false, false⟩,
      ⟨F.CLS_TBL_STATUS_code, .ro, 0x0, false, false, false, false, false⟩]
  | .CLS_EXM_CFG => [
      ⟨F.CLS_EXM_CFG_width, .rw, 0x0, true, false, false, false, true⟩]
  | .CLS_TBL_DATA => [
      ⟨F.CLS_TBL_DATA_data, .rw, 0x0, false, false, false, false, false⟩]
  | .CLS_HOLD => [
      ⟨F.CLS_HOLD_expired, .w1c, 0x0, false, false, false, false, false⟩,
      ⟨F.CLS_HOLD_ack, .ro, 0x0, false, false, false, false, false⟩,
      ⟨F.CLS_HOLD_req, .rw, 0x0, false, false, false, false, false⟩]
  | .CLS_CFG_DIGEST => [
      ⟨F.CLS_CFG_DIGEST_digest, .ro, 0x0, false, false, false, false, false⟩]
  | .CLS_PORT_CFG => [
      ⟨F.CLS_PORT_CFG_tcam_en, .rw, 0x1, false, false, false, false, true⟩,
      ⟨F.CLS_PORT_CFG_vrf, .rw, 0x0, false, false, false, false, true⟩,
      ⟨F.CLS_PORT_CFG_tunnel_profile, .rw, 0x0, false, false, false, false, true⟩,
      ⟨F.CLS_PORT_CFG_key_profile, .rw, 0x0, false, false, false, false, true⟩]
  | .CLS_CNT => [
      ⟨F.CLS_CNT_packets, .cnt, 0x0, false, false, false, false, false⟩]
  | .TCM_CFG_DIGEST => [
      ⟨F.TCM_CFG_DIGEST_digest, .ro, 0x0, false, false, false, false, false⟩]
  | .TCM_SLICE_CFG => [
      ⟨F.TCM_SLICE_CFG_miss_rule, .rw, 0x0, false, false, false, false, true⟩,
      ⟨F.TCM_SLICE_CFG_hw_holes, .rw, 0x1, false, true, false, false, true⟩,
      ⟨F.TCM_SLICE_CFG_hole_spacing, .rw, 0x20, false, false, false, false, true⟩]
  | .TCM_THERM_CTRL => [
      ⟨F.TCM_THERM_CTRL_enable, .rw, 0x1, false, false, false, false, true⟩,
      ⟨F.TCM_THERM_CTRL_t2, .rw, 0x66, false, false, false, false, true⟩,
      ⟨F.TCM_THERM_CTRL_t1, .rw, 0x5F, false, false, false, false, true⟩]
  | .TCM_THERM_STATUS => [
      ⟨F.TCM_THERM_STATUS_state, .rc, 0x0, false, false, false, false, false⟩,
      ⟨F.TCM_THERM_STATUS_temp, .rc, 0x0, false, false, false, false, false⟩]
  | .TCM_HOLE_STATUS => [
      ⟨F.TCM_HOLE_STATUS_spacing_lost, .ro, 0x0, false, false, false, false, false⟩,
      ⟨F.TCM_HOLE_STATUS_free, .ro, 0x4000, false, false, false, false, false⟩]
  | .TCM_CNT => [
      ⟨F.TCM_CNT_count, .cnt, 0x0, false, false, false, false, false⟩]
  | .FLW_HOLD => [
      ⟨F.FLW_HOLD_expired, .w1c, 0x0, false, false, false, false, false⟩,
      ⟨F.FLW_HOLD_ack, .ro, 0x0, false, false, false, false, false⟩,
      ⟨F.FLW_HOLD_req, .rw, 0x0, false, false, false, false, false⟩]
  | .FLW_CFG_DIGEST => [
      ⟨F.FLW_CFG_DIGEST_digest, .ro, 0x0, false, false, false, false, false⟩]
  | .FLW_CTRL => [
      ⟨F.FLW_CTRL_age_host, .rw, 0x0, false, true, false, false, true⟩,
      ⟨F.FLW_CTRL_ins_host, .rw, 0x0, false, true, false, false, true⟩]
  | .FLW_MISS_HOLD_CTRL => [
      ⟨F.FLW_MISS_HOLD_CTRL_warn, .rw, 0x1800, false, false, false, false, true⟩,
      ⟨F.FLW_MISS_HOLD_CTRL_per_key, .rw, 0x40, false, false, false, false, true⟩,
      ⟨F.FLW_MISS_HOLD_CTRL_limit, .rw, 0x2000, false, false, false, false, true⟩]
  | .FLW_MISS_HOLD_STATUS => [
      ⟨F.FLW_MISS_HOLD_STATUS_peak, .rw, 0x0, false, false, false, false, false⟩,
      ⟨F.FLW_MISS_HOLD_STATUS_occupancy, .ro, 0x0, false, false, false, false, false⟩]
  | .FLW_INSERT_CTRL => [
      ⟨F.FLW_INSERT_CTRL_burst, .rw, 0x1000, false, false, false, false, true⟩,
      ⟨F.FLW_INSERT_CTRL_rate, .rw, 0x1F4, false, false, false, false, true⟩]
  | .FLW_HOSTINS_CTRL => [
      ⟨F.FLW_HOSTINS_CTRL_hold_max, .rw, 0x8, false, false, false, false, false⟩,
      ⟨F.FLW_HOSTINS_CTRL_timeout_us, .rw, 0x3E8, false, false, false, false, false⟩]
  | .FLW_CMD_RING => [
      ⟨F.FLW_CMD_RING_base, .rw, 0x0, true, false, false, false, false⟩,
      ⟨F.FLW_CMD_RING_log2_size, .rw, 0x0, true, false, false, false, false⟩]
  | .FLW_CMD_PTR => [
      ⟨F.FLW_CMD_PTR_head, .ro, 0x0, false, false, false, false, false⟩,
      ⟨F.FLW_CMD_PTR_tail, .rw, 0x0, false, false, false, false, false⟩]
  | .FLW_CLASS_CFG => [
      ⟨F.FLW_CLASS_CFG_punt_ring, .rw, 0x0, false, false, false, false, true⟩,
      ⟨F.FLW_CLASS_CFG_max, .rw, 0x2000, false, false, false, false, true⟩,
      ⟨F.FLW_CLASS_CFG_reserve, .rw, 0x0, false, false, false, false, true⟩,
      ⟨F.FLW_CLASS_CFG_shed, .rw, 0x1, false, false, false, false, true⟩]
  | .FLW_CLASS_PUNT => [
      ⟨F.FLW_CLASS_PUNT_burst, .rw, 0x40, false, false, false, false, true⟩,
      ⟨F.FLW_CLASS_PUNT_rate, .rw, 0x0, false, false, false, false, true⟩]
  | .FLW_TIMEOUT => [
      ⟨F.FLW_TIMEOUT_seconds, .rw, 0x0, false, false, false, false, true⟩]
  | .FLW_BANK_KEY => [
      ⟨F.FLW_BANK_KEY_key, .rw, 0x0, false, true, true, false, false⟩]
  | .FLW_HBM_EVAC => [
      ⟨F.FLW_HBM_EVAC_progress, .ro, 0x0, false, false, false, false, false⟩,
      ⟨F.FLW_HBM_EVAC_state, .ro, 0x0, false, false, false, false, false⟩,
      ⟨F.FLW_HBM_EVAC_start, .wt, 0x0, false, false, false, false, false⟩,
      ⟨F.FLW_HBM_EVAC_channel, .rw, 0x0, false, false, false, false, false⟩]
  | .FLW_HBM_CE_CTRL => [
      ⟨F.FLW_HBM_CE_CTRL_auto_evac, .rw, 0x1, false, false, false, false, true⟩,
      ⟨F.FLW_HBM_CE_CTRL_ue_fail, .rw, 0x8, false, false, false, false, true⟩,
      ⟨F.FLW_HBM_CE_CTRL_window_s, .rw, 0x3C, false, false, false, false, true⟩,
      ⟨F.FLW_HBM_CE_CTRL_ce_thresh, .rw, 0x2710, false, false, false, false, true⟩]
  | .FLW_QUAR_CTRL => [
      ⟨F.FLW_QUAR_CTRL_release, .wt, 0x0, false, false, false, false, false⟩,
      ⟨F.FLW_QUAR_CTRL_hold, .rw, 0x0, false, false, false, false, false⟩,
      ⟨F.FLW_QUAR_CTRL_record, .rw, 0x0, false, false, false, false, false⟩]
  | .FLW_QUAR_STATUS => [
      ⟨F.FLW_QUAR_STATUS_retired, .ro, 0x0, false, false, false, false, false⟩,
      ⟨F.FLW_QUAR_STATUS_quarantined, .ro, 0x0, false, false, false, false, false⟩]
  | .FLW_HBM_CH_STATUS => [
      ⟨F.FLW_HBM_CH_STATUS_state, .ro, 0x0, false, false, false, false, false⟩,
      ⟨F.FLW_HBM_CH_STATUS_ue_window, .ro, 0x0, false, false, false, false, false⟩,
      ⟨F.FLW_HBM_CH_STATUS_ce_window, .ro, 0x0, false, false, false, false, false⟩]
  | .FLW_SHED_CNT => [
      ⟨F.FLW_SHED_CNT_packets, .cnt, 0x0, false, false, false, false, false⟩]
  | .FLW_CNT => [
      ⟨F.FLW_CNT_count, .cnt, 0x0, false, false, false, false, false⟩]
  | .FLW_RECORDS => [
      ⟨F.FLW_RECORDS_live, .ro, 0x0, false, false, false, false, false⟩]
  | .HRT_CFG_DIGEST => [
      ⟨F.HRT_CFG_DIGEST_digest, .ro, 0x0, false, false, false, false, false⟩]
  | .HRT_CNT_WRAP => [
      ⟨F.HRT_CNT_WRAP_wrap, .w1c, 0x0, false, false, false, false, false⟩]
  | .HRT_SPARE_CTRL => [
      ⟨F.HRT_SPARE_CTRL_spares_free, .ro, 0x2, false, false, false, false, false⟩,
      ⟨F.HRT_SPARE_CTRL_retire_go, .wt, 0x0, false, false, false, false, false⟩,
      ⟨F.HRT_SPARE_CTRL_retire, .rw, 0x0, false, false, false, false, false⟩]
  | .HRT_BANK_STATUS => [
      ⟨F.HRT_BANK_STATUS_ue_count, .cnt, 0x0, false, false, false, false, false⟩,
      ⟨F.HRT_BANK_STATUS_ce_count, .cnt, 0x0, false, false, false, false, false⟩,
      ⟨F.HRT_BANK_STATUS_spare, .ro, 0x0, false, false, false, false, false⟩,
      ⟨F.HRT_BANK_STATUS_state, .ro, 0x0, false, false, false, false, false⟩]
  | .ENG_HOLD => [
      ⟨F.ENG_HOLD_expired, .w1c, 0x0, false, false, false, false, false⟩,
      ⟨F.ENG_HOLD_ack, .ro, 0x0, false, false, false, false, false⟩,
      ⟨F.ENG_HOLD_req, .rw, 0x0, false, false, false, false, false⟩]
  | .ENG_CFG_DIGEST => [
      ⟨F.ENG_CFG_DIGEST_digest, .ro, 0x0, false, false, false, false, false⟩]
  | .ENG_CTRL => [
      ⟨F.ENG_CTRL_max_cycles, .rw, 0x400, false, false, false, false, true⟩]
  | .ENG_CLUSTER_STATUS => [
      ⟨F.ENG_CLUSTER_STATUS_compat, .ro, 0x0, false, false, false, false, false⟩,
      ⟨F.ENG_CLUSTER_STATUS_spare_in, .ro, 0x0, false, false, false, false, false⟩,
      ⟨F.ENG_CLUSTER_STATUS_spare_id, .ro, 0x0, false, false, false, false, false⟩,
      ⟨F.ENG_CLUSTER_STATUS_engines_out, .ro, 0x0, false, false, false, false, false⟩,
      ⟨F.ENG_CLUSTER_STATUS_state, .ro, 0x0, false, false, false, false, false⟩]
  | .ENG_ENGINE_RETIRED => [
      ⟨F.ENG_ENGINE_RETIRED_retired, .w1c, 0x0, false, false, false, false, false⟩]
  | .ENG_MCHK_CAPTURE => [
      ⟨F.ENG_MCHK_CAPTURE_valid, .w1c, 0x0, false, false, false, false, false⟩,
      ⟨F.ENG_MCHK_CAPTURE_kind, .ro, 0x0, false, false, false, false, false⟩,
      ⟨F.ENG_MCHK_CAPTURE_count, .cnt, 0x0, false, false, false, true, false⟩,
      ⟨F.ENG_MCHK_CAPTURE_cluster, .ro, 0x0, false, false, false, false, false⟩,
      ⟨F.ENG_MCHK_CAPTURE_engine, .ro, 0x0, false, false, false, false, false⟩,
      ⟨F.ENG_MCHK_CAPTURE_address, .ro, 0x0, false, false, false, false, false⟩]
  | .ENG_CNT => [
      ⟨F.ENG_CNT_count, .cnt, 0x0, false, false, false, false, false⟩]
  | .ENG_SPARE_STATUS => [
      ⟨F.ENG_SPARE_STATUS_compat, .ro, 0x0, false, false, false, false, false⟩,
      ⟨F.ENG_SPARE_STATUS_pipeline, .ro, 0x0, false, false, false, false, false⟩,
      ⟨F.ENG_SPARE_STATUS_cluster, .ro, 0x0, false, false, false, false, false⟩,
      ⟨F.ENG_SPARE_STATUS_state, .ro, 0x0, false, false, false, false, false⟩]
  | .ENG_ROLL_LIST => [
      ⟨F.ENG_ROLL_LIST_list_addr, .rw, 0x0, false, false, false, false, false⟩]
  | .ENG_ROLL_CTRL => [
      ⟨F.ENG_ROLL_CTRL_go, .wt, 0x0, false, false, false, false, false⟩,
      ⟨F.ENG_ROLL_CTRL_abort, .wt, 0x0, false, false, false, false, false⟩,
      ⟨F.ENG_ROLL_CTRL_allow_reduced, .rw, 0x0, false, false, false, false, false⟩,
      ⟨F.ENG_ROLL_CTRL_extents, .rw, 0x0, false, false, false, false, false⟩]
  | .ENG_ROLL_STATUS => [
      ⟨F.ENG_ROLL_STATUS_compat, .ro, 0x0, false, false, false, false, false⟩,
      ⟨F.ENG_ROLL_STATUS_sweepers_done, .ro, 0x0, false, false, false, false, false⟩,
      ⟨F.ENG_ROLL_STATUS_clusters_done, .ro, 0x0, false, false, false, false, false⟩,
      ⟨F.ENG_ROLL_STATUS_error, .ro, 0x0, false, false, false, false, false⟩,
      ⟨F.ENG_ROLL_STATUS_state, .ro, 0x0, false, false, false, false, false⟩]
  | .SWP_CFG_DIGEST => [
      ⟨F.SWP_CFG_DIGEST_digest, .ro, 0x0, false, false, false, false, false⟩]
  | .SWP_CNT_WRAP => [
      ⟨F.SWP_CNT_WRAP_wrap, .w1c, 0x0, false, false, false, false, false⟩]
  | .SWP_CTRL => [
      ⟨F.SWP_CTRL_pause, .rw, 0x0, false, false, false, false, false⟩]
  | .SWP_STATUS => [
      ⟨F.SWP_STATUS_state, .ro, 0x0, false, false, false, false, false⟩,
      ⟨F.SWP_STATUS_pc, .ro, 0x0, false, false, false, false, false⟩]
  | .SWP_MCHK_CAPTURE => [
      ⟨F.SWP_MCHK_CAPTURE_valid, .w1c, 0x0, false, false, false, false, false⟩,
      ⟨F.SWP_MCHK_CAPTURE_kind, .ro, 0x0, false, false, false, false, false⟩,
      ⟨F.SWP_MCHK_CAPTURE_count, .cnt, 0x0, false, false, false, true, false⟩,
      ⟨F.SWP_MCHK_CAPTURE_sweeper, .ro, 0x0, false, false, false, false, false⟩,
      ⟨F.SWP_MCHK_CAPTURE_address, .ro, 0x0, false, false, false, false, false⟩]
  | .SWP_SCAN => [
      ⟨F.SWP_SCAN_scans, .cnt, 0x0, false, false, false, false, false⟩,
      ⟨F.SWP_SCAN_last_ms, .ro, 0x0, false, false, false, false, false⟩]
  | .SWP_CNT => [
      ⟨F.SWP_CNT_count, .cnt, 0x0, false, false, false, false, false⟩]
  | .BPM_HOLD => [
      ⟨F.BPM_HOLD_expired, .w1c, 0x0, false, false, false, false, false⟩,
      ⟨F.BPM_HOLD_ack, .ro, 0x0, false, false, false, false, false⟩,
      ⟨F.BPM_HOLD_req, .rw, 0x0, false, false, false, false, false⟩]
  | .BPM_CFG_DIGEST => [
      ⟨F.BPM_CFG_DIGEST_digest, .ro, 0x0, false, false, false, false, false⟩]
  | .BPM_POOL_CFG => [
      ⟨F.BPM_POOL_CFG_warn_lo, .rw, 0x0, false, false, false, false, true⟩,
      ⟨F.BPM_POOL_CFG_warn_hi, .rw, 0x0, false, false, false, false, true⟩,
      ⟨F.BPM_POOL_CFG_segments, .rw, 0x0, true, false, false, false, true⟩]
  | .BPM_POOL_STATUS => [
      ⟨F.BPM_POOL_STATUS_peak, .rw, 0x0, false, false, false, false, false⟩,
      ⟨F.BPM_POOL_STATUS_warn, .ro, 0x0, false, false, false, false, false⟩,
      ⟨F.BPM_POOL_STATUS_free, .ro, 0x0, false, false, false, false, false⟩]
  | .BPM_STATUS => [
      ⟨F.BPM_STATUS_die_warn, .ro, 0x0, false, false, false, false, false⟩,
      ⟨F.BPM_STATUS_overcommit, .ro, 0x0, false, false, false, false, false⟩]
  | .BPM_PIPE_CFG => [
      ⟨F.BPM_PIPE_CFG_untagged_prio, .rw, 0x0, false, false, false, false, true⟩]
  | .BPM_FREE_CAPTURE => [
      ⟨F.BPM_FREE_CAPTURE_valid, .w1c, 0x0, false, false, false, false, false⟩,
      ⟨F.BPM_FREE_CAPTURE_kind, .ro, 0x0, false, false, false, false, false⟩,
      ⟨F.BPM_FREE_CAPTURE_requester, .ro, 0x0, false, false, false, false, false⟩,
      ⟨F.BPM_FREE_CAPTURE_count, .cnt, 0x0, false, false, false, true, false⟩,
      ⟨F.BPM_FREE_CAPTURE_handle, .ro, 0x0, false, false, false, false, false⟩]
  | .BPM_PRIO_CFG => [
      ⟨F.BPM_PRIO_CFG_max, .rw, 0x80000, false, false, false, false, true⟩,
      ⟨F.BPM_PRIO_CFG_resume, .rw, 0x80000, false, false, false, false, true⟩,
      ⟨F.BPM_PRIO_CFG_warn, .rw, 0x80000, false, false, false, false, true⟩]
  | .BPM_PRIO_USE => [
      ⟨F.BPM_PRIO_USE_peak, .rw, 0x0, false, false, false, false, false⟩,
      ⟨F.BPM_PRIO_USE_warn, .ro, 0x0, false, false, false, false, false⟩,
      ⟨F.BPM_PRIO_USE_charge, .ro, 0x0, false, false, false, false, false⟩]
  | .BPM_CNT => [
      ⟨F.BPM_CNT_count, .cnt, 0x0, false, false, false, false, false⟩]
  | .BPM_REQ_QUOTA => [
      ⟨F.BPM_REQ_QUOTA_warn, .rw, 0xFFFFF, false, false, false, false, true⟩,
      ⟨F.BPM_REQ_QUOTA_max, .rw, 0xFFFFF, false, false, false, false, true⟩,
      ⟨F.BPM_REQ_QUOTA_min, .rw, 0x0, false, false, false, false, true⟩]
  | .BPM_REQ_USE => [
      ⟨F.BPM_REQ_USE_peak, .rw, 0x0, false, false, false, false, false⟩,
      ⟨F.BPM_REQ_USE_use, .ro, 0x0, false, false, false, false, false⟩]
  | .FIF_CFG_DIGEST => [
      ⟨F.FIF_CFG_DIGEST_digest, .ro, 0x0, false, false, false, false, false⟩]
  | .FIF_CFG => [
      ⟨F.FIF_CFG_ring, .rw, 0x0, false, false, false, false, true⟩,
      ⟨F.FIF_CFG_max_item, .rw, 0x20, false, false, false, false, true⟩,
      ⟨F.FIF_CFG_wake_level, .rw, 0x0, false, false, false, false, true⟩,
      ⟨F.FIF_CFG_consumer, .rw, 0x0, true, false, false, false, true⟩,
      ⟨F.FIF_CFG_mode, .rw, 0x0, true, false, false, false, true⟩,
      ⟨F.FIF_CFG_enable, .rw, 0x0, false, false, false, false, true⟩,
      ⟨F.FIF_CFG_depth, .rw, 0x0, true, false, false, false, true⟩,
      ⟨F.FIF_CFG_base, .rw, 0x0, true, false, false, false, true⟩]
  | .FIF_TIMER => [
      ⟨F.FIF_TIMER_idle, .rw, 0x3D09, false, false, false, false, true⟩]
  | .FIF_STATUS => [
      ⟨F.FIF_STATUS_holder, .ro, 0x0, false, false, false, false, false⟩,
      ⟨F.FIF_STATUS_mid_item, .ro, 0x0, false, false, false, false, false⟩,
      ⟨F.FIF_STATUS_flush_busy, .ro, 0x0, false, false, false, false, false⟩,
      ⟨F.FIF_STATUS_items, .ro, 0x0, false, false, false, false, false⟩,
      ⟨F.FIF_STATUS_words, .ro, 0x0, false, false, false, false, false⟩]
  | .FIF_CTRL => [
      ⟨F.FIF_CTRL_flush, .wt, 0x0, false, false, false, false, false⟩]
  | .FIF_PROD => [
      ⟨F.FIF_PROD_held, .ro, 0x0, false, false, false, false, false⟩,
      ⟨F.FIF_PROD_valid, .rw, 0x0, false, false, false, false, true⟩,
      ⟨F.FIF_PROD_credits, .rw, 0x0, false, false, false, false, true⟩,
      ⟨F.FIF_PROD_producer, .rw, 0x0, false, false, false, false, true⟩]
  | .FIF_CNT => [
      ⟨F.FIF_CNT_count, .cnt, 0x0, false, false, false, false, false⟩]
  | .SCH_HOLD => [
      ⟨F.SCH_HOLD_expired, .w1c, 0x0, false, false, false, false, false⟩,
      ⟨F.SCH_HOLD_ack, .ro, 0x0, false, false, false, false, false⟩,
      ⟨F.SCH_HOLD_req, .rw, 0x0, false, false, false, false, false⟩]
  | .SCH_CFG_DIGEST => [
      ⟨F.SCH_CFG_DIGEST_digest, .ro, 0x0, false, false, false, false, false⟩]
  | .SCH_PORT_CFG => [
      ⟨F.SCH_PORT_CFG_max_wait, .rw, 0x0, false, false, false, false, true⟩,
      ⟨F.SCH_PORT_CFG_qlog, .rw, 0x0, false, false, false, false, true⟩,
      ⟨F.SCH_PORT_CFG_qbase, .rw, 0x0, false, false, false, false, true⟩,
      ⟨F.SCH_PORT_CFG_prio_of_tc, .rw, 0xFAC688, false, false, false, false, true⟩,
      ⟨F.SCH_PORT_CFG_linkdown_drop, .rw, 0x1, false, false, false, false, true⟩,
      ⟨F.SCH_PORT_CFG_overhead, .rw, 0x0, false, false, false, false, true⟩]
  | .SCH_GATE_CFG => [
      ⟨F.SCH_GATE_CFG_count, .rw, 0x0, false, false, false, false, true⟩,
      ⟨F.SCH_GATE_CFG_base_s, .rw, 0x0, false, false, false, false, true⟩]
  | .SCH_GATE_TIME => [
      ⟨F.SCH_GATE_TIME_cycle_ns, .rw, 0xF4240, false, false, false, false, true⟩,
      ⟨F.SCH_GATE_TIME_base_ns, .rw, 0x0, false, false, false, false, true⟩]
  | .SCH_GATE_CTRL => [
      ⟨F.SCH_GATE_CTRL_ext_ns, .rw, 0x0, false, false, false, false, true⟩,
      ⟨F.SCH_GATE_CTRL_guard, .rw, 0x0, false, false, false, false, true⟩,
      ⟨F.SCH_GATE_CTRL_abort, .wt, 0x0, false, false, false, false, false⟩,
      ⟨F.SCH_GATE_CTRL_go, .wt, 0x0, false, false, false, false, false⟩,
      ⟨F.SCH_GATE_CTRL_enable, .rw, 0x0, false, false, false, false, true⟩]
  | .SCH_GATE_STATUS => [
      ⟨F.SCH_GATE_STATUS_operating, .ro, 0x0, false, false, false, false, false⟩,
      ⟨F.SCH_GATE_STATUS_pending, .ro, 0x0, false, false, false, false, false⟩,
      ⟨F.SCH_GATE_STATUS_oper_bank, .ro, 0x0, false, false, false, false, false⟩,
      ⟨F.SCH_GATE_STATUS_entry, .ro, 0x0, false, false, false, false, false⟩,
      ⟨F.SCH_GATE_STATUS_gates, .ro, 0xFF, false, false, false, false, false⟩]
  | .SCH_GATE_CHANGE => [
      ⟨F.SCH_GATE_CHANGE_t_s, .ro, 0x0, false, false, false, false, false⟩,
      ⟨F.SCH_GATE_CHANGE_t_ns, .ro, 0x0, false, false, false, false, false⟩]
  | .SCH_GATE_MAXOPEN => [
      ⟨F.SCH_GATE_MAXOPEN_ns, .ro, 0xFFFFFFFF, false, false, false, false, false⟩]
  | .SCH_PORT_CNT => [
      ⟨F.SCH_PORT_CNT_count, .cnt, 0x0, false, false, false, false, false⟩]
  | .TEL_HOLD => [
      ⟨F.TEL_HOLD_expired, .w1c, 0x0, false, false, false, false, false⟩,
      ⟨F.TEL_HOLD_ack, .ro, 0x0, false, false, false, false, false⟩,
      ⟨F.TEL_HOLD_req, .rw, 0x0, false, false, false, false, false⟩]
  | .TEL_CFG_DIGEST => [
      ⟨F.TEL_CFG_DIGEST_digest, .ro, 0x0, false, false, false, false, false⟩]
  | .TEL_CTRL => [
      ⟨F.TEL_CTRL_exp_host, .rw, 0x0, false, true, false, false, true⟩]
  | .TEL_EXP_DOMAIN => [
      ⟨F.TEL_EXP_DOMAIN_leap_s, .rw, 0x25, false, false, false, false, false⟩,
      ⟨F.TEL_EXP_DOMAIN_obs_domain, .rw, 0x0, false, false, false, false, false⟩]
  | .TEL_IOAM_CFG => [
      ⟨F.TEL_IOAM_CFG_enable, .rw, 0x0, false, false, false, false, true⟩,
      ⟨F.TEL_IOAM_CFG_ns_any, .rw, 0x0, false, false, false, false, true⟩,
      ⟨F.TEL_IOAM_CFG_ns_id, .rw, 0x0, false, false, false, false, true⟩]
  | .TEL_IOAM_NODE => [
      ⟨F.TEL_IOAM_NODE_node_id, .rw, 0x0, false, false, false, false, false⟩]
  | .TEL_CLASS_CFG => [
      ⟨F.TEL_CLASS_CFG_every, .rw, 0x1, false, false, false, false, true⟩,
      ⟨F.TEL_CLASS_CFG_end_en, .rw, 0x0, false, false, false, false, true⟩,
      ⟨F.TEL_CLASS_CFG_export_en, .rw, 0x0, false, false, false, false, true⟩]
  | .TEL_EXP_CFG => [
      ⟨F.TEL_EXP_CFG_host_ring, .rw, 0x0, false, false, false, false, false⟩,
      ⟨F.TEL_EXP_CFG_template_s, .rw, 0xA, false, false, false, false, false⟩,
      ⟨F.TEL_EXP_CFG_start_state, .rw, 0x0, false, false, false, false, false⟩,
      ⟨F.TEL_EXP_CFG_pipe, .rw, 0x0, false, false, false, false, false⟩,
      ⟨F.TEL_EXP_CFG_hdr_len, .rw, 0x0, false, false, false, false, false⟩,
      ⟨F.TEL_EXP_CFG_max_msg, .rw, 0x578, false, false, false, false, false⟩]
  | .TEL_EXP_CFG2 => [
      ⟨F.TEL_EXP_CFG2_enable, .rw, 0x0, false, false, false, false, false⟩,
      ⟨F.TEL_EXP_CFG2_ipv6, .rw, 0x0, false, false, false, false, false⟩,
      ⟨F.TEL_EXP_CFG2_udp_off, .rw, 0x0, false, false, false, false, false⟩,
      ⟨F.TEL_EXP_CFG2_ip_off, .rw, 0x0, false, false, false, false, false⟩]
  | .TEL_EXP_HDR => [
      ⟨F.TEL_EXP_HDR_bytes, .rw, 0x0, false, false, false, false, false⟩]
  | .TEL_HIST_SHIFT => [
      ⟨F.TEL_HIST_SHIFT_shift, .rw, 0x0, false, false, false, false, true⟩]
  | .TEL_CNT => [
      ⟨F.TEL_CNT_count, .cnt, 0x0, false, false, false, false, false⟩]
  | .TEL_PORT_BW_CFG => [
      ⟨F.TEL_PORT_BW_CFG_wire, .rw, 0x0, false, false, false, false, false⟩,
      ⟨F.TEL_PORT_BW_CFG_window_us, .rw, 0x3E8, false, false, false, false, false⟩]
  | .TEL_PORT_BW_RXB => [
      ⟨F.TEL_PORT_BW_RXB_rx_bytes, .ro, 0x0, false, false, false, false, false⟩]
  | .TEL_PORT_BW_TXB => [
      ⟨F.TEL_PORT_BW_TXB_tx_bytes, .ro, 0x0, false, false, false, false, false⟩]
  | .TEL_PORT_BW_FRM => [
      ⟨F.TEL_PORT_BW_FRM_tx_frames, .ro, 0x0, false, false, false, false, false⟩,
      ⟨F.TEL_PORT_BW_FRM_rx_frames, .ro, 0x0, false, false, false, false, false⟩]
  | .TEL_PORT_BW_SEQ => [
      ⟨F.TEL_PORT_BW_SEQ_window_seq, .ro, 0x0, false, false, false, false, false⟩,
      ⟨F.TEL_PORT_BW_SEQ_end_ts, .ro, 0x0, false, false, false, false, false⟩]
  | .TEL_PORT_BW_LEN => [
      ⟨F.TEL_PORT_BW_LEN_last_len_ns, .ro, 0x0, false, false, false, false, false⟩]
  | .TEL_PORT_BW_RXP => [
      ⟨F.TEL_PORT_BW_RXP_rx_peak, .rw, 0x0, false, false, false, false, false⟩]
  | .TEL_PORT_BW_TXP => [
      ⟨F.TEL_PORT_BW_TXP_tx_peak, .rw, 0x0, false, false, false, false, false⟩]
  | .PRF_CFG_DIGEST => [
      ⟨F.PRF_CFG_DIGEST_digest, .ro, 0x0, false, false, false, false, false⟩]
  | .PRF_CNT_WRAP => [
      ⟨F.PRF_CNT_WRAP_wrap, .w1c, 0x0, false, false, false, false, false⟩]
  | .PRF_CTRL => [
      ⟨F.PRF_CTRL_clear, .wt, 0x0, false, false, false, false, false⟩,
      ⟨F.PRF_CTRL_snap, .wt, 0x0, false, false, false, false, false⟩,
      ⟨F.PRF_CTRL_run, .rw, 0x0, false, false, false, false, false⟩]
  | .PRF_PERM_EN => [
      ⟨F.PRF_PERM_EN_enable, .rw, 0x0, false, false, false, false, false⟩]
  | .PRF_SAMPLE_CTRL => [
      ⟨F.PRF_SAMPLE_CTRL_stop_full, .rw, 0x1, false, false, false, false, false⟩,
      ⟨F.PRF_SAMPLE_CTRL_opc_en, .rw, 0x0, false, false, false, false, false⟩,
      ⟨F.PRF_SAMPLE_CTRL_jitter, .rw, 0x1, false, false, false, false, false⟩,
      ⟨F.PRF_SAMPLE_CTRL_trigger, .rw, 0x0, false, false, false, false, false⟩,
      ⟨F.PRF_SAMPLE_CTRL_class, .rw, 0x0, false, false, false, false, false⟩,
      ⟨F.PRF_SAMPLE_CTRL_enable, .rw, 0x0, false, false, false, false, false⟩]
  | .PRF_SAMPLE_CFG => [
      ⟨F.PRF_SAMPLE_CFG_period, .rw, 0x1000, false, false, false, false, false⟩,
      ⟨F.PRF_SAMPLE_CFG_match_addr, .rw, 0x0, false, false, false, false, false⟩,
      ⟨F.PRF_SAMPLE_CFG_opcode, .rw, 0x0, false, false, false, false, false⟩,
      ⟨F.PRF_SAMPLE_CFG_pipe_mask, .rw, 0xFFFF, false, false, false, false, false⟩]
  | .PRF_SAMPLE_PTR => [
      ⟨F.PRF_SAMPLE_PTR_lost, .cnt, 0x0, false, false, false, false, false⟩,
      ⟨F.PRF_SAMPLE_PTR_rd, .rw, 0x0, false, false, false, false, false⟩,
      ⟨F.PRF_SAMPLE_PTR_wr, .ro, 0x0, false, false, false, false, false⟩]
  | .PRF_CNT_CFG => [
      ⟨F.PRF_CNT_CFG_inst_mask, .rw, 0xFFFF, false, false, false, false, false⟩,
      ⟨F.PRF_CNT_CFG_opc, .rw, 0x0, false, false, false, false, false⟩,
      ⟨F.PRF_CNT_CFG_opc_en, .rw, 0x0, false, false, false, false, false⟩,
      ⟨F.PRF_CNT_CFG_thresh, .rw, 0x1, false, false, false, false, false⟩,
      ⟨F.PRF_CNT_CFG_mode, .rw, 0x0, false, false, false, false, false⟩,
      ⟨F.PRF_CNT_CFG_event, .rw, 0x0, false, false, false, false, false⟩]
  | .PRF_CNT => [
      ⟨F.PRF_CNT_count, .cnt, 0x0, false, false, false, false, false⟩]
  | .PRF_SNAP => [
      ⟨F.PRF_SNAP_snapshot, .ro, 0x0, false, false, false, false, false⟩]
  | .NAT_HOLD => [
      ⟨F.NAT_HOLD_expired, .w1c, 0x0, false, false, false, false, false⟩,
      ⟨F.NAT_HOLD_ack, .ro, 0x0, false, false, false, false, false⟩,
      ⟨F.NAT_HOLD_req, .rw, 0x0, false, false, false, false, false⟩]
  | .NAT_CFG_DIGEST => [
      ⟨F.NAT_CFG_DIGEST_digest, .ro, 0x0, false, false, false, false, false⟩]
  | .NAT_CTRL => [
      ⟨F.NAT_CTRL_frag_host, .rw, 0x0, false, true, false, false, true⟩,
      ⟨F.NAT_CTRL_alloc_host, .rw, 0x0, false, true, false, false, true⟩]
  | .NAT_HASH_KEY => [
      ⟨F.NAT_HASH_KEY_key, .ro, 0x0, false, false, true, false, false⟩]
  | .NAT_TMO_MAP => [
      ⟨F.NAT_TMO_MAP_sel, .rw, 0x565244321, false, false, false, false, true⟩]
  | .NAT_STATUS => [
      ⟨F.NAT_STATUS_quarantine, .ro, 0x0, false, false, false, false, false⟩,
      ⟨F.NAT_STATUS_subscribers, .ro, 0x0, false, false, false, false, false⟩]
  | .NAT_CNT => [
      ⟨F.NAT_CNT_count, .cnt, 0x0, false, false, false, false, false⟩]
  | .NAT_POOL_CFG => [
      ⟨F.NAT_POOL_CFG_port_hi, .rw, 0xFFFF, false, false, false, false, true⟩,
      ⟨F.NAT_POOL_CFG_port_lo, .rw, 0x400, false, false, false, false, true⟩,
      ⟨F.NAT_POOL_CFG_count, .rw, 0x0, false, false, false, false, true⟩,
      ⟨F.NAT_POOL_CFG_first, .rw, 0x0, false, false, false, false, true⟩]
  | .NAT_POOL_CFG2 => [
      ⟨F.NAT_POOL_CFG2_exhaust_act, .rw, 0x0, false, false, false, false, true⟩,
      ⟨F.NAT_POOL_CFG2_hold_s, .rw, 0x3C, false, false, false, false, true⟩,
      ⟨F.NAT_POOL_CFG2_rev_zone, .rw, 0x0, false, false, false, false, true⟩]
  | .LBL_HOLD => [
      ⟨F.LBL_HOLD_expired, .w1c, 0x0, false, false, false, false, false⟩,
      ⟨F.LBL_HOLD_ack, .ro, 0x0, false, false, false, false, false⟩,
      ⟨F.LBL_HOLD_req, .rw, 0x0, false, false, false, false, false⟩]
  | .LBL_CFG_DIGEST => [
      ⟨F.LBL_CFG_DIGEST_digest, .ro, 0x0, false, false, false, false, false⟩]
  | .LBL_CTRL => [
      ⟨F.LBL_CTRL_health_host, .rw, 0x0, false, true, false, false, true⟩]
  | .LBL_HASH_KEY => [
      ⟨F.LBL_HASH_KEY_key, .rw, 0x0, false, false, true, false, false⟩]
  | .LBL_SVC_CMD => [
      ⟨F.LBL_SVC_CMD_busy, .ro, 0x0, false, false, false, false, false⟩,
      ⟨F.LBL_SVC_CMD_go, .wt, 0x0, false, false, false, false, false⟩,
      ⟨F.LBL_SVC_CMD_service, .rw, 0x0, false, false, false, false, false⟩]
  | .LBL_CNT => [
      ⟨F.LBL_CNT_count, .cnt, 0x0, false, false, false, false, false⟩]

def Reg.all0 : List Reg :=
  [.GLB_RESET, .GLB_CFG_DIGEST, .GLB_LOCK_CAPTURE, .GLB_DIGEST_KEY, .GLB_DEV_DIGEST, .GLB_ECC_CNT, .GLB_ECC_CAPTURE, .GLB_SCRUB_CTRL, .GLB_CORE_STATUS, .GLB_CORE_CTRL, .GLB_LIFE_HIST, .CLK_REF_CFG, .CLK_REF_STATUS, .PWR_STATUS, .PWR_RAIL_CFG, .PWR_RAIL_STATUS, .PWR_THERM_CFG, .PWR_TRIP_CFG, .PWR_TRIP_CAPTURE, .PWR_TEMP, .PWR_HBM_TEMP, .PWR_CNT, .BOOT_STRAPS, .BOOT_STATUS, .BOOT_FW_LIST, .BOOT_FW_CTRL, .BOOT_IMAGE_SERIAL, .BOOT_PHASE_TIME, .BOOT_SWAP_LIST, .BOOT_SWAP_CTRL, .BOOT_SWAP_STATUS, .SEC_STATUS, .SEC_ANCHOR_STATUS, .SEC_CHAL, .SEC_CMD, .SEC_CMD_STATUS, .EVT_CTRL, .EVT_INTN, .EVT_CFG_DIGEST, .EVT_CNT_WRAP]
def Reg.all1 : List Reg :=
  [.EVT_SRC_EN, .EVT_PEND, .EVT_RING_CFG, .EVT_RING_CFG2, .EVT_RING_PTR, .EVT_RING_STATUS, .EVT_SRC_CFG, .HST_CFG_DIGEST, .HST_HOST_ALIVE, .HST_HOSTLOSS_CTRL, .HST_MODE_CTRL, .HST_MODE_STATUS, .HST_FRAG_CFG, .HST_CNT, .MSIX_ADDR, .MSIX_DATA, .MSIX_PBA, .HST_RXG_CFG, .HST_RXR_CFG, .HST_RXR_CFG2, .HST_RXR_PTR, .HST_RXR_CNT, .HST_TXR_CFG, .HST_TXR_CFG2, .HST_TXR_PTR, .HST_TXR_CNT, .TIM_CFG_DIGEST, .TIM_CTRL, .TIM_NOW_LO, .TIM_NOW_HI, .TIM_FREQ, .TIM_STEP, .TIM_SET_LO, .TIM_SET_HI, .TIM_SLEW, .TIM_ADJ_CTRL, .TIM_ADJ_STATUS, .TIM_PPS_CFG, .TIM_PPS_IN_LO, .TIM_PPS_IN_HI]
def Reg.all2 : List Reg :=
  [.TIM_CLK10_STATUS, .TIM_RCLK_CFG, .TIM_TXQ_DATA0, .TIM_TXQ_DATA1, .TIM_TXQ_CTRL, .TIM_TXQ_STATUS, .TIM_PEAL_CFG, .TIM_LEDGER_HOST, .TIM_LEDGER_STATUS, .TIM_CNT, .TIM_PORT_CFG, .TIM_LANE_CAL, .TIM_LANE_CAL_STATUS, .TWN_HOLD, .TWN_CFG_DIGEST, .TWN_CTRL, .TWN_SYNC_CTRL, .TWN_STATUS, .TWN_KINDLE_CTRL, .TWN_KINDLE_STATUS, .TWN_DIGEST_CTRL, .TWN_DIVERGE_CAPTURE, .TWN_STREAM_STATUS, .TWN_STREAM_LAG, .TWN_HOLD_OCC, .TWN_CNT, .PEL_CFG_DIGEST, .PEL_GROUP_CFG, .PEL_LINK_STATUS, .PEL_CELL_CNT, .PEL_PEER_STATUS, .PEL_DIST_RING, .PEL_DIST_PTR, .PEL_DIST_CFG, .PEL_GROUP_DIGEST, .LANE_CTRL, .LANE_STATUS, .LANE_DEGRADE_CTRL, .LANE_FEC_CNT, .LANE_CFG_DIGEST]
def Reg.all3 : List Reg :=
  [.LANE_CNT_WRAP, .MAC_PORT_CFG, .MAC_PORT_STATUS, .MAC_PFC_CTRL, .MAC_RX_ERR, .MAC_CFG_DIGEST, .MAC_CTL_CNT, .PRS_INTAKE_CTRL, .PRS_INTAKE_OCC, .PRS_INTAKE_DROP, .PRS_REORDER_OCC, .PRS_HOLD, .PRS_CFG_DIGEST, .PRS_PORT_POLICY, .PRS_ENGINE_CTRL, .PRS_FLAG_CNT, .CLSD_CFG_DIGEST, .CLS_GEN_CTRL, .CLS_GEN_STATUS, .CLS_GEN_INFLIGHT, .CLS_TBL_CMD, .CLS_TBL_SLICES, .CLS_TBL_STATUS, .CLS_EXM_CFG, .CLS_TBL_DATA, .CLS_HOLD, .CLS_CFG_DIGEST, .CLS_PORT_CFG, .CLS_CNT, .TCM_CFG_DIGEST, .TCM_SLICE_CFG, .TCM_THERM_CTRL, .TCM_THERM_STATUS, .TCM_HOLE_STATUS, .TCM_CNT, .FLW_HOLD, .FLW_CFG_DIGEST, .FLW_CTRL, .FLW_MISS_HOLD_CTRL, .FLW_MISS_HOLD_STATUS]
def Reg.all4 : List Reg :=
  [.FLW_INSERT_CTRL, .FLW_HOSTINS_CTRL, .FLW_CMD_RING, .FLW_CMD_PTR, .FLW_CLASS_CFG, .FLW_CLASS_PUNT, .FLW_TIMEOUT, .FLW_BANK_KEY, .FLW_HBM_EVAC, .FLW_HBM_CE_CTRL, .FLW_QUAR_CTRL, .FLW_QUAR_STATUS, .FLW_HBM_CH_STATUS, .FLW_SHED_CNT, .FLW_CNT, .FLW_RECORDS, .HRT_CFG_DIGEST, .HRT_CNT_WRAP, .HRT_SPARE_CTRL, .HRT_BANK_STATUS, .ENG_HOLD, .ENG_CFG_DIGEST, .ENG_CTRL, .ENG_CLUSTER_STATUS, .ENG_ENGINE_RETIRED, .ENG_MCHK_CAPTURE, .ENG_CNT, .ENG_SPARE_STATUS, .ENG_ROLL_LIST, .ENG_ROLL_CTRL, .ENG_ROLL_STATUS, .SWP_CFG_DIGEST, .SWP_CNT_WRAP, .SWP_CTRL, .SWP_STATUS, .SWP_MCHK_CAPTURE, .SWP_SCAN, .SWP_CNT, .BPM_HOLD, .BPM_CFG_DIGEST]
def Reg.all5 : List Reg :=
  [.BPM_POOL_CFG, .BPM_POOL_STATUS, .BPM_STATUS, .BPM_PIPE_CFG, .BPM_FREE_CAPTURE, .BPM_PRIO_CFG, .BPM_PRIO_USE, .BPM_CNT, .BPM_REQ_QUOTA, .BPM_REQ_USE, .FIF_CFG_DIGEST, .FIF_CFG, .FIF_TIMER, .FIF_STATUS, .FIF_CTRL, .FIF_PROD, .FIF_CNT, .SCH_HOLD, .SCH_CFG_DIGEST, .SCH_PORT_CFG, .SCH_GATE_CFG, .SCH_GATE_TIME, .SCH_GATE_CTRL, .SCH_GATE_STATUS, .SCH_GATE_CHANGE, .SCH_GATE_MAXOPEN, .SCH_PORT_CNT, .TEL_HOLD, .TEL_CFG_DIGEST, .TEL_CTRL, .TEL_EXP_DOMAIN, .TEL_IOAM_CFG, .TEL_IOAM_NODE, .TEL_CLASS_CFG, .TEL_EXP_CFG, .TEL_EXP_CFG2, .TEL_EXP_HDR, .TEL_HIST_SHIFT, .TEL_CNT, .TEL_PORT_BW_CFG]
def Reg.all6 : List Reg :=
  [.TEL_PORT_BW_RXB, .TEL_PORT_BW_TXB, .TEL_PORT_BW_FRM, .TEL_PORT_BW_SEQ, .TEL_PORT_BW_LEN, .TEL_PORT_BW_RXP, .TEL_PORT_BW_TXP, .PRF_CFG_DIGEST, .PRF_CNT_WRAP, .PRF_CTRL, .PRF_PERM_EN, .PRF_SAMPLE_CTRL, .PRF_SAMPLE_CFG, .PRF_SAMPLE_PTR, .PRF_CNT_CFG, .PRF_CNT, .PRF_SNAP, .NAT_HOLD, .NAT_CFG_DIGEST, .NAT_CTRL, .NAT_HASH_KEY, .NAT_TMO_MAP, .NAT_STATUS, .NAT_CNT, .NAT_POOL_CFG, .NAT_POOL_CFG2, .LBL_HOLD, .LBL_CFG_DIGEST, .LBL_CTRL, .LBL_HASH_KEY, .LBL_SVC_CMD, .LBL_CNT]

/-- Every register of the map, in ascending order of its base. -/
def Reg.all : List Reg :=
  Reg.all0 ++ Reg.all1 ++ Reg.all2 ++ Reg.all3 ++ Reg.all4 ++ Reg.all5 ++ Reg.all6

/-- Registers of the CLK_SLOW domain, whose writable fields carry copy code 2 (R46, 18_power_electrical_package.md). -/
def Reg.slow : Reg → Bool
  | .CLK_REF_CFG => true
  | .CLK_REF_STATUS => true
  | .PWR_STATUS => true
  | .PWR_RAIL_CFG => true
  | .PWR_RAIL_STATUS => true
  | .PWR_THERM_CFG => true
  | .PWR_TRIP_CFG => true
  | .PWR_TRIP_CAPTURE => true
  | .PWR_TEMP => true
  | .PWR_HBM_TEMP => true
  | .PWR_CNT => true
  | _ => false

end Sys2Proof.Machine
end

