-- ==== Sys2Proof/Machine/TypesNet.lean ====
section
/-! DEFINITION. Internal state of lanes, MACs and Peal links (04_lanes_ports_peal.md). -/
namespace Sys2Proof.Machine

/-- A lane beside its registers (R112–R114): consecutive windows above the threshold, the edge its failure began a
retry period, and the state its recalibration returns to. -/
structure LaneSt where
  badWindows : Nat
  failedAt : Nat
  recalFrom : Nat
  deriving DecidableEq, Repr

/-- A lane at reset. -/
def LaneSt.init : LaneSt := ⟨0, 0, 0⟩

/-- A retained cell of a link (R106): its lane, the cell, and the edge it ended. -/
structure RetainedCell where
  lane : Nat
  cell : Cell
  endedAt : Nat
  deriving DecidableEq, Repr

/-- Keying progress of a link (R446): whether this end initiates, the transcript so far, this end's secret, the
peer's identity modulus, and the edge the exchange failed. -/
structure Keying where
  initiator : Bool
  transcript : List Byte
  secret : List Byte
  peerKey : List Byte
  failedAt : Option Nat
  deriving DecidableEq, Repr

/-- A Peal link beside its registers. `txSeq`, `rxSeq` are per lane (next to send, last received in order plus
one); `nextTx`, `nextRx` the lane index that carries the next cell; `waiting` messages wait for a window place. -/
structure Link where
  txSeq : Tbl Nat
  rxSeq : Tbl Nat
  nextTx : Nat
  nextRx : Nat
  retained : List RetainedCell
  waiting : List PealMsg
  epochTx : Nat
  epochRx : Nat
  cellsUnderKey : Nat
  keyed : Bool
  keying : Option Keying
  pausedPrios : Nat
  /-- Lanes the receiver takes cells from, and the lane set and epoch it switches to at a named cell (R104). -/
  rxMask : Nat
  laneSet : Option (Nat × Nat × Nat)
  newEpoch : Option (Nat × Nat)
  /-- Parts of a split message received so far, by channel (R103). -/
  parts : Tbl (List Byte)
  deriving DecidableEq, Repr

/-- A link at reset. -/
def Link.init : Link where
  txSeq := ⟨[]⟩
  rxSeq := ⟨[]⟩
  nextTx := 0
  nextRx := 0
  retained := []
  waiting := []
  epochTx := 0
  epochRx := 0
  cellsUnderKey := 0
  keyed := false
  keying := none
  pausedPrios := 0
  rxMask := 0
  laneSet := none
  newEpoch := none
  parts := ⟨[]⟩

/-- Lanes, MACs and links. `rxPause` (port, priority) ↦ 1 + the edge the received timer expires; `pfcSent` port ↦
1 + the edge of the last PFC or PAUSE sent; `configured` the ports of the port map (R95, R97); `keysDead` after
debug access opened (R107). -/
structure NetSt where
  lanes : Tbl LaneSt
  rxPause : Tbl Nat
  pfcSent : Tbl Nat
  configured : List Nat
  links : Tbl Link
  inbox : List (Nat × PealMsg)
  keysDead : Bool
  /-- The master toward each peer (R446). -/
  masters : Tbl (List Byte)
  /-- Failed key exchanges by link (R446). -/
  keyFails : Tbl Nat
  /-- Ethernet ports are back in the state of R75 while debug access opens (R453). -/
  r75 : Bool
  /-- Pipeline intakes are closed by a trip or by debug access opening (R494, R453). -/
  shut : Bool
  deriving DecidableEq, Repr

/-- Network state at cold reset. -/
def NetSt.init : NetSt where
  lanes := ⟨[]⟩
  rxPause := ⟨[]⟩
  pfcSent := ⟨[]⟩
  configured := []
  links := ⟨[]⟩
  inbox := []
  keysDead := false
  masters := ⟨[]⟩
  keyFails := ⟨[]⟩
  r75 := false
  shut := false

end Sys2Proof.Machine
end

