-- ==== Sys2Proof/Machine/TypesPkt.lean ====
section
/-! DEFINITION. Packets inside the device, parse results, classification results and rule generations (01, 05, 06). -/
namespace Sys2Proof.Machine

/-- A header-stack entry (R129), with the role its state gave it (R125). -/
structure Hdr where
  id : Nat
  off : Nat
  len : Nat
  layer : Nat
  role : Nat
  deriving DecidableEq, Repr

/-- The parse result (R129). `area` is the 128-byte field area, `key` the flow key (R130), `ipOff` the flow layer's
IP header and whether it is IPv6. -/
structure ParseRes where
  stack : List Hdr
  area : List Byte
  flags : Nat
  problem : Option Nat
  payload : Nat
  fragPorts : List Byte
  fragId : Nat
  key : List Byte
  ipOff : Option (Nat × Bool)
  l4Off : Option Nat
  deriving DecidableEq, Repr

/-- The empty parse result. -/
def ParseRes.empty : ParseRes := ⟨[], List.replicate 128 0, 0, none, 0, [], 0, List.replicate 48 0, none, none⟩

/-- A parse in progress (R123): the result so far, state, offset, layer, headers; whether the IP header of the
current layer is IPv6, where its payload ends, and its last next-header byte's protocol; problem layers by flag;
field-area writes as (layer, L4 role, offset, length). -/
structure Walk where
  res : ParseRes
  st : Nat
  off : Nat
  layer : Nat
  ipV6 : Option Bool
  ipEnd : Nat
  protos : List (Nat × Nat)
  fragLayer : Option Nat
  problems : List (Bool × Nat)
  writes : List (Nat × Bool × Nat × Nat)
  deriving DecidableEq, Repr

/-- Flag bits of a parse result (R129). -/
inductive PFlag where
  | depth | lenConflict | lenMismatch | fragFirst | fragLater | outerOnly | unknownHdr | tunnel
  deriving DecidableEq, Repr

/-- Bit number of a parse flag. -/
def PFlag.bit : PFlag → Nat
  | .depth => 0
  | .lenConflict => 1
  | .lenMismatch => 2
  | .fragFirst => 3
  | .fragLater => 4
  | .outerOnly => 5
  | .unknownHdr => 6
  | .tunnel => 7

/-- Whether a parse result carries a flag. -/
def ParseRes.has (r : ParseRes) (f : PFlag) : Bool := bitOf r.flags f.bit

/-- A parse result with a flag set. -/
def ParseRes.set (r : ParseRes) (f : PFlag) : ParseRes := { r with flags := putBit r.flags f.bit true }

/-- What classification gave a packet (R141, R142): rule ID, the action's four words, forwarding handle. -/
structure ClsRes where
  rule : Nat
  action : List Nat
  handle : Option Nat
  deriving DecidableEq, Repr

/-- No classification yet. -/
def ClsRes.none : ClsRes := ⟨0, [], .none⟩

/-- How a descriptor arrived at intake (R17, R122). -/
inductive Arrival where
  | frame | recirc | injected | heldRelease
  deriving DecidableEq, Repr

/-- Where a packet is. -/
inductive Loc where
  /-- Waiting for a segment retry (R315). -/
  | segWait
  /-- Waiting for an intake slot (R17). -/
  | waiting
  /-- In the intake queue. -/
  | intake
  /-- In a parse engine's queue or being parsed. -/
  | engineParse (e : Nat)
  /-- Parsed, in the reorder stage (R120). -/
  | reorder
  /-- Released to classification. -/
  | classify
  /-- Classified stateful, at the Hearth's input. -/
  | hearth
  /-- Waiting in a miss-hold list. -/
  | missHold
  /-- Waiting for the lock of its entry. -/
  | lockWait
  /-- Waiting in a bank's queue (R197). -/
  | bankWait
  /-- Waiting for dispatch to an engine (R218). -/
  | dispatch
  /-- Running on an engine of the pipeline: cluster and engine. -/
  | running (cluster engine : Nat)
  /-- In the egress reorder (R24). -/
  | egress
  /-- In the Ember hold (R395). -/
  | emberHold
  deriving DecidableEq, Repr

/-- A packet (descriptor with its frame). Frame bytes exclude the FCS. `gen` and `slot` hold once it took its intake
slot; `flow` is the (die, record number, reverse direction) of its entry; `miss` the hold reason bookkeeping of the
flow chapter. -/
structure Pkt where
  id : Nat
  port : Nat
  arrival : Arrival
  bytes : List Byte
  rxLen : Nat
  stamp : Stamp
  stepEpoch : Nat
  seg : Option (Nat × Nat)
  prio : Nat
  startState : Nat
  gen : Nat
  slot : Nat
  stamped : Bool
  pass : Nat
  seq : Nat
  order : Nat
  parse : ParseRes
  cls : ClsRes
  hash : Word
  loc : Loc
  tc : Nat
  colour : Nat
  /-- Transmit ring and slot whose inject descriptor it is, until it completes (R425). -/
  txRing : Option (Nat × Nat)
  /-- Its flow entry: die, record number, direction (true: reverse key). -/
  flow : Option (Nat × Nat × Bool)
  /-- Holds the entry lock. -/
  locked : Bool
  /-- Its miss-hold slot: the die and class it counts under (R196). -/
  hold : Option (Nat × Nat)
  /-- Forwarded with no flow entry, its flow writes discarded (R205 policy 0). -/
  stateless : Bool
  /-- Runs that ended in a machine check (R244). -/
  mchecks : Nat
  /-- Left the order of its pair: waited in miss-hold, was held, recirculated or injected (R22). -/
  unordered : Bool
  /-- It waits in miss-hold as the first packet whose routine creates the flow (R198). -/
  creating : Bool
  /-- Its Hearth request is in counter mode (R190). -/
  counter : Bool
  /-- The entry copy it was granted (R191), and the entry's bank, set and way. -/
  copy : Option Img
  entryAt : Option (Nat × Nat × Nat)
  /-- The cluster a replay avoids (R244). -/
  avoid : Option Nat
  /-- What its routine left for the egress reorder: frames of its copies with the queue's flow hash. -/
  frames : List EFrame
  deriving DecidableEq, Repr

/-- State of a pipeline's intake, distributor and parse engines. `waiting` holds new frames by arrival; `side` the
recirculated, injected and released descriptors; `engines` the queue of each parse engine; `held` seq ↦ packet in
the reorder stage. -/
structure PipeSt where
  waiting : List Nat
  side : List Nat
  intake : List Nat
  slotNo : Nat
  sideUsed : Nat
  share : Nat
  portTurn : Nat
  portServed : Nat
  nextSeq : Nat
  releaseSeq : Nat
  rotate : Nat
  queues : Tbl (List Nat)
  gone : List Nat
  clsIn : List Nat
  dispatchQ : List Nat
  deriving DecidableEq, Repr

/-- A pipeline at reset; the share is recirc_share's reset value. -/
def PipeSt.init : PipeSt := ⟨[], [], [], 0, 0, 2, 0, 0, 0, 0, 0, ⟨[]⟩, [], [], []⟩

/-- A versioned entry of a staged table (R164, R166): key, birth, death, data words. -/
structure VEntry where
  tbl : Nat
  key : List Nat
  birth : Nat
  death : Option Nat
  data : List Nat
  deriving DecidableEq, Repr

/-- A rule-table entry (R161): state 1 in use or 2 sweeping; `drained` once every generation that saw it drained
(R175); `scan0`, `scan1` per die 0 no scan begun since, 1 one in progress, 2 one completed in full. -/
structure RuleEntry where
  birth : Nat
  death : Option Nat
  revoke : Bool
  state : Nat
  action : Nat
  scan0 : Nat
  scan1 : Nat
  drained : Bool
  deriving DecidableEq, Repr

/-- A TCAM entry with its shadow (R148–R150). -/
structure TcamEntry where
  key : Nat
  mask : Nat
  prio : Nat
  rule : Nat
  birth : Nat
  death : Option Nat
  slots : Nat
  deriving DecidableEq, Repr

/-- Generation and classification state. `live` oldest first as (generation, slot); `staged` the staged generation
and slot; `tcam` keyed (slice, index); `defective` (slice, index); `restoreAt` slice ↦ index where background restoration
scans next; `falseAt` (slice, index) ↦ 1 + the edge of the last rewrite after a false hit. -/
structure ClsSt where
  live : List (Nat × Nat)
  staged : Option (Nat × Nat)
  entries : List VEntry
  rules : Tbl RuleEntry
  tcam : Tbl TcamEntry
  defective : List (Nat × Nat)
  restoreAt : Tbl Nat
  falseAt : Tbl Nat
  deriving DecidableEq, Repr

/-- Classification state at reset: generation 0 staged in slot 0 (CLS_GEN_STATUS). -/
def ClsSt.init : ClsSt := ⟨[], some (0, 0), [], ⟨[]⟩, ⟨[]⟩, [], ⟨[]⟩, ⟨[]⟩⟩

end Sys2Proof.Machine
end

