-- ==== Sys2Proof/Machine/State.lean ====
section
/-! DEFINITION. The whole state of the block as plain data, and its reset. -/
namespace Sys2Proof.Machine

/-- Everything in the device but the local clock and the command queue. -/
structure Dev where
  /-- Register file: key (register number, flat index), default the reset value. -/
  regs : Tbl Word
  /-- Indirect tables by 64-bit word: key (table, instance or bank, 64 × entry + word), default 0. -/
  tbls : Tbl Nat
  acc : AccessSt
  evt : EvtSt
  msix : MsixSt
  tim : TimSt
  net : NetSt
  bpm : BpmSt
  fifos : Tbl Fifo
  sch : SchSt
  host : HostSt
  /-- Packets in the device by number; the next number; pipelines. -/
  pkts : Tbl Pkt
  nextPkt : Nat
  pipes : Tbl PipeSt
  cls : ClsSt
  tel : TelSt
  flw : FlwSt
  twn : TwnSt
  eng : EngSt
  swp : SwpSt
  nat : NatSt
  roll : RollSt
  fuse : FuseSt
  boot : BootSt
  sec : SecSt
  rel : RelSt
  pwr : PwrSt
  dist : DistSt
  /-- What has left the block, oldest first. -/
  out : List Out
  /-- Draws made from the device's random source and free values. -/
  draws : Nat
  deriving DecidableEq, Repr

/-- The device right after a cold reset with all straps 0 (R61, R82): every register at its reset value, phase 0 entered
at time 0, the fuses as they are. -/
def Dev.cold (f : FuseSt) : Dev where
  regs := ⟨[(⟨Reg.BOOT_PHASE_TIME.num, 0, 0⟩, 0)]⟩
  tbls := ⟨[]⟩
  acc := ⟨⟨[]⟩, ⟨[]⟩, ⟨[]⟩, ⟨[]⟩, [], ⟨[]⟩⟩
  evt := ⟨⟨[]⟩, ⟨[]⟩, ⟨[]⟩⟩
  msix := ⟨⟨[]⟩, []⟩
  tim := TimSt.init
  net := NetSt.init
  bpm := ⟨⟨[]⟩, ⟨[]⟩, []⟩
  fifos := ⟨[]⟩
  sch := ⟨⟨[]⟩, ⟨[]⟩, ⟨[]⟩, ⟨[]⟩, ⟨[]⟩, ⟨[]⟩, ⟨[]⟩, ⟨[]⟩⟩
  host := HostSt.init
  pkts := ⟨[]⟩
  nextPkt := 0
  pipes := ⟨[]⟩
  cls := ClsSt.init
  tel := TelSt.init
  flw := FlwSt.init
  twn := TwnSt.init
  eng := EngSt.init
  swp := SwpSt.init
  nat := NatSt.init
  roll := RollSt.init
  fuse := f
  boot := BootSt.init
  sec := SecSt.init
  rel := RelSt.init
  pwr := PwrSt.init
  dist := DistSt.init
  out := []
  draws := 0

/-- The fuses of a part as it leaves Frealrex (R436, R440): debug slot 0 programmed, every configuration slot empty. -/
def FuseSt.shipped : FuseSt :=
  ⟨Config.fusedSerial, ⟨[]⟩, ⟨[(⟨0, 0, 0⟩, ⟨Config.fusedDebugAnchor, true, false⟩)]⟩, 0⟩

/-- The local clock at the lock of the root PLL (R82). -/
def Clock.zero : Clock := ⟨0, 0, 0, 0, 0, none⟩

/-- The whole state: the commands that wait, the local clock, and the device. -/
structure State where
  /-- Commands that wait, first in first out. -/
  pending : List Instr
  clk : Clock
  dev : Dev
  deriving DecidableEq, Repr

/-- No command faults: the spec names no behaviour that stops the block. -/
inductive Fault where
  deriving DecidableEq, Repr

/-- Why a command is turned away. -/
inductive Refusal where
  /-- Raised by an arm of `exec` whose command has no meaning yet. Safe: the run stops. -/
  | notModelled (mnemonic : String)
  deriving DecidableEq, Repr

/-- The state right after a cold reset. -/
def State.reset : State := ⟨[], Clock.zero, Dev.cold FuseSt.shipped⟩

end Sys2Proof.Machine
end

