-- ==== Sys2Proof/Machine/Time0.lean ====
section
/-! DEFINITION. Arithmetic of the local clock and of stamps (R355, R357, R358, R370). -/
namespace Sys2Proof.Machine

/-- Units of 2^-48 ns in one second. -/
def unitsPerSec : Nat := 1000000000 * 2 ^ 48

/-- The clock's time in units of 2^-48 ns. -/
def Clock.units (c : Clock) : Nat := (c.sec * 1000000000 + c.ns) * 2 ^ 48 + c.frac

/-- The clock set to a time in units of 2^-48 ns, seconds modulo 2^48. -/
def Clock.ofUnits (c : Clock) (u : Int) : Clock :=
  let t := (u % ((unitsPerSec * 2 ^ 48 : Nat) : Int)).toNat
  { c with sec := t / unitsPerSec, ns := t / 2 ^ 48 % 1000000000, frac := t % 2 ^ 48 }

/-- The clock moved by a signed number of units of 2^-48 ns. -/
def Clock.add (c : Clock) (u : Int) : Clock := c.ofUnits (c.units + u)

/-- The TS96 stamp of the clock: the fraction truncated to its upper 16 bits (R357). -/
def Clock.stamp (c : Clock) : Stamp := ⟨c.sec, c.ns, c.frac / 2 ^ 32⟩

/-- A stamp in units of 2^-16 ns, without wrap (R358). -/
def Stamp.units (s : Stamp) : Nat := (s.sec * 1000000000 + s.ns) * 2 ^ 16 + s.frac

/-- The stamp of a number of units of 2^-16 ns, seconds modulo 2^48. -/
def Stamp.ofUnits (u : Int) : Stamp :=
  let t := (u % ((1000000000 * 2 ^ 64 : Nat) : Int)).toNat
  ⟨t / (1000000000 * 2 ^ 16), t / 2 ^ 16 % 1000000000, t % 2 ^ 16⟩

/-- A stamp moved by a signed number of picoseconds (2^-16 ns units, truncated toward zero). -/
def Stamp.addPs (s : Stamp) (ps : Int) : Stamp := Stamp.ofUnits (s.units + ps * 65536 / 1000)

/-- The twelve bytes of a TS96 (R357). -/
def Stamp.bytes (s : Stamp) : List Byte := leBytes 2 s.frac ++ leBytes 4 s.ns ++ leBytes 6 s.sec

/-- TS48 as a 48-bit number: count in [47:16], fraction in [15:0] (R357). -/
def Stamp.ts48 (s : Stamp) : Nat := (s.sec * 1000000000 + s.ns) % 2 ^ 32 * 2 ^ 16 + s.frac

/-- TSDIFF (R224, R358): (a − b) mod 2^48, sign-extended from bit 47. -/
def tsDiff (a b : Nat) : Int :=
  let d : Nat := (a + 2 ^ 48 - b % 2 ^ 48) % 2 ^ 48
  if d < 2 ^ 47 then (d : Int) else (d : Int) - 2 ^ 48

/-- The TIM LO half of a stamp (R383). -/
def Stamp.lo (s : Stamp) : Nat := s.frac % 2 ^ 16 + s.ns % 2 ^ 32 * 2 ^ 16 + s.sec % 2 ^ 16 * 2 ^ 48

/-- The TIM HI half of a stamp (R383). -/
def Stamp.hi (s : Stamp) : Nat := s.sec / 2 ^ 16 % 2 ^ 32

/-- A signed `n`-bit number read from its bits. -/
def signed (n v : Nat) : Int := 
  if v % 2 ^ n < 2 ^ (n - 1) then ((v % 2 ^ n : Nat) : Int) else ((v % 2 ^ n : Nat) : Int) - ((2 ^ n : Nat) : Int)

/-- The `n`-bit pattern of a signed number. -/
def unsigned (n : Nat) (x : Int) : Nat := (x % ((2 ^ n : Nat) : Int)).toNat

/-- Slew units of 2^-48 ns after `n` ticks at `ppm`: ⌊n × r⌋ with r = ppm × 10^-6 × 0.8 ns (R370). -/
def slewUnits (ppm n : Nat) : Nat := n * (ppm * 8 * 2 ^ 48) / 10000000

/-- What the next tick adds for a slew, and the slew after it; `true` when that tick ends the slew (R370). -/
def Slew.tick (w : Slew) : Int × Slew × Bool :=
  let before := slewUnits w.ratePpm w.ticks
  let after := slewUnits w.ratePpm (w.ticks + 1)
  let mag := w.amount.natAbs
  let sign : Int := if w.amount < 0 then -1 else 1
  if mag ≤ after then (sign * (mag - before : Int), { w with ticks := w.ticks + 1 }, true)
  else (sign * (after - before : Int), { w with ticks := w.ticks + 1 }, false)

/-- The slew amount not yet applied, in units of 2^-16 ns (TIM_ADJ_STATUS.remaining), truncated toward zero. -/
def Slew.remaining (w : Slew) : Int :=
  let mag : Int := (w.amount.natAbs : Int) - slewUnits w.ratePpm w.ticks
  let sign : Int := if w.amount < 0 then -1 else 1
  sign * (mag / 2 ^ 32)

/-- One CLK_TIME edge with frequency word `adj` (R355): 0.8 ns + adj × 2^-48 ns plus the slew term; the second
component says whether the slew ended at this tick. 0.8 ns is 4 × 2^48 / 5 units; the fifths carry over. -/
def Clock.tick (c : Clock) (adj : Int) : Clock × Bool :=
  let num := 4 * 2 ^ 48 + c.fifth
  let base : Int := (num / 5 : Nat)
  let c := { c with fifth := num % 5, phys := c.phys + 1 }
  match c.slew with
  | none => (c.add (base + adj), false)
  | some w =>
    let (inc, w', fin) := w.tick
    ((({ c with slew := if fin then none else some w' } : Clock).add (base + adj + inc)), fin)

/-- CLK_TIME edges in a number of nanoseconds (1.25 edges per ns), rounded up. -/
def edgesNs (n : Nat) : Nat := (n * 5 + 3) / 4

/-- CLK_TIME edges in a number of microseconds. -/
def edgesUs (n : Nat) : Nat := n * 1250

/-- CLK_TIME edges in a number of milliseconds. -/
def edgesMs (n : Nat) : Nat := n * 1250000

/-- CLK_TIME edges in a number of seconds. -/
def edgesS (n : Nat) : Nat := n * 1250000000

end Sys2Proof.Machine
end

