-- ==== Sys2Proof/Machine/Ops.lean ====
section
/-! DEFINITION. The named operations every family shares: register fields, counters, outbox, events, interrupts. -/
namespace Sys2Proof.Machine

/-- Reset value of a field of copy `ix`, where the copies differ or the SDT names another source
(R310 pools, R435 event enables and severities, 18_power floors). -/
def FieldInfo.resetAt (fi : FieldInfo) (ix : Nat) : Nat :=
  match fi.fld.reg, fi.fld.lo with
  | .BPM_POOL_CFG, 0 => [0x20000, 0x6000, 0x1000].getD (ix % 3) 0
  | .BPM_POOL_CFG, 20 => [0x1C000, 0x5400, 0xE00].getD (ix % 3) 0
  | .BPM_POOL_CFG, 40 => [0x18000, 0x4800, 0xC00].getD (ix % 3) 0
  | .BPM_POOL_STATUS, 0 => [0x20000, 0x6000, 0x1000].getD (ix % 3) 0
  | .PWR_RAIL_CFG, 6 => if ix == 2 then 0x01E else 0x0FA
  | .EVT_SRC_EN, 0 => (List.range 32).foldl (fun n i => n + bit (Ev.listed (32 * ix + i)) * 2 ^ i) 0
  | .EVT_SRC_CFG, 0 => Ev.sevOfCode ix
  | _, _ => fi.reset

/-- Reset value of copy `ix` of a register. -/
def Reg.resetOf (r : Reg) (ix : Nat) : Word :=
  BitVec.ofNat 64 (r.fields.foldl (fun n fi => n + fi.resetAt ix * 2 ^ fi.fld.lo) 0)

/-- The register number → register table, for the default of a key. -/
def Reg.ofNum (n : Nat) : Option Reg := Reg.all[n]?

/-- Default of the register file: the reset value of the key's register. -/
def regDefault (k : Key) : Word :=
  match Reg.ofNum k.a with
  | some r => r.resetOf k.b
  | none => 0

/-- Raw value of a register copy. -/
def Dev.reg (d : Dev) (r : Reg) (ix : Nat := 0) : Word := (d.regs.find? ⟨r.num, ix, 0⟩).getD (r.resetOf ix)
/-- A register copy written whole, in canonical form. -/
def Dev.setReg (d : Dev) (r : Reg) (ix : Nat) (v : Word) : Dev :=
  { d with regs := if v = r.resetOf ix then d.regs.erase ⟨r.num, ix, 0⟩ else d.regs.put ⟨r.num, ix, 0⟩ v }

/-- Width of a field in bits. -/
def Fld.bits (f : Fld) : Nat := f.hi + 1 - f.lo

/-- A field that lies in a 64-bit register. -/
def Fld.fits (f : Fld) : Bool := f.lo ≤ f.hi && f.hi < 64

/-- Two fields of one register with no bit in common. -/
def Fld.apart (f g : Fld) : Bool := f.hi < g.lo || g.hi < f.lo

/-- Value of a field. -/
def Dev.fld (d : Dev) (f : Fld) (ix : Nat := 0) : Nat := bitsOf (d.reg f.reg ix).toNat f.lo f.bits

/-- Value of a field as a signed number. -/
def Dev.sfld (d : Dev) (f : Fld) (ix : Nat := 0) : Int := signed f.bits (d.fld f ix)

/-- Whether a one-bit field is 1. -/
def Dev.flag (d : Dev) (f : Fld) (ix : Nat := 0) : Bool := d.fld f ix == 1

/-- A field set to a value (modulo its width). -/
def Dev.put (d : Dev) (f : Fld) (ix : Nat) (v : Nat) : Dev :=
  d.setReg f.reg ix (BitVec.ofNat 64 (putBits (d.reg f.reg ix).toNat f.lo f.bits v))

/-- A one-bit field set to a truth value. -/
def Dev.putB (d : Dev) (f : Fld) (ix : Nat) (b : Bool) : Dev := d.put f ix (bit b)

/-- A counter field advanced modulo its width (R40). -/
def Dev.bump (d : Dev) (f : Fld) (ix : Nat) (n : Nat := 1) : Dev := d.put f ix (d.fld f ix + n)

/-- A counter narrower than 64 bits advanced, setting bit `wix` of wrap field `w` at each wrap (R40, R43). -/
def Dev.bumpWrap (d : Dev) (f : Fld) (ix : Nat) (w : Fld) (wix wbit : Nat) : Dev :=
  let wrapped := d.fld f ix + 1 == 2 ^ f.bits
  let d := d.bump f ix
  if wrapped then d.put w wix (putBit (d.fld w wix) wbit true) else d

/-- A capture count advanced, saturating at all ones (R40). -/
def Dev.bumpSat (d : Dev) (f : Fld) (ix : Nat) : Dev := d.put f ix (min (d.fld f ix + 1) (2 ^ f.bits - 1))

/-- A peak field raised to at least `v`. -/
def Dev.peak (d : Dev) (f : Fld) (ix : Nat) (v : Nat) : Dev := d.put f ix (max (d.fld f ix) v)

/-- Live value of a register for the logic of its domain: a CLK_SLOW register's value reaches its logic at the
second CLK_SLOW edge after the write (R46); every other register is read directly. -/
def Dev.live (d : Dev) (r : Reg) (ix : Nat := 0) : Word :=
  if r.slow then (d.acc.slowLive.find? ⟨r.num, ix, 0⟩).getD (r.resetOf ix) else d.reg r ix

/-- Live value of a field. -/
def Dev.liveFld (d : Dev) (f : Fld) (ix : Nat := 0) : Nat := bitsOf (d.live f.reg ix).toNat f.lo f.bits

/-- Word `w` of entry `ix` of a table's instance or bank. -/
def Dev.tw (d : Dev) (t : TableId) (inst ix w : Nat) : Nat := d.tbls.num t.num inst (64 * ix + w)

/-- A table word written. -/
def Dev.setTw (d : Dev) (t : TableId) (inst ix w v : Nat) : Dev :=
  { d with tbls := d.tbls.setNum ⟨t.num, inst, 64 * ix + w⟩ (v % 2 ^ 64) }

/-- A 64-bit counter held in a table, advanced (R40). -/
def Dev.bumpTw (d : Dev) (t : TableId) (inst ix w : Nat) (n : Nat := 1) : Dev :=
  d.setTw t inst ix w (d.tw t inst ix w + n)

/-- Something leaves the block. -/
def Dev.emit (d : Dev) (o : Out) : Dev := { d with out := d.out ++ [o] }

/-- A fresh value of a free source: the value and the device with the draw counted. -/
def Dev.draw {α : Type} (d : Dev) (src : Nat → α) : α × Dev := (src d.draws, { d with draws := d.draws + 1 })

/-! ### MSI-X -/

/-- A vector fires: the message leaves, or the PBA bit is set when the vector is masked (R426, R418). -/
def Dev.fire (d : Dev) (v : Nat) : Dev :=
  if d.flag F.MSIX_DATA_mask v then d.put F.MSIX_PBA_pending 0 (putBit (d.fld F.MSIX_PBA_pending) v true)
  else d.emit (.msix v (d.fld F.MSIX_ADDR_addr v * 4) (d.fld F.MSIX_DATA_data v))

/-- Vector and moderation interval of a ring: kind 0 receive, 1 transmit, 2 event. -/
def Dev.ringVector (d : Dev) (kind n : Nat) : Nat × Nat :=
  match kind with
  | 0 => (d.fld F.HST_RXR_CFG2_vector n, d.fld F.HST_RXR_CFG2_itr_us n)
  | 1 => (d.fld F.HST_TXR_CFG2_vector n, d.fld F.HST_TXR_CFG2_itr_us n)
  | _ => (d.fld F.EVT_RING_CFG2_vector n, d.fld F.EVT_RING_CFG2_itr_us n)

/-- Whether a ring's moderation interval has passed since its last firing (R426). -/
def Dev.itrPassed (d : Dev) (c : Clock) (kind n : Nat) : Bool :=
  let last := d.msix.lastFire.num kind n
  let itr := (d.ringVector kind n).2
  itr == 0 || last == 0 || edgesUs itr ≤ c.phys + 1 - last

/-- A ring's vector fires now. -/
def Dev.fireRing (d : Dev) (c : Clock) (kind n : Nat) : Dev :=
  let d := d.fire (d.ringVector kind n).1
  { d with msix := { lastFire := d.msix.lastFire.put ⟨kind, n, 0⟩ (c.phys + 1),
                     waiting := d.msix.waiting.filter (fun x => x != (kind, n)) } }

/-- A ring signals after a write-back: at once when its interval has passed, else at the interval's end (R426). -/
def Dev.signal (d : Dev) (c : Clock) (kind n : Nat) : Dev :=
  if d.itrPassed c kind n then d.fireRing c kind n
  else if d.msix.waiting.contains (kind, n) then d
  else { d with msix := { d.msix with waiting := d.msix.waiting ++ [(kind, n)] } }

/-! ### Events -/

/-- State of event ring `k`. -/
def Dev.evtRing (d : Dev) (k : Nat) : EvtRing := d.evt.rings.get (fun _ => EvtRing.init) ⟨k, 0, 0⟩

/-- Event ring `k` with a new state. -/
def Dev.setEvtRing (d : Dev) (k : Nat) (r : EvtRing) : Dev :=
  { d with evt := { d.evt with rings := d.evt.rings.set (fun _ => EvtRing.init) ⟨k, 0, 0⟩ r } }

/-- Entries of an event ring. -/
def Dev.evtSize (d : Dev) (k : Nat) : Nat := 2 ^ d.fld F.EVT_RING_CFG_log2_size k

/-- A ring is enabled when enable is 1 and log2_size lies in 6–16 (R433). -/
def Dev.evtEnabled (d : Dev) (k : Nat) : Bool :=
  d.flag F.EVT_RING_CFG_enable k && 6 ≤ d.fld F.EVT_RING_CFG_log2_size k && d.fld F.EVT_RING_CFG_log2_size k ≤ 16

/-- A ring is full when head + 1 = rd, modulo the size (R433). -/
def Dev.evtFull (d : Dev) (k : Nat) : Bool :=
  (d.fld F.EVT_RING_PTR_head k + 1) % d.evtSize k == d.fld F.EVT_RING_PTR_rd k % d.evtSize k

/-- The 32 bytes of an event record (R432). -/
def EventRec.bytes (r : EventRec) : List Byte :=
  let data := (r.data.map (fun p => leBytes ((p.1 + 7) / 8) p.2)).flatten
  let head := r.stamp.bytes ++ leBytes 2 (r.code + r.sev * 2 ^ 11) ++ leBytes 2 r.inst ++ leBytes 1 r.kind ++
    leBytes 1 (min r.lost 255) ++ leBytes 2 r.seq
  head ++ (data ++ List.replicate 11 0).take 11 ++ leBytes 1 (if r.phase then 128 else 0)

/-- A record offered to ring `k` (R433): written, or dropped and counted; `true` when this is the first loss of an
episode on a full ring. -/
def Dev.evtRecord (d : Dev) (c : Clock) (k : Nat) (r : EventRec) : Dev × Bool :=
  if !d.evtEnabled k then (d.bumpWrap F.EVT_RING_STATUS_lost k F.EVT_CNT_WRAP_wrap 0 k, false)
  else if d.evtFull k then
    let first := !(d.evtRing k).episode
    let d := (d.bumpWrap F.EVT_RING_STATUS_lost k F.EVT_CNT_WRAP_wrap 0 k).put F.EVT_RING_STATUS_overflow k 1
    let g := d.evtRing k
    (d.setEvtRing k { g with lossRun := g.lossRun + 1, episode := true }, first)
  else
    let g := d.evtRing k
    let h := d.fld F.EVT_RING_PTR_head k
    let h' := (h + 1) % d.evtSize k
    let addr := d.fld F.EVT_RING_CFG_base k * 4096 + 32 * h
    let rec' := { r with lost := min g.lossRun 255, seq := g.seq, phase := g.phase }
    let d := (d.emit (.event k h addr rec')).put F.EVT_RING_PTR_head k h'
    let g' : EvtRing :=
      { seq := (g.seq + 1) % 65536, phase := if h' == 0 then !g.phase else g.phase, lossRun := 0, episode := false }
    ((d.setEvtRing k g').signal c 2 k, false)

/-- Whether a code's pending bit is set. -/
def Dev.evtPending (d : Dev) (code : Nat) : Bool := bitOf (d.fld F.EVT_PEND_pending (code / 32)) (code % 32)

/-- Whether a code is enabled. -/
def Dev.evtSrcEn (d : Dev) (code : Nat) : Bool := bitOf (d.fld F.EVT_SRC_EN_enable (code / 32)) (code % 32)

/-- Pending bit set, and the kept severity raised to at least this occurrence's (R431). -/
def Dev.pend (d : Dev) (code sev : Nat) : Dev :=
  let kept := if d.evtPending code then max (d.evt.kept.num code) sev else sev
  let d := d.put F.EVT_PEND_pending (code / 32) (putBit (d.fld F.EVT_PEND_pending (code / 32)) (code % 32) true)
  { d with evt := { d.evt with kept := d.evt.kept.setNum ⟨code, 0, 0⟩ kept } }

/-- The severity in force for a code: EVT_SRC_CFG.severity, 5–7 acting as 4. -/
def Dev.evtSeverity (d : Dev) (code : Nat) : Nat := min (d.fld F.EVT_SRC_CFG_severity code) 4

/-- An event is raised (R431): pending set, kept severity updated, and a record written to its ring if the code is
enabled; a first overflow raises EV_EVT_RING_OVERFLOW on ring 0 (R433). `kind` is the instance kind of R432. -/
def Dev.raise (d : Dev) (c : Clock) (e : Ev) (kind inst : Nat) (data : List (Nat × Nat) := [])
    (sev : Option Nat := none) : Dev :=
  let s := sev.getD (d.evtSeverity e.code)
  let d := d.pend e.code s
  if !d.evtSrcEn e.code then d
  else
    let k := d.fld F.EVT_SRC_CFG_ring e.code
    let w := d.evtRecord c k ⟨c.stamp, e.code, s, inst, kind, 0, 0, data, false⟩
    if !w.2 then w.1
    else
      let oc := Ev.EVT_RING_OVERFLOW.code
      let os := w.1.evtSeverity oc
      let d := w.1.pend oc os
      if k == 0 || !d.evtSrcEn oc then d
      else
        let z := d.evtRecord c 0 ⟨c.stamp, oc, os, k, 0, 0, 0, [], false⟩
        if z.2 then z.1.pend oc os else z.1

/-- An event raised at most once per `ms` milliseconds per (code, instance): the limit acts before every step of
R431. -/
def Dev.raiseLim (d : Dev) (c : Clock) (e : Ev) (kind inst : Nat) (data : List (Nat × Nat) := [])
    (ms : Nat := 1) (sev : Option Nat := none) (sub : Nat := 0) : Dev :=
  let last := d.evt.last.num e.code inst sub
  if last != 0 && c.phys + 1 - last < edgesMs ms then d
  else
    let d := { d with evt := { d.evt with last := d.evt.last.put ⟨e.code, inst, sub⟩ (c.phys + 1) } }
    d.raise c e kind inst data sev

/-- The registers the raising of an event may change (R418, R431, R433). -/
def evtRegs : List Reg := [.EVT_PEND, .EVT_RING_STATUS, .EVT_CNT_WRAP, .EVT_RING_PTR, .MSIX_PBA]

/-- EVT_INTN.event (R434): some pending code at or above intn_sev that is enabled or fatal, while intn_en is 1. -/
def Dev.intnEvent (d : Dev) : Bool :=
  d.flag F.EVT_CTRL_intn_en &&
  d.evt.kept.cells.any (fun p =>
    d.evtPending p.1.a && min (d.fld F.EVT_CTRL_intn_sev) 4 ≤ p.2 && (d.evtSrcEn p.1.a || p.2 == 4)) ||
  d.flag F.EVT_CTRL_intn_en && d.fld F.EVT_CTRL_intn_sev == 0 &&
    (List.range 64).any (fun j => d.fld F.EVT_PEND_pending j &&& d.fld F.EVT_SRC_EN_enable j != 0)

/-- INT_N is driven low while any bit of EVT_INTN is 1 (R434). -/
def Dev.intNLow (d : Dev) : Bool :=
  d.intnEvent || d.flag F.EVT_INTN_boot || d.flag F.HST_HOSTLOSS_CTRL_absent

/-! ### Lock capture -/

/-- A violation recorded in GLB_LOCK_CAPTURE (R56): the first after valid was cleared sets the fields, later ones
count only. -/
def Dev.lockCapture (d : Dev) (type req addr : Nat) : Dev :=
  if d.flag F.GLB_LOCK_CAPTURE_valid then d.bumpSat F.GLB_LOCK_CAPTURE_count 0
  else
    ((((d.put F.GLB_LOCK_CAPTURE_valid 0 1).put F.GLB_LOCK_CAPTURE_type 0 type).put
      F.GLB_LOCK_CAPTURE_requester 0 req).put F.GLB_LOCK_CAPTURE_address 0 addr).put F.GLB_LOCK_CAPTURE_count 0 1

/-- A write to a locked, write-once or firmware-owned field is ignored, evented and recorded (R56). -/
def Dev.lockViolation (d : Dev) (c : Clock) (type req addr : Nat) : Dev :=
  (d.lockCapture type req addr).raise c .GLB_LOCK_VIOLATION 0 0 [(27, addr)]

/-- A change to a drain-gated field of an undrained unit is refused, evented and recorded with type 3 (R48). -/
def Dev.notDrained (d : Dev) (c : Clock) (req addr : Nat) : Dev :=
  (d.lockCapture 3 req addr).raise c .GLB_NOT_DRAINED 0 0 [(27, addr)]

/-- A trigger that arrives while its action is busy is ignored and evented (R53 code 5). -/
def Dev.triggerBusy (d : Dev) (c : Clock) (r : Reg) : Dev := d.raise c .GLB_TRIGGER_BUSY 0 0 [(27, r.base)]

/-- Two unordered triggers in one write start neither (R54). -/
def Dev.triggerConflict (d : Dev) (c : Clock) (r : Reg) : Dev := d.raise c .GLB_TRIGGER_CONFLICT 0 0 [(27, r.base)]

/-! ### Performance counters (R301, R302) -/

/-- Whether counter `i` of a die counts a selector's event of instance `inst` and opcode `opc`. -/
def Dev.perfCounts (d : Dev) (ix sel : Nat) (inst opc : Option Nat) : Bool :=
  d.fld F.PRF_CNT_CFG_event ix == sel &&
  (match inst with | some i => bitOf (d.fld F.PRF_CNT_CFG_inst_mask ix) i | none => true) &&
  (match opc with | some o => !d.flag F.PRF_CNT_CFG_opc_en ix || d.fld F.PRF_CNT_CFG_opc ix == o | none => true)

/-- `n` occurrences of a selector's event on a die in one CLK_CORE cycle, added while run is 1. -/
def Dev.perf (d : Dev) (die sel : Nat) (inst opc : Option Nat) (n : Nat := 1) : Dev :=
  if !d.flag F.PRF_CTRL_run then d
  else
    ((d.regs.cells.filter (fun x => x.1.a == Reg.PRF_CNT_CFG.num && x.1.b / 256 == die)).map (fun x => x.1.b)).foldl
      (fun d ix =>
        if !d.perfCounts ix sel inst opc then d
        else if d.flag F.PRF_CNT_CFG_mode ix then
          (if d.fld F.PRF_CNT_CFG_thresh ix ≤ n then d.bump F.PRF_CNT_count ix else d)
        else d.bump F.PRF_CNT_count ix n) d

/-! ### Error codes (R463) -/

/-- Corrected errors of a class of store counted: 0 HBM, 1 Hearth, 2 buffer, 3 datapath, 4 table, 5 core memory. -/
def Dev.ce (d : Dev) (cls : Nat) (n : Nat := 1) : Dev := d.bump F.GLB_ECC_CNT_count (2 * cls) n

/-- SMB_ALERT_N asserted with an in-band interrupt (R502). -/
def Dev.smbAlert (d : Dev) : Dev := ({ d with pwr := { d.pwr with smbAlert := true } }).emit (.pin .smbAlertN false)

/-- An uncorrectable error of a class of store counted and captured with its store code, die and address. -/
def Dev.ue (d : Dev) (cls store die addr : Nat) : Dev :=
  let d := d.bump F.GLB_ECC_CNT_count (2 * cls + 1)
  if d.flag F.GLB_ECC_CAPTURE_valid then d.bumpSat F.GLB_ECC_CAPTURE_count 0
  else (((((d.put F.GLB_ECC_CAPTURE_valid 0 1).put F.GLB_ECC_CAPTURE_store 0 store).put F.GLB_ECC_CAPTURE_die 0
    die).put F.GLB_ECC_CAPTURE_address 0 addr).put F.GLB_ECC_CAPTURE_count 0 1).smbAlert

end Sys2Proof.Machine
end

