-- ==== Sys2Proof/Machine/Mac.lean ====
section
/-! DEFINITION. Ports, MAC and flow control (R92–R99). -/
namespace Sys2Proof.Machine

/-- Board position from the straps (R61). -/
def Dev.boardPos (d : Dev) : Nat := d.fld F.BOOT_STRAPS_board_pos

/-- The peer a Peal link joins: its position, or 4 for the twin on another board (PEL_GROUP_CFG). -/
def Dev.linkPeer (d : Dev) (g : Nat) : Nat :=
  if d.flag F.PEL_GROUP_CFG_cable g then 4 else d.fld F.PEL_GROUP_CFG_peer_pos g

/-- Whether a port number is the Peal port of its lane group (R410). -/
def Dev.pealPort (d : Dev) (p : Nat) : Bool := p % 8 == 0 && d.flag F.PEL_GROUP_CFG_peal_en (p / 8)

/-- Lanes of a port (R95): 1, 2, 4 or 8; of a Peal port, those of its lane mask (R410). -/
def Dev.portLanes (d : Dev) (p : Nat) : Nat :=
  if d.pealPort p then (List.range 8).countP (bitOf (d.fld F.PEL_GROUP_CFG_lane_mask (p / 8)))
  else 2 ^ d.fld F.MAC_PORT_CFG_lanes p

/-- Whether a lane belongs to a configured port (R95). -/
def Dev.portOfLane (d : Dev) (lane : Nat) : Option Nat :=
  d.net.configured.find? (fun p => p ≤ lane && lane < p + d.portLanes p)

/-- Pipeline of a port or lane (R10). -/
def pipeOf (lane : Nat) : Nat := lane / 16

/-- Forwarding die of a port or lane (R10). -/
def dieOf (lane : Nat) : Nat := lane / 256

/-- State of a lane beside its registers. -/
def Dev.lane (d : Dev) (n : Nat) : LaneSt := d.net.lanes.get (fun _ => LaneSt.init) ⟨n, 0, 0⟩

/-- A lane's state set. -/
def Dev.setLane (d : Dev) (n : Nat) (l : LaneSt) : Dev :=
  { d with net := { d.net with lanes := d.net.lanes.set (fun _ => LaneSt.init) ⟨n, 0, 0⟩ l } }

/-- Whether every lane of a port is up and aligned (R98). -/
def Dev.portAligned (d : Dev) (p : Nat) : Bool :=
  (List.range (d.portLanes p)).all (fun i => d.fld F.LANE_STATUS_state (p + i) == 2)

/-- Pause state of a port cleared, transmit and receive (R99). -/
def Dev.clearPause (d : Dev) (p : Nat) : Dev :=
  let d := (d.put F.MAC_PORT_STATUS_pfc_tx p 0).put F.MAC_PORT_STATUS_pfc_rx p 0
  { d with net := { d.net with rxPause := d.net.rxPause.filter (fun k _ => k.a != p) } }

/-- Link state re-evaluated (R98): local fault while enabled and not aligned, link up while enabled, aligned and
without Remote Fault; a change of link_up raises its event. A disabled port has no pause state (R99). -/
def Dev.linkEval (d : Dev) (c : Clock) (p : Nat) (remoteFault : Bool) : Dev :=
  let en := d.flag F.MAC_PORT_CFG_enable p
  let d := if en then d else d.clearPause p
  let aligned := d.portAligned p
  let rf := en && remoteFault
  let up := en && aligned && !rf
  let was := d.flag F.MAC_PORT_STATUS_link_up p
  let d := ((d.putB F.MAC_PORT_STATUS_local_fault p (en && !aligned)).putB F.MAC_PORT_STATUS_remote_fault p
    rf).putB F.MAC_PORT_STATUS_link_up p up
  if up == was then d
  else if up then d.raise c .MAC_LINK_UP 8 p
  else d.raise c .MAC_LINK_DOWN 8 p

/-- Duration of `q` pause units at a port's speed in CLK_TIME edges, rounded up: a unit is 512 bit times (R99). -/
def Dev.pauseEdges (d : Dev) (p q : Nat) : Nat := (q * 512 * 5 + 4 * 200 * d.portLanes p - 1) / (4 * 200 * d.portLanes p)

/-- The timer quanta a port sends (0 acts as 1). -/
def Dev.quanta (d : Dev) (p : Nat) : Nat := max (d.fld F.MAC_PFC_CTRL_quanta p) 1

/-- A PFC or PAUSE frame leaves a port with the given (priority, timer) pairs; pfc_tx and the resend time follow. A port
whose link is down sends nothing, and its resend is due when the link returns (R98, R99). -/
def Dev.pfcEmit (d : Dev) (c : Clock) (p : Nat) (pfc : Bool) (timers : List (Nat × Nat)) : Dev :=
  let mask := timers.foldl (fun m t => putBit m t.1 (t.2 != 0)) (d.fld F.MAC_PORT_STATUS_pfc_tx p)
  let d := d.put F.MAC_PORT_STATUS_pfc_tx p mask
  let sent := fun (d : Dev) (t : Nat) => { d with net := { d.net with pfcSent := d.net.pfcSent.put ⟨p, 0, 0⟩ t } }
  if d.flag F.MAC_PORT_STATUS_link_up p then sent (d.emit (.macControl p pfc timers)) (c.phys + 1)
  else sent d 1

/-- What a port of pipeline `i` sends when its early warnings go from `was` to `now` (per priority) (R99). -/
def Dev.pfcCross (d : Dev) (c : Clock) (p : Nat) (was now : List Bool) : Dev :=
  if !d.flag F.MAC_PORT_CFG_enable p then d
  else match d.fld F.MAC_PORT_CFG_fc_mode p with
    | 2 =>
      let gen := d.fld F.MAC_PORT_CFG_pfc_gen_mask p
      let ch := (List.range 8).filter (fun q => bitOf gen q && was.getD q false != now.getD q false)
      if ch.isEmpty then d
      else d.pfcEmit c p true (ch.map (fun q => (q, if now.getD q false then d.quanta p else 0)))
    | 1 =>
      let w := was.any id
      let n := now.any id
      if w == n then d else d.pfcEmit c p false [(0, if n then d.quanta p else 0)]
    | _ => d

/-- Whether a priority is paused by the partner (R99); under PAUSE one timer covers all. -/
def Dev.prioPaused (d : Dev) (p q : Nat) : Bool := bitOf (d.fld F.MAC_PORT_STATUS_pfc_rx p) q

/-- A received timer takes effect on a priority: paused for the time, or resumed by 0 (R99). -/
def Dev.rxTimer (d : Dev) (c : Clock) (p : Nat) (qt : Nat × Nat) : Dev :=
  let mask := putBit (d.fld F.MAC_PORT_STATUS_pfc_rx p) qt.1 (qt.2 != 0)
  let d := d.put F.MAC_PORT_STATUS_pfc_rx p mask
  let t := if qt.2 == 0 then 0 else c.phys + d.pauseEdges p qt.2 + 1
  { d with net := { d.net with rxPause := d.net.rxPause.setNum ⟨p, qt.1, 0⟩ t } }

/-- A received MAC control frame (R99): PAUSE (opcode 0x0001) acts on a PAUSE port, PFC (opcode 0x0101) on a PFC
port for its enabled priorities; every other one is counted without effect. -/
def Dev.macControl (d : Dev) (c : Clock) (p : Nat) (opcode : Nat) (timers : List (Nat × Nat)) : Dev :=
  let cnt := fun (d : Dev) (k : Nat) => d.bump F.MAC_CTL_CNT_frames (3 * p + k)
  let mode := d.fld F.MAC_PORT_CFG_fc_mode p
  if opcode == 1 && mode == 1 then
    let t := (timers.head?.map Prod.snd).getD 0
    cnt ((List.range 8).foldl (fun d q => d.rxTimer c p (q, t)) d) 0
  else if opcode == 0x101 && mode == 2 then
    let en := d.fld F.MAC_PFC_CTRL_rx_prio_enable p
    let act := timers.filter (fun t => t.1 < 8 && bitOf en t.1)
    if act.isEmpty then cnt d 1 else cnt (act.foldl (fun d t => d.rxTimer c p t) d) 0
  else cnt d 2

/-- A received timer that has run out resumes its priority (R99). -/
def Dev.pauseExpire (d : Dev) (c : Clock) (p q : Nat) : Dev :=
  let t := d.net.rxPause.num p q
  if t != 0 && t ≤ c.phys + 1 then d.rxTimer c p (q, 0) else d

/-- While priorities stay asserted, PFC is resent every quanta ÷ 2 pause units (R99). -/
def Dev.pfcResend (d : Dev) (c : Clock) (p : Nat) : Dev :=
  let mask := d.fld F.MAC_PORT_STATUS_pfc_tx p
  let last := d.net.pfcSent.num p
  if mask != 0 && last != 0 && d.flag F.MAC_PORT_STATUS_link_up p && d.pauseEdges p (d.quanta p / 2) ≤ c.phys + 1 - last then
    let on := (List.range 8).filter (bitOf mask)
    d.pfcEmit c p (d.fld F.MAC_PORT_CFG_fc_mode p == 2) (on.map (fun q => (q, d.quanta p)))
  else d

/-- Whether a MAC_PORT_CFG of port `p` with `n` lanes is invalid (R96): off its multiple, overlapping an enabled
port, or on a lane of a Peal-mode group. -/
def Dev.portCfgInvalid (d : Dev) (p n : Nat) : Bool :=
  p % n != 0 ||
  d.net.configured.any (fun q => q != p && d.flag F.MAC_PORT_CFG_enable q && q < p + n && p < q + d.portLanes q) ||
  d.flag F.PEL_GROUP_CFG_peal_en (p / 8)

end Sys2Proof.Machine
end

