-- ==== Sys2Proof/Machine/Gates.lean ====
section
/-! DEFINITION. Time gates (R349–R354). Instants and lengths in units of 2^-16 ns. Port k is flat index k of the
SCH port registers. -/
namespace Sys2Proof.Machine

/-- Nanoseconds in units of 2^-16 ns. -/
def nsUnits (n : Nat) : Nat := n * 65536

/-- State of a port's gates. -/
def Dev.gate (d : Dev) (p : Nat) : GateSt := d.sch.gates.get (fun _ => ⟨none, none⟩) ⟨p, 0, 0⟩

/-- A port's gates set. -/
def Dev.setGate (d : Dev) (p : Nat) (g : GateSt) : Dev :=
  { d with sch := { d.sch with gates := d.sch.gates.set (fun _ => ⟨none, none⟩) ⟨p, 0, 0⟩ g } }

/-- Entry `i` of a port's gate bank: gates and interval (0 acts as 1) (R350). -/
def Dev.gateEntry (d : Dev) (p bank i : Nat) : Nat × Nat :=
  let w := d.tw .SCH_GATE_TBL p (1024 * bank + i) 0
  (bitsOf w 0 8, nsUnits (max (bitsOf w 8 32) 1))

/-- The (entry, gates, length) segments of one cycle: cut at the cycle end, the last entry held to it (R350). -/
def Dev.gateSegs (d : Dev) (p : Nat) (l : GateList) : Nat → Nat → Nat → List (Nat × Nat × Nat)
  | 0, _, _ => []
  | n + 1, i, t =>
    let (g, len) := d.gateEntry p l.bank i
    if l.cycle ≤ t then []
    else if n == 0 || l.cycle ≤ t + len then [(i, g, l.cycle - t)]
    else (i, g, len) :: d.gateSegs p l n (i + 1) (t + len)

/-- The segments of a list's cycle from its start. -/
def Dev.gateCycle (d : Dev) (p : Nat) (l : GateList) : List (Nat × Nat × Nat) := d.gateSegs p l l.count 0 0

/-- Phase of an instant in a list's cycle. -/
def GateList.phase (l : GateList) (now : Nat) : Nat := ((now : Int) - l.base).emod (l.cycle : Int) |>.toNat

/-- The segment in force at a phase: entry and gates. -/
def segAt : List (Nat × Nat × Nat) → Nat → Nat × Nat
  | [], _ => (0, 0xFF)
  | [(i, g, _)], _ => (i, g)
  | (i, g, len) :: t, ph => if ph < len then (i, g) else segAt t (ph - len)

/-- The last segment: entry and gates, held while a cycle is extended. -/
def segLast : List (Nat × Nat × Nat) → Nat × Nat
  | [] => (0, 0xFF)
  | [(i, g, _)] => (i, g)
  | _ :: t => segLast t

/-- Whether the operating list is being held past a boundary B toward a change instant T: 0 < T − B ≤ ext (R352). -/
def GateSt.extended (g : GateSt) (now : Nat) : Bool :=
  match g.oper, g.pend with
  | some o, some (n, t) =>
    let gap := o.phase t
    0 < gap && gap ≤ nsUnits n.ext && t - gap ≤ now && now < t
  | _, _ => false

/-- Entry and gate states in force at an instant (R350–R352). -/
def Dev.gatesNow (d : Dev) (p now : Nat) : Nat × Nat :=
  match (d.gate p).oper with
  | none => (0, 0xFF)
  | some o =>
    if !d.flag F.SCH_GATE_CTRL_enable p then (0, 0xFF)
    else if (d.gate p).extended now then segLast (d.gateCycle p o) else segAt (d.gateCycle p o) (o.phase now)

/-- Status of a port's gates follows the instant. -/
def Dev.gateRefresh (d : Dev) (c : Clock) (p : Nat) : Dev :=
  let (e, g) := d.gatesNow p c.stamp.units
  (d.put F.SCH_GATE_STATUS_entry p e).put F.SCH_GATE_STATUS_gates p g

/-- The entry in force recomputed on every port after a step of the clock (R351). -/
def Dev.gatesRecompute (d : Dev) (c : Clock) : Dev :=
  (d.sch.gates.cells.map (fun x => x.1.a)).foldl (fun d p => d.gateRefresh c p) d

/-- Whether the gate of a traffic class is open in a segment. -/
def gateOpen (gates tc : Nat) : Bool := bitOf gates tc

/-- Open time from a phase, walking the segments of a cycle and then of the next one: `none` while nothing closed. -/
def openRun (tc : Nat) : List (Nat × Nat × Nat) → Nat → Nat → Nat × Bool
  | [], _, acc => (acc, false)
  | (_, g, len) :: t, ph, acc =>
    if len ≤ ph then openRun tc t (ph - len) acc
    else if gateOpen g tc then openRun tc t 0 (acc + (len - ph))
    else (acc, true)

/-- The longest open interval of one cycle, joining an interval that runs to the cycle end with one that starts it
(R354), in nanoseconds: 0 never opens, 0xFFFF_FFFF never closes. -/
def longestOpen (tc : Nat) (segs : List (Nat × Nat × Nat)) : Nat :=
  if segs.all (fun s => gateOpen s.2.1 tc) then 0xFFFFFFFF
  else
    let step := fun (r : Nat × Nat) (s : Nat × Nat × Nat) =>
      if gateOpen s.2.1 tc then (r.1 + s.2.2, max r.2 (r.1 + s.2.2)) else (0, r.2)
    ((segs ++ segs).foldl step (0, 0)).2 / 65536

/-- The pending list written by the host, as read at go (R352). -/
def Dev.gateWritten (d : Dev) (p : Nat) : GateList where
  bank := 1 - d.fld F.SCH_GATE_STATUS_oper_bank p
  base := (d.fld F.SCH_GATE_CFG_base_s p * 1000000000 + min (d.fld F.SCH_GATE_TIME_base_ns p) 999999999) * 65536
  cycle := nsUnits (min (max (d.fld F.SCH_GATE_TIME_cycle_ns p) 100) 1000000000)
  count := min (max (d.fld F.SCH_GATE_CFG_count p) 1) 1024
  ext := d.fld F.SCH_GATE_CTRL_ext_ns p

/-- The first instant base + N × cycle at or after `t` (R352). -/
def GateList.firstFrom (l : GateList) (t : Nat) : Nat :=
  if t ≤ l.base then l.base else l.base + (t - l.base + l.cycle - 1) / l.cycle * l.cycle

/-- The written bank becomes pending with change instant T; a go while pending is busy (R352). -/
def Dev.gateGo (d : Dev) (c : Clock) (p : Nat) : Dev :=
  if d.flag F.SCH_GATE_STATUS_pending p then d.triggerBusy c .SCH_GATE_CTRL
  else
    let l := d.gateWritten p
    let t := l.firstFrom (c.stamp.units + nsUnits 10000)
    let d := d.setGate p { d.gate p with pend := some (l, t) }
    let d := (d.put F.SCH_GATE_CHANGE_t_s p (t / 65536 / 1000000000)).put F.SCH_GATE_CHANGE_t_ns p
      (t / 65536 % 1000000000)
    d.put F.SCH_GATE_STATUS_pending p 1

/-- The pending list cancelled (R352). -/
def Dev.gateAbort (d : Dev) (p : Nat) : Dev :=
  (d.setGate p { d.gate p with pend := none }).put F.SCH_GATE_STATUS_pending p 0

/-- enable = 0: the pending list cancelled, the operating list ended, every gate open (R352). -/
def Dev.gateDisable (d : Dev) (p : Nat) : Dev :=
  let d := (d.gateAbort p).put F.SCH_GATE_CTRL_enable p 0
  let d := (d.setGate p ⟨none, none⟩).put F.SCH_GATE_STATUS_operating p 0
  let d := (d.put F.SCH_GATE_STATUS_gates p 0xFF).put F.SCH_GATE_STATUS_entry p 0
  (List.range 8).foldl (fun d tc => d.put F.SCH_GATE_MAXOPEN_ns (8 * p + tc) 0xFFFFFFFF) d

/-- At T the banks swap, pending clears, and the list operates (R352, R354). -/
def Dev.gateTakeover (d : Dev) (c : Clock) (p : Nat) : Dev :=
  match (d.gate p).pend with
  | none => d
  | some (l, t) =>
    if c.stamp.units < t then d
    else
      let d := d.setGate p ⟨some l, none⟩
      let d := ((d.put F.SCH_GATE_STATUS_pending p 0).put F.SCH_GATE_STATUS_operating p 1).put
        F.SCH_GATE_STATUS_oper_bank p l.bank
      let segs := d.gateCycle p l
      let d := (List.range 8).foldl (fun d tc => d.put F.SCH_GATE_MAXOPEN_ns (8 * p + tc) (longestOpen tc segs)) d
      (d.gateRefresh c p).raise c .SCH_GATE_TAKEOVER 8 p

/-- Time left before the gate of a class next closes: `none` when it never closes (R353). -/
def Dev.gateLeft (d : Dev) (p now tc : Nat) : Option Nat :=
  match (d.gate p).oper, d.flag F.SCH_GATE_CTRL_enable p with
  | none, _ => none
  | some _, false => none
  | some o, true =>
    let segs := d.gateCycle p o
    if !gateOpen (d.gatesNow p now).2 tc then some 0
    else
      let ext := (d.gate p).extended now
      let (run, closed) := if ext then (0, false) else openRun tc (segs ++ segs) (o.phase now) 0
      match (d.gate p).pend with
      | none => if closed then some run else none
      | some (n, t) =>
        if closed && now + run < t then some run
        else
          let nsegs := d.gateCycle p n
          let (r2, closed2) := openRun tc (nsegs ++ nsegs) (n.phase t) 0
          if closed2 then some (t - now + r2) else none

end Sys2Proof.Machine
end

