-- ==== Sys2Proof/Machine/Peal.lean ====
section
/-! DEFINITION. Peal links: cells, messages, lane sets and states (R100–R110, R115). Link g is lane group g, lanes 8g to
8g + 7. -/
namespace Sys2Proof.Machine

/-- A link beside its registers. -/
def Dev.link (d : Dev) (g : Nat) : Link := d.net.links.get (fun _ => Link.init) ⟨g, 0, 0⟩

/-- A link's state set. -/
def Dev.setLink (d : Dev) (g : Nat) (l : Link) : Dev :=
  { d with net := { d.net with links := d.net.links.set (fun _ => Link.init) ⟨g, 0, 0⟩ l } }

/-- State of a link (R108). -/
def Dev.linkState (d : Dev) (g : Nat) : Nat := d.fld F.PEL_LINK_STATUS_state g

/-- Whether a link is up, whole or degraded. -/
def Dev.linkUp (d : Dev) (g : Nat) : Bool := d.linkState g == 4 || d.linkState g == 5

/-- Numbers of the set bits of an 8-bit mask, rising. -/
def maskLanes (m : Nat) : List Nat := (List.range 8).filter (bitOf m)

/-- A change of link state with its events (R108). -/
def Dev.setLinkState (d : Dev) (c : Clock) (g s : Nat) : Dev :=
  let was := d.linkState g
  let d := d.put F.PEL_LINK_STATUS_state g s
  if s == was then d
  else if s == 4 || s == 5 then d.raise c .PEL_LINK_UP 10 g [(6, g)]
  else if s == 0 then d.raise c .PEL_LINK_DOWN 10 g [(6, g)]
  else d

/-- Lane that carries the next cell: the least of the set at or after `n`, else the least of all (R105). -/
def nextLane (mask n : Nat) : Nat := ((maskLanes mask).find? (fun i => n ≤ i)).getD ((maskLanes mask).headD 0)

/-- Unacknowledged cells of a lane. -/
def Link.unacked (l : Link) (lane : Nat) : Nat := l.retained.countP (fun r => r.lane == lane)

/-- Cell kind on a link (R102): boot mode 3, key exchange 2 while keying, else the key epoch. -/
def Dev.cellKind (d : Dev) (g : Nat) : Nat :=
  if d.linkState g == 6 then 3 else if d.linkState g == 3 then 2 else (d.link g).epochTx

/-- A message put into a cell of the next lane, when that lane's window of 16 has room (R105, R106). -/
def Dev.sendCell (d : Dev) (c : Clock) (g : Nat) (m : PealMsg) : Dev :=
  let l := d.link g
  let mask := d.fld F.PEL_LINK_STATUS_lanes_up g
  let lane := nextLane mask l.nextTx
  let seq := l.txSeq.num lane
  let cell : Cell := ⟨d.cellKind g, seq, (l.rxSeq.num lane + 2047) % 2048, [m]⟩
  let l := { l with txSeq := l.txSeq.setNum ⟨lane, 0, 0⟩ ((seq + 1) % 2048), nextTx := (lane + 1) % 8,
                    retained := l.retained ++ [⟨lane, cell, c.phys⟩], cellsUnderKey := l.cellsUnderKey + 1 }
  ((d.setLink g l).bump F.PEL_CELL_CNT_cells (4 * g)).emit (.cell (8 * g + lane) cell)

/-- Whether the next lane of a link has room in its window. -/
def Dev.windowRoom (d : Dev) (g : Nat) : Bool :=
  let mask := d.fld F.PEL_LINK_STATUS_lanes_up g
  mask != 0 && (d.link g).unacked (nextLane mask (d.link g).nextTx) < 16

/-- Waiting messages enter cells while the window has room. -/
def Dev.drainLink (d : Dev) (c : Clock) (g : Nat) : Nat → Dev
  | 0 => d
  | n + 1 =>
    match (d.link g).waiting with
    | [] => d
    | m :: rest =>
      if !d.windowRoom g then d
      else ((d.setLink g { d.link g with waiting := rest }).sendCell c g m).drainLink c g n

/-- The parts of a message that exceeds a cell's 5,120 bytes: at most 5,112 of body each (R103). -/
def splitBody : Nat → List Byte → List (List Byte)
  | 0, bs => [bs]
  | n + 1, bs => if bs.length ≤ 5112 then [bs] else bs.take 5112 :: splitBody n (bs.drop 5112)

/-- Part codes of the pieces of a message. -/
def partsOf (m : PealMsg) : List PealMsg :=
  match splitBody 8 m.body with
  | [b] => [{ m with body := b, part := 0 }]
  | bs =>
    let n := bs.length
    (List.range n).map (fun i =>
      { m with body := bs.getD i [], part := if i == 0 then 1 else if i + 1 == n then 3 else 2 })

/-- Whether a channel may send on a link now (R107, R109). -/
def Dev.mayTalk (d : Dev) (g ch : Nat) : Bool :=
  if d.net.keysDead then false else d.linkUp g || (d.linkState g == 6 && 6 ≤ ch) || (d.linkState g == 3 && ch == 15)

/-- A message sent on a link: into the cells of its lanes, or waiting for a window place (R103, R105, R106). -/
def Dev.pealSend (d : Dev) (c : Clock) (g : Nat) (m : PealMsg) : Dev :=
  if !d.mayTalk g m.channel then d
  else
    let l := d.link g
    let d := d.setLink g { l with waiting := l.waiting ++ partsOf m }
    d.drainLink c g (d.link g).waiting.length

/-- Cells sent and not acknowledged for the resend time go again with every later cell (R106). -/
def Dev.cellResend (d : Dev) (c : Clock) (g : Nat) : Dev :=
  let l := d.link g
  let limit := if d.linkState g == 6 then edgesUs 16 else edgesUs 2
  match l.retained with
  | [] => d
  | r :: _ =>
    if c.phys - r.endedAt < limit then d
    else
      let again := l.retained
      let d := d.setLink g { l with retained := again.map (fun r => { r with endedAt := c.phys }) }
      again.foldl (fun d r => (d.bump F.PEL_CELL_CNT_cells (4 * g + 2)).emit (.cell (8 * g + r.lane) r.cell)) d

/-- Sequence numbers acknowledged: `ack` covers seq when seq lies at most a window behind it. -/
def covers (ack seq : Nat) : Bool := (ack + 2048 - seq) % 2048 < 1024

/-- Whether a message's channel or type is reserved (R103, R104). -/
def PealMsg.reserved (m : PealMsg) : Bool :=
  7 < m.channel || (m.channel == 2 && bitsOf m.header 8 2 == 3) || (m.channel == 5 && m.header % 4 == 3) ||
  (m.channel == 7 && 2 < m.header % 16)

/-- A message of a received cell: parts joined, a reserved one discarded and counted, others to the inbox. -/
def Dev.takeMessage (d : Dev) (g : Nat) (m : PealMsg) : Dev :=
  if m.reserved then d.bump F.PEL_CELL_CNT_cells (4 * g + 3)
  else
    let l := d.link g
    let got := l.parts.get (fun _ => []) ⟨m.channel, 0, 0⟩
    let put := fun (bs : List Byte) => { l with parts := l.parts.set (fun _ => []) ⟨m.channel, 0, 0⟩ bs }
    let deliver := fun (d : Dev) (bs : List Byte) =>
      { d with net := { d.net with inbox := d.net.inbox ++ [(g, { m with body := bs, part := 0 })] } }
    match m.part with
    | 0 => deliver d m.body
    | 1 => d.setLink g (put m.body)
    | 2 => d.setLink g (put (got ++ m.body))
    | _ => deliver (d.setLink g (put [])) (got ++ m.body)

/-- The oldest message of a link's channel leaves the inbox, when its own step takes it. -/
def Dev.takeInbox (d : Dev) (g ch : Nat) : Dev :=
  { d with net := { d.net with inbox := d.net.inbox.eraseP (fun x => x.1 == g && x.2.channel == ch) } }

/-- The lane set and key epoch that take effect at a named cell of the lowest lane (R104). -/
def Dev.atCell (d : Dev) (g lane seq : Nat) : Dev :=
  let l := d.link g
  if lane != nextLane l.rxMask 0 then d
  else
    let l := match l.laneSet with
      | some (mask, _, s) => if s == seq then { l with rxMask := mask, laneSet := none } else l
      | none => l
    let l := match l.newEpoch with
      | some (e, s) => if s == seq then { l with epochRx := e, newEpoch := none } else l
      | none => l
    d.setLink g l

/-- A received cell (R102, R105, R106): `good` when FEC and tag verify. Only the next cell of the link's order is
taken; a bad cell and every later one until it arrives are discarded. -/
def Dev.cellReceive (d : Dev) (c : Clock) (g lane : Nat) (cell : Cell) (good : Bool) : Dev :=
  if d.linkState g == 0 then d
  else if !good then d.bump F.PEL_CELL_CNT_cells (4 * g + 1)
  else
    let d := d.atCell g lane cell.seq
    let l := d.link g
    let due := nextLane l.rxMask l.nextRx
    if lane != due || cell.seq != l.rxSeq.num lane then d
    else
      let retained := l.retained.filter (fun r => !(r.lane == lane && covers cell.ack r.cell.seq))
      let l := { l with rxSeq := l.rxSeq.setNum ⟨lane, 0, 0⟩ ((cell.seq + 1) % 2048), nextRx := (lane + 1) % 8,
                        retained := retained }
      let d := cell.msgs.foldl (fun d m => d.takeMessage g m) (d.setLink g l)
      d.drainLink c g (d.link g).waiting.length

/-! ### Link control (R104, R107, R411) -/

/-- Whether a named cell has already been received on a lane. -/
def Link.passed (l : Link) (lane seq : Nat) : Bool := covers ((l.rxSeq.num lane + 2047) % 2048) seq

/-- A lane-set message: the set applies at the named cell, or at the next boundary with a confirmation back when
that cell has passed (R104). -/
def Dev.laneSetMessage (d : Dev) (c : Clock) (g mask spare seq : Nat) : Dev :=
  let d := d.takeInbox g 7
  let l := d.link g
  if l.passed (nextLane mask 0) seq then
    (d.setLink g { l with rxMask := mask, laneSet := none }).pealSend c g
      ⟨7, 0, leBytes 1 mask ++ leBytes 1 spare ++ leBytes 2 (l.rxSeq.num (nextLane mask 0)) ++ leBytes 4 0, 0⟩
  else d.setLink g { l with laneSet := some (mask, spare, seq) }

/-- A key-epoch message, likewise (R104, R107). -/
def Dev.keyEpochMessage (d : Dev) (c : Clock) (g epoch seq : Nat) : Dev :=
  let d := d.takeInbox g 7
  let l := d.link g
  let low := nextLane (d.fld F.PEL_GROUP_CFG_lane_mask g) 0
  if l.passed low seq then
    (d.setLink g { l with epochRx := epoch, newEpoch := none }).pealSend c g
      ⟨7, 2, leBytes 1 epoch ++ leBytes 1 0 ++ leBytes 2 (l.rxSeq.num low) ++ leBytes 4 0, 0⟩
  else d.setLink g { l with newEpoch := some (epoch, seq) }

/-- A pause-state message sets which priorities this sender must stop starting (R104, R411). -/
def Dev.pauseStateMessage (d : Dev) (g mask : Nat) : Dev :=
  let d := d.takeInbox g 7
  d.setLink g { d.link g with pausedPrios := mask % 256 }

/-- The link changes to the other key epoch at a cell boundary it announces (R107). -/
def Dev.keyEpochChange (d : Dev) (c : Clock) (g : Nat) : Dev :=
  if !d.linkUp g then d
  else
    let l := d.link g
    let low := nextLane (d.fld F.PEL_GROUP_CFG_lane_mask g) 0
    let e := 1 - l.epochTx % 2
    let d := d.pealSend c g ⟨7, 2, leBytes 1 e ++ leBytes 1 0 ++ leBytes 2 ((l.txSeq.num low + 1) % 2048) ++ leBytes 4 0, 0⟩
    d.setLink g { d.link g with epochTx := e, cellsUnderKey := 0 }

/-! ### Lane sets (R100, R115, R116) -/

/-- Whether a group's Peal configuration breaks R100: masks overlap, more than two spares, or no lane. -/
def Dev.pealCfgInvalid (d : Dev) (g : Nat) : Bool :=
  let m := d.fld F.PEL_GROUP_CFG_lane_mask g
  let s := d.fld F.PEL_GROUP_CFG_spare_mask g
  (m &&& s) != 0 || 2 < (maskLanes s).length || m == 0

/-- A new transmit lane set announced on channel 7; unacknowledged cells of lanes that left it are sent again on the
new set (R104, R115). -/
def Dev.newLaneSet (d : Dev) (c : Clock) (g mask spares : Nat) : Dev :=
  let d := (d.put F.PEL_LINK_STATUS_lanes_up g mask).put F.PEL_LINK_STATUS_spares_idle g spares
  if mask == 0 then d
  else
    let low := nextLane mask 0
    let seq := (d.link g).txSeq.num low
    let d := d.pealSend c g ⟨7, 0, leBytes 1 mask ++ leBytes 1 spares ++ leBytes 2 seq ++ leBytes 4 0, 0⟩
    let l := d.link g
    let lost := l.retained.filter (fun r => !bitOf mask r.lane)
    let d := d.setLink g { l with retained := l.retained.filter (fun r => bitOf mask r.lane),
                                  waiting := (lost.map (fun r => r.cell.msgs)).flatten ++ l.waiting }
    d.drainLink c g (d.link g).waiting.length

/-- State 4 or 5 of a link by its lanes, or 0 when none is left (R108, R115). -/
def Dev.linkByLanes (d : Dev) (c : Clock) (g : Nat) : Dev :=
  let up := (maskLanes (d.fld F.PEL_LINK_STATUS_lanes_up g)).length
  let want := (maskLanes (d.fld F.PEL_GROUP_CFG_lane_mask g)).length
  if up == 0 then d.setLinkState c g 0
  else if up < want then d.setLinkState c g 5
  else d.setLinkState c g 4

/-- A Peal lane leaves the set: an idle spare takes its position, or the link goes on without it (R112, R115).
Answers whether a spare came in. -/
def Dev.laneOut (d : Dev) (c : Clock) (g i : Nat) : Dev × Bool :=
  let up := d.fld F.PEL_LINK_STATUS_lanes_up g
  let spares := d.fld F.PEL_LINK_STATUS_spares_idle g
  if !bitOf up i then (d.put F.PEL_LINK_STATUS_spares_idle g (putBit spares i false), false)
  else match (maskLanes spares).head? with
    | some s =>
      ((d.newLaneSet c g (putBit (putBit up i false) s true) (putBit spares s false)).linkByLanes c g, true)
    | none => ((d.newLaneSet c g (putBit up i false) spares).linkByLanes c g, false)

/-- A Peal lane that trained or recalibrated comes back: it takes the position a degraded link lacks, else it is an
idle spare (R112, R116). -/
def Dev.laneIn (d : Dev) (c : Clock) (g i : Nat) : Dev :=
  let up := d.fld F.PEL_LINK_STATUS_lanes_up g
  let spares := d.fld F.PEL_LINK_STATUS_spares_idle g
  let failed := putBit (d.fld F.PEL_LINK_STATUS_failed g) i false
  let d := d.put F.PEL_LINK_STATUS_failed g failed
  if d.linkState g == 5 then (d.newLaneSet c g (putBit up i true) spares).linkByLanes c g
  else d.put F.PEL_LINK_STATUS_spares_idle g (putBit spares i true)

/-- A link goes down: nothing waits, nothing is retained, its keys are gone. -/
def Dev.linkDown (d : Dev) (c : Clock) (g : Nat) : Dev :=
  let d := (d.put F.PEL_LINK_STATUS_lanes_up g 0).setLinkState c g 0
  d.setLink g Link.init

/-- A keyed and aligned link comes up on its trained lanes (R108). -/
def Dev.linkComeUp (d : Dev) (c : Clock) (g : Nat) : Dev :=
  let trained := fun (i : Nat) => d.fld F.LANE_STATUS_state (8 * g + i) == 2
  let maskOf := fun (l : List Nat) => l.foldl (fun m i => putBit m i true) 0
  let up := maskOf ((maskLanes (d.fld F.PEL_GROUP_CFG_lane_mask g)).filter trained)
  let spares := maskOf ((maskLanes (d.fld F.PEL_GROUP_CFG_spare_mask g)).filter trained)
  let d := (d.put F.PEL_LINK_STATUS_lanes_up g up).put F.PEL_LINK_STATUS_spares_idle g spares
  let l := d.link g
  (d.setLink g { l with rxMask := up, keyed := true, keying := none, cellsUnderKey := 0 }).linkByLanes c g

/-- A link reaches keying (R108); a later link to a peer whose master is known derives its key without a new exchange
(R446). -/
def Dev.toKeying (d : Dev) (c : Clock) (g : Nat) : Dev :=
  let d := (d.setLinkState c g 2).setLinkState c g 3
  if (d.net.masters.find? ⟨d.linkPeer g, 0, 0⟩).isSome && !d.net.keysDead then d.linkComeUp c g else d

end Sys2Proof.Machine
end

