-- ==== Sys2Proof/Machine/Bpm.lean ====
section
/-! DEFINITION. The buffer pool manager (R310–R322): requests, warnings, references, frees. -/
namespace Sys2Proof.Machine

/-- Segment size of a pool in bytes (R310). -/
def poolBytes (k : Nat) : Nat := [256, 2048, 12288].getD k 0

/-- Charge units of 256 B of one segment of a pool (R310). -/
def poolUnits (k : Nat) : Nat := [1, 8, 48].getD k 0

/-- The smallest pool whose segment holds a frame of `len` bytes (R311). -/
def poolOf (len : Nat) : Nat := if len ≤ 256 then 0 else if len ≤ 2048 then 1 else 2

/-- A handle (R312): die, pool, index. -/
def mkHandle (die k ix : Nat) : Nat := die * 2 ^ 23 + k * 2 ^ 21 + ix

/-- Key of a handle's segment. -/
def handleKey (h : Nat) : Key := ⟨bitsOf h 23 1, bitsOf h 21 2, bitsOf h 0 21⟩

/-- Flat index of a per-requester pool register. -/
def reqIx (die r k : Nat) : Nat := (die * 256 + r) * 3 + k

/-- Flat index of a per-pipeline priority register: pipeline i of the die. -/
def prioIx (die i q : Nat) : Nat := (die * 16 + i) * 8 + q

/-- A change of a BPM counter of a die. -/
def Dev.bpmCnt (d : Dev) (die k : Nat) : Dev := d.bump F.BPM_CNT_count (12 * die + k)

/-- Segments of a pool in use, retired ones included (R317, R322). -/
def Dev.inUse (d : Dev) (die k : Nat) : Nat := d.bpm.segs.cells.countP (fun x => x.1.a == die && x.1.b == k)

/-- Segments of pool `k`. -/
def Dev.segments (d : Dev) (die k : Nat) : Nat := d.fld F.BPM_POOL_CFG_segments (3 * die + k)

/-- u(r,k): segments of pool `k` that requester `r` holds (R313). -/
def Dev.useOf (d : Dev) (die r k : Nat) : Nat :=
  d.bpm.segs.cells.countP (fun x => x.1.a == die && x.1.b == k && x.2.owner == r)

/-- c(i,q): charge units on pipeline i of the die at priority q (R317). -/
def Dev.chargeOf (d : Dev) (die i q : Nat) : Nat :=
  (d.bpm.segs.cells.filter (fun x => x.1.a == die && x.2.pipe == i && x.2.prio == q)).foldl
    (fun n x => n + x.2.units) 0

/-- The guaranteed reserve Σ min(r,k) (R314). -/
def Dev.reserve (d : Dev) (die k : Nat) : Nat :=
  (List.range 256).foldl (fun n r => n + d.fld F.BPM_REQ_QUOTA_min (reqIx die r k)) 0

/-- The shared use Σ max(0, u − min) (R314). -/
def Dev.sharedUse (d : Dev) (die k : Nat) : Nat :=
  (List.range 256).foldl (fun n r => n + (d.useOf die r k - d.fld F.BPM_REQ_QUOTA_min (reqIx die r k))) 0

/-- The shared part segments − reserve; zero while the pool is over-committed (R314). -/
def Dev.sharedPart (d : Dev) (die k : Nat) : Nat := d.segments die k - d.reserve die k

/-! ### Early warning (R317) -/

/-- W(k), as reported in BPM_POOL_STATUS.warn. -/
def Dev.poolWarn (d : Dev) (die k : Nat) : Bool := d.flag F.BPM_POOL_STATUS_warn (3 * die + k)

/-- D: some pool warning of the die is set. -/
def Dev.dieWarn (d : Dev) (die : Nat) : Bool := (List.range 3).any (d.poolWarn die)

/-- Q(r). -/
def Dev.reqWarn (d : Dev) (die r : Nat) : Bool := d.bpm.reqWarn.num die r == 1

/-- P(i,q), as reported in BPM_PRIO_USE.warn. -/
def Dev.prioWarn (d : Dev) (die i q : Nat) : Bool := d.flag F.BPM_PRIO_USE_warn (prioIx die i q)

/-- E(i,q) = D OR Q(i) OR P(i,q). -/
def Dev.early (d : Dev) (die i q : Nat) : Bool := d.dieWarn die || d.reqWarn die i || d.prioWarn die i q

/-- E of every priority of a pipeline. -/
def Dev.earlies (d : Dev) (die i : Nat) : List Bool := (List.range 8).map (d.early die i)

/-- W(k) re-evaluated with its hysteresis. -/
def Dev.evalPool (d : Dev) (die k : Nat) : Dev :=
  let n := d.inUse die k
  let ix := 3 * die + k
  let w := if n ≥ d.fld F.BPM_POOL_CFG_warn_hi ix then true
    else if n < d.fld F.BPM_POOL_CFG_warn_lo ix then false else d.poolWarn die k
  (((d.putB F.BPM_POOL_STATUS_warn ix w).put F.BPM_POOL_STATUS_free ix (d.segments die k - n)).peak
    F.BPM_POOL_STATUS_peak ix n)

/-- Q(r) re-evaluated with its hysteresis. -/
def Dev.evalReq (d : Dev) (die r : Nat) : Dev :=
  let warn := fun k => d.fld F.BPM_REQ_QUOTA_warn (reqIx die r k)
  let set := (List.range 3).any (fun k => d.useOf die r k ≥ warn k)
  let clear := (List.range 3).all (fun k => d.useOf die r k < warn k - warn k / 8)
  let w := if set then true else if clear then false else d.reqWarn die r
  let d := { d with bpm := { d.bpm with reqWarn := d.bpm.reqWarn.setNum ⟨die, r, 0⟩ (bit w) } }
  (List.range 3).foldl (fun d k =>
    (d.put F.BPM_REQ_USE_use (reqIx die r k) (d.useOf die r k)).peak F.BPM_REQ_USE_peak (reqIx die r k)
      (d.useOf die r k)) d

/-- P(i,q) re-evaluated with its hysteresis. -/
def Dev.evalPrio (d : Dev) (die i q : Nat) : Dev :=
  let n := d.chargeOf die i q
  let ix := prioIx die i q
  let w := if n ≥ d.fld F.BPM_PRIO_CFG_warn ix then true
    else if n < d.fld F.BPM_PRIO_CFG_resume ix then false else d.prioWarn die i q
  ((d.putB F.BPM_PRIO_USE_warn ix w).put F.BPM_PRIO_USE_charge ix n).peak F.BPM_PRIO_USE_peak ix n

/-- Ports of a pipeline of a die. -/
def pipePorts (die i : Nat) : List Nat := (List.range 16).map (fun n => (16 * die + i) * 16 + n)

/-- The pause state of a Peal link: the priorities of its Peal port's generation mask that warn early (R411). -/
def pealPause (gen : Nat) (early : List Bool) : Nat :=
  (List.range 8).foldl (fun m q => if bitOf gen q && early.getD q false then m + 2 ^ q else m) 0

/-- The crossings of E(i,q) on the Peal links of a pipeline, sent on channel 7 (R411). -/
def Dev.pealPauses (d : Dev) (c : Clock) (die i : Nat) (before after : List Bool) : Dev :=
  ((pipePorts die i).filter d.pealPort).foldl (fun (d : Dev) p =>
    let gen := d.fld F.MAC_PORT_CFG_pfc_gen_mask p
    let m := pealPause gen after
    if pealPause gen before == m then d
    else d.pealSend c (p / 8) ⟨7, 1, leBytes 1 m ++ List.replicate 7 (0 : Byte), 0⟩) d

/-- What follows a change of the warning signals of a die from those of `d0` (R25, R99, R317): PFC crossings of
every port, die_warn, and EV_BPM_WARN at most once per 1 ms per die. -/
def Dev.warnChanged (d : Dev) (c : Clock) (d0 : Dev) (die : Nat) : Dev :=
  let d := d.putB F.BPM_STATUS_die_warn die (d.dieWarn die)
  let changedPipes := (List.range 16).filter (fun i => d0.earlies die i != d.earlies die i)
  let signals := fun (x : Dev) => (x.bpm.reqWarn, (List.range 3).map (x.poolWarn die),
    (List.range 16).map (fun i => (List.range 8).map (x.prioWarn die i)))
  let after := d
  let d := changedPipes.foldl (fun d i =>
    ((pipePorts die i).filter (fun p => !d.pealPort p)).foldl (fun d p => d.pfcCross c p (d0.earlies die i) (after.earlies die i))
      (d.pealPauses c die i (d0.earlies die i) (after.earlies die i))) d
  if signals d0 == signals after then d else d.raiseLim c .BPM_WARN 1 die

/-- The signals a segment of pool `k` touches re-evaluated: its pool, its owners and its priority. -/
def Dev.warnEval (d : Dev) (c : Clock) (die k : Nat) (owners : List Nat) (prios : List (Nat × Nat)) : Dev :=
  let d0 := d
  let d := d.evalPool die k
  let d := owners.foldl (fun d r => d.evalReq die r) d
  let d := prios.foldl (fun d x => d.evalPrio die x.1 x.2) d
  d.warnChanged c d0 die

/-- Every signal of a die re-evaluated, for a change of thresholds (continuous fields, R47). -/
def Dev.warnEvalAll (d : Dev) (c : Clock) (die : Nat) : Dev :=
  let d0 := d
  let d := (List.range 3).foldl (fun d k => d.evalPool die k) d
  let d := (List.range 256).foldl (fun d r => d.evalReq die r) d
  let d := (List.range 16).foldl (fun d i => (List.range 8).foldl (fun d q => d.evalPrio die i q) d) d
  d.warnChanged c d0 die

/-! ### Requests (R314, R315) -/

/-- The `n`-th natural number not in a rising list of used indices. -/
def nthFree : List Nat → Nat → Nat → Nat
  | [], base, n => base + n
  | u :: us, base, n => if n < u - base then base + n else nthFree us (u + 1) (n - (u - base))

/-- Indices of a pool in use, rising. -/
def Dev.usedIx (d : Dev) (die k : Nat) : List Nat :=
  (d.bpm.segs.cells.filter (fun x => x.1.a == die && x.1.b == k)).map (fun x => x.1.c)

/-- Condition 2 of R314. -/
def Dev.quotaOk (d : Dev) (die r k : Nat) : Bool :=
  d.useOf die r k < d.fld F.BPM_REQ_QUOTA_min (reqIx die r k) ||
  (d.useOf die r k < d.fld F.BPM_REQ_QUOTA_max (reqIx die r k) && d.sharedUse die k < d.sharedPart die k)

/-- A segment taken: which free one is a free value (log entry 8). -/
def Dev.segTake (d : Dev) (c : Clock) (die r k : Nat) (ingress : Option (Nat × Nat)) : Dev × Grant :=
  let (pick, d) := d.draw Config.segmentPick
  let ix := nthFree (d.usedIx die k) 0 (pick % (d.segments die k - d.inUse die k))
  let (i, q, u) := match ingress with
    | some (i, q) => (i, q, poolUnits k)
    | none => (16, 0, 0)
  let d := { d with bpm := { d.bpm with segs := d.bpm.segs.put ⟨die, k, ix⟩ ⟨1, r, i, q, u, 0, false, false⟩ } }
  let d := ((d.bpmCnt die 0).perf die 0x070 none none).warnEval c die k [r] (match ingress with | some x => [x] | none => [])
  (d, .granted (mkHandle die k ix))

/-- A request of requester `r` for pool `k` (R314, R315). A loser below its minimum on an empty pool retries and is
not counted yet. Under BPM_HOLD every request waits (R51). -/
def Dev.segRequest (d : Dev) (c : Clock) (die r k : Nat) (ingress : Option (Nat × Nat)) : Dev × Grant :=
  if d.flag F.BPM_HOLD_ack die then (d, .retry)
  else if !d.quotaOk die r k then (d.bpmCnt die 1, .quota)
  else if d.segments die k ≤ d.inUse die k then
    if d.useOf die r k < d.fld F.BPM_REQ_QUOTA_min (reqIx die r k) then (d, .retry) else (d.bpmCnt die 2, .empty)
  else d.segTake c die r k ingress

/-! ### References and frees (R319–R322) -/

/-- The segment of a handle, when it is in use. -/
def Dev.seg (d : Dev) (h : Nat) : Option Seg := d.bpm.segs.find? (handleKey h)

/-- A handle that names pool 3, or an index at or above its pool's count (R312). -/
def Dev.badHandle (d : Dev) (h : Nat) : Bool :=
  let k := handleKey h
  k.b == 3 || d.segments k.a k.b ≤ k.c

/-- An ignored free recorded in BPM_FREE_CAPTURE (R320). -/
def Dev.freeCapture (d : Dev) (die kind r h : Nat) : Dev :=
  if d.flag F.BPM_FREE_CAPTURE_valid die then d.bumpSat F.BPM_FREE_CAPTURE_count die
  else ((((d.put F.BPM_FREE_CAPTURE_valid die 1).put F.BPM_FREE_CAPTURE_kind die kind).put
    F.BPM_FREE_CAPTURE_requester die r).put F.BPM_FREE_CAPTURE_handle die h).put F.BPM_FREE_CAPTURE_count die 1

/-- A free of a handle by a requester (R312, R320, R322). -/
def Dev.segFree (d : Dev) (c : Clock) (h r : Nat) : Dev :=
  let key := handleKey h
  let die := key.a
  if d.badHandle h then
    ((d.bpmCnt die 7).freeCapture die 2 r h).raise c .BPM_BAD_HANDLE 1 die [(24, h)]
  else match d.seg h with
    | none => ((d.bpmCnt die 5).freeCapture die 0 r h).raise c .BPM_DOUBLE_FREE 1 die [(8, r)]
    | some s =>
      if s.retired then ((d.bpmCnt die 5).freeCapture die 0 r h).raise c .BPM_DOUBLE_FREE 1 die [(8, r)]
      else if 2 ≤ s.refs then
        { d with bpm := { d.bpm with segs := d.bpm.segs.put key { s with refs := s.refs - 1 } } }
      else if s.owner != r then
        ((d.bpmCnt die 6).freeCapture die 1 r h).raise c .BPM_FOREIGN_FREE 1 die [(8, r)]
      else if s.condemned then
        let s' := { s with refs := 0, owner := 256, units := 0, retired := true }
        let d := { d with bpm := { d.bpm with segs := d.bpm.segs.put key s' } }
        ((d.bpmCnt die 11).raise c .BPM_SEG_RETIRED 1 die [(24, h)]).warnEval c die key.b [r] [(s.pipe, s.prio)]
      else
        let d := { d with bpm := { d.bpm with segs := d.bpm.segs.erase key } }
        d.warnEval c die key.b [r] (if s.units == 0 then [] else [(s.pipe, s.prio)])

/-- A free of a segment recorded in a descriptor: the handle with its owner. -/
def Dev.segRelease (d : Dev) (c : Clock) (seg : Option (Nat × Nat)) : Dev :=
  match seg with
  | some (h, r) => d.segFree c h r
  | none => d

/-- A reference added at replication; `false` when the count would exceed 65,535 (R319). -/
def Dev.segAddRef (d : Dev) (h r : Nat) : Dev × Bool :=
  match d.seg h with
  | none => (d, false)
  | some s =>
    if 65535 ≤ s.refs then (((d.bpmCnt (handleKey h).a 8).freeCapture (handleKey h).a 3 r h), false)
    else ({ d with bpm := { d.bpm with segs := d.bpm.segs.put (handleKey h) { s with refs := s.refs + 1 } } }, true)

/-- A held first packet's segment passes to requester 112 under R314 (R316); `false` when refused. -/
def Dev.segToHold (d : Dev) (c : Clock) (h : Nat) : Dev × Bool :=
  let key := handleKey h
  match d.seg h with
  | none => (d, false)
  | some s =>
    if !d.quotaOk key.a 112 key.b then (d.bpmCnt key.a 1, false)
    else if d.segments key.a key.b ≤ d.inUse key.a key.b then (d.bpmCnt key.a 2, false)
    else
      let d := { d with bpm := { d.bpm with segs := d.bpm.segs.put key { s with owner := 112 } } }
      ((d.bpmCnt key.a 0).warnEval c key.a key.b [s.owner, 112] [], true)

/-- An uncorrectable error found in a segment (R322): counted and evented; a second one within 1 s condemns the
segment. -/
def Dev.segUe (d : Dev) (c : Clock) (h : Nat) : Dev :=
  let key := handleKey h
  let d := ((d.bpmCnt key.a 10).ue 2 2 key.a (h % 2 ^ 23)).raise c .BPM_ECC_UE 1 key.a [(24, h)]
  match d.seg h with
  | none => d
  | some s =>
    let again := s.ueAt != 0 && c.phys + 1 - s.ueAt < edgesS 1
    { d with bpm := { d.bpm with
      segs := d.bpm.segs.put key { s with ueAt := c.phys + 1, condemned := s.condemned || again } } }

/-- BPM_STATUS.overcommit re-evaluated; EV_BPM_OVERCOMMIT when a pool becomes over-committed (R314). -/
def Dev.overcommitEval (d : Dev) (c : Clock) (die : Nat) : Dev :=
  (List.range 3).foldl (fun d k =>
    let beyond := d.segments die k < d.reserve die k
    let was := bitOf (d.fld F.BPM_STATUS_overcommit die) k
    let d := d.put F.BPM_STATUS_overcommit die (putBit (d.fld F.BPM_STATUS_overcommit die) k beyond)
    if beyond && !was then d.raise c .BPM_OVERCOMMIT 1 die [(2, k)] else d) d

/-- Whether the pools' bytes would exceed the die's buffer (R310). -/
def Dev.poolsTooBig (d : Dev) (die : Nat) : Bool :=
  134217728 < (List.range 3).foldl (fun n k => n + d.segments die k * poolBytes k) 0

end Sys2Proof.Machine
end

