-- ==== Sys2Proof/Machine/HostRing.lean ====
section
/-! DEFINITION. Descriptor rings (R420–R426). -/
namespace Sys2Proof.Machine

/-- Whether a receive ring runs: enabled, size in 6–16, DMA possible (R417, R420, R421). -/
def Dev.rxLive (d : Dev) (r : Nat) : Bool :=
  d.flag F.HST_RXR_CFG_enable r && 6 ≤ d.fld F.HST_RXR_CFG_log2_size r && d.fld F.HST_RXR_CFG_log2_size r ≤ 16 &&
  d.host.linkUp && !d.host.d3hot

/-- Whether a transmit ring runs. -/
def Dev.txLive (d : Dev) (r : Nat) : Bool :=
  d.flag F.HST_TXR_CFG_enable r && 6 ≤ d.fld F.HST_TXR_CFG_log2_size r && d.fld F.HST_TXR_CFG_log2_size r ≤ 16 &&
  d.host.linkUp && !d.host.d3hot

/-- Entries of a receive ring. -/
def Dev.rxSize (d : Dev) (r : Nat) : Nat := 2 ^ d.fld F.HST_RXR_CFG_log2_size r

/-- Entries of a transmit ring. -/
def Dev.txSize (d : Dev) (r : Nat) : Nat := 2 ^ d.fld F.HST_TXR_CFG_log2_size r

/-- Descriptors posted on a receive ring: head to tail − 1, tail taken modulo the size (R420). -/
def Dev.rxPosted (d : Dev) (r : Nat) : Nat :=
  (d.fld F.HST_RXR_PTR_tail r % d.rxSize r + d.rxSize r - d.fld F.HST_RXR_PTR_head r % d.rxSize r) % d.rxSize r

/-- Descriptors posted on a transmit ring. -/
def Dev.txPosted (d : Dev) (r : Nat) : Nat :=
  (d.fld F.HST_TXR_PTR_tail r % d.txSize r + d.txSize r - d.fld F.HST_TXR_PTR_head r % d.txSize r) % d.txSize r

/-- Buffer bytes of a receive ring: buf_size × 256, clamped to 8–64 (R421). -/
def Dev.rxBufBytes (d : Dev) (r : Nat) : Nat := 256 * min (max (d.fld F.HST_RXR_CFG2_buf_size r) 8) 64

/-- The 64-byte meta header (R421). -/
def RxInfo.metaHeader (i : RxInfo) : List Byte :=
  let rec' := match i.record with
    | some (die, n) => n % 2 ^ 28 + die * 2 ^ 28 + 2 ^ 29
    | none => 0
  (i.key ++ List.replicate 48 0).take 48 ++ leBytes 4 rec' ++ leBytes 1 i.shed ++ leBytes 1 i.cls ++ leBytes 2 0 ++
    leBytes 8 i.hash.toNat

/-- The 32-byte receive write-back (R421). -/
def RxInfo.writeBack (i : RxInfo) (len : Nat) (withMeta : Bool) : List Byte :=
  i.stamp.bytes ++ leBytes 2 len ++ leBytes 2 i.port ++ leBytes 3 i.ident ++ leBytes 1 i.reason ++ leBytes 2 i.gen ++
    leBytes 1 (i.tc + 8 * i.colour) ++ leBytes 1 (i.pipe + 32 * i.pass) ++ leBytes 4 i.hash.toNat ++ leBytes 3 0 ++
    leBytes 1 (bit withMeta + 2 * bit i.poison + 128)

/-- A frame or item offered to receive ring `r` (R421); `true` when it was taken from its source (delivered or
dropped), `false` when an item stays in its FIFO. -/
def Dev.rxRing (d : Dev) (c : Clock) (r : Nat) (i : RxInfo) (data : List Byte) : Dev × Bool :=
  if !d.rxLive r || d.rxPosted r == 0 then
    if i.item then (d, false)
    else ((d.bump F.HST_RXR_CNT_count (3 * r + 2)).raiseLim c .HST_RX_RING_FULL 10 r [(11, r)], true)
  else
    let withMeta := d.flag F.HST_RXR_CFG_meta r
    let off := if withMeta then 64 else 0
    if d.rxBufBytes r < data.length + off then (d.bump F.HST_RXR_CNT_count (3 * r + 2), true)
    else
      let head := d.fld F.HST_RXR_PTR_head r % d.rxSize r
      let buf := d.host.rxBuf.num r head
      let d := if withMeta then d.emit (.hostWrite buf (i.metaHeader ++ data)) else d.emit (.hostWrite buf data)
      let d := d.emit (.hostWrite (d.fld F.HST_RXR_CFG_base r * 4096 + 32 * head) (i.writeBack data.length withMeta))
      let d := d.put F.HST_RXR_PTR_head r ((head + 1) % d.rxSize r)
      let d := (d.bump F.HST_RXR_CNT_count (3 * r)).bump F.HST_RXR_CNT_count (3 * r + 1) data.length
      (d.signal c 0 r, true)

/-- Whether a ring group delivers (R423). -/
def Dev.groupValid (d : Dev) (g : Nat) : Bool := g < 1024 && d.flag F.HST_RXG_CFG_valid g

/-- A frame or item offered to ring group `g` (R423). -/
def Dev.rxDeliver (d : Dev) (c : Clock) (g : Nat) (i : RxInfo) (data : List Byte) : Dev × Bool :=
  if !d.groupValid g then
    if i.item then (d, false)
    else ((d.bump F.HST_CNT_count 0).raiseLim c .HST_NO_GROUP 10 g [(12, g)], true)
  else
    let n := if i.item then 0 else i.hash.toNat % 2 ^ d.fld F.HST_RXG_CFG_log2_count g
    d.rxRing c ((d.fld F.HST_RXG_CFG_base_ring g + n) % 2048) i data

/-- The 32-byte transmit write-back (R424). -/
def txWriteBack (status : Nat) (stamp : Option Stamp) : List Byte :=
  (stamp.getD ⟨0, 0, 0⟩).bytes ++ leBytes 1 status ++ leBytes 1 (bit stamp.isSome) ++ List.replicate 17 0 ++
    [BitVec.ofNat 8 128]

/-- Descriptors of a ring fetched and not yet written back, in ring order. -/
def Dev.txList (d : Dev) (r : Nat) : List TxSlot := d.host.txOut.get (fun _ => []) ⟨r, 0, 0⟩

/-- The list of a ring's fetched descriptors set. -/
def Dev.setTxList (d : Dev) (r : Nat) (l : List TxSlot) : Dev :=
  { d with host := { d.host with txOut := d.host.txOut.set (fun _ => []) ⟨r, 0, 0⟩ l } }

/-- Write-backs leave from the head of a ring while the head descriptor's completion is known and DMA runs (R417, R420,
R425). -/
def Dev.txFlush (d : Dev) (c : Clock) (r : Nat) : List TxSlot → Dev
  | [] => d.setTxList r []
  | t :: ts =>
    match (if d.host.linkUp && !d.host.d3hot then t.result else none) with
    | none => d.setTxList r (t :: ts)
    | some (status, stamp) =>
      let d := d.emit (.hostWrite (d.fld F.HST_TXR_CFG_base r * 4096 + 32 * t.slot) (txWriteBack status stamp))
      let d := d.put F.HST_TXR_PTR_head r ((t.slot + 1) % d.txSize r)
      let d := if status == 0 then (d.bump F.HST_TXR_CNT_count (3 * r)).bump F.HST_TXR_CNT_count (3 * r + 1) t.len else d.bump F.HST_TXR_CNT_count (3 * r + 2)
      (d.signal c 1 r).txFlush c r ts

/-- A descriptor's completion becomes known: status and egress stamp (R425). -/
def Dev.txComplete (d : Dev) (c : Clock) (r slot status : Nat) (stamp : Option Stamp) : Dev :=
  d.txFlush c r ((d.txList r).map (fun t => if t.slot == slot then { t with result := some (status, stamp) } else t))

/-- The next posted descriptor not yet fetched, when there is one. -/
def Dev.txNext (d : Dev) (r : Nat) : Option Nat :=
  let n := (d.txList r).length
  if d.txLive r && n < d.txPosted r then some ((d.fld F.HST_TXR_PTR_head r + n) % d.txSize r) else none

/-- A descriptor fetched from its ring. -/
def Dev.txFetch (d : Dev) (r slot len : Nat) : Dev := d.setTxList r (d.txList r ++ [⟨slot, len, none⟩])

end Sys2Proof.Machine
end

