-- ==== Sys2Proof/Machine/Packet.lean ====
section
/-! DEFINITION. Packets, their pipelines, and how they leave (R14–R24, R170). -/
namespace Sys2Proof.Machine

/-- A packet by number. -/
def Dev.pkt (d : Dev) (id : Nat) : Option Pkt := d.pkts.find? ⟨id, 0, 0⟩

/-- A packet set. -/
def Dev.setPkt (d : Dev) (x : Pkt) : Dev := { d with pkts := d.pkts.put ⟨x.id, 0, 0⟩ x }

/-- A packet updated in place. -/
def Dev.modPkt (d : Dev) (id : Nat) (f : Pkt → Pkt) : Dev := { d with pkts := d.pkts.modify ⟨id, 0, 0⟩ f }

/-- State of a pipeline. -/
def Dev.pipe (d : Dev) (p : Nat) : PipeSt := d.pipes.get (fun _ => PipeSt.init) ⟨p, 0, 0⟩

/-- A pipeline's state set. -/
def Dev.setPipe (d : Dev) (p : Nat) (x : PipeSt) : Dev :=
  { d with pipes := d.pipes.set (fun _ => PipeSt.init) ⟨p, 0, 0⟩ x }

/-- Pipeline of a packet: that of its ingress port. -/
def Pkt.pipe (x : Pkt) : Nat := pipeOf x.port

/-- Forwarding die of a packet's pipeline. -/
def Pkt.die (x : Pkt) : Nat := dieOf x.port

/-- A packet created at arrival. -/
def Dev.newPkt (d : Dev) (port : Nat) (arrival : Arrival) (bytes : List Byte) (stamp : Stamp) (seg : Option (Nat × Nat))
    (prio startState : Nat) : Dev × Nat :=
  let x : Pkt := { id := d.nextPkt, port, arrival, bytes, rxLen := bytes.length + 4, stamp,
                   stepEpoch := d.tim.stepEpoch, seg, prio, startState, gen := 0, slot := 0, stamped := false,
                   pass := 0, seq := 0, order := 0, parse := .empty, cls := .none, hash := 0, loc := .waiting, tc := 0,
                   colour := 0, txRing := none, flow := none, locked := false, hold := none, stateless := false, mchecks := 0,
                   unordered := false, creating := false, counter := false, copy := none, entryAt := none, avoid := none,
                   frames := [] }
  ({ (d.setPkt x) with nextPkt := d.nextPkt + 1 }, x.id)

/-- A packet leaves the lookup domain: its slot's in-flight count falls (R170). -/
def Dev.leaveDomain (d : Dev) (id : Nat) : Dev :=
  match d.pkt id with
  | none => d
  | some x =>
    if !x.stamped then d
    else
      let d := d.put F.CLS_GEN_INFLIGHT_packets x.slot (d.fld F.CLS_GEN_INFLIGHT_packets x.slot - 1)
      d.setPkt { x with stamped := false }

/-- A packet's number removed from every list of its pipeline. -/
def PipeSt.forget (s : PipeSt) (id : Nat) : PipeSt :=
  let rm := fun (l : List Nat) => l.filter (· != id)
  { s with waiting := rm s.waiting, side := rm s.side, intake := rm s.intake, clsIn := rm s.clsIn,
           dispatchQ := rm s.dispatchQ, queues := s.queues.map (fun _ l => rm l) }

/-- A packet is gone: it leaves the lookup domain, its segment is freed, and every list forgets it. -/
def Dev.pktGone (d : Dev) (c : Clock) (id : Nat) : Dev :=
  match d.pkt id with
  | none => d
  | some x =>
    let d := d.leaveDomain id
    let s := d.pipe x.pipe
    let held := match x.loc with | .reorder | .engineParse _ => true | _ => false
    let s := s.forget id
    let s := if held then { s with gone := s.gone ++ [x.seq] } else s
    let d := d.setPipe x.pipe s
    { (d.segRelease c x.seg) with pkts := d.pkts.erase ⟨id, 0, 0⟩ }

/-- The occupancy registers of a pipeline follow its lists (PRS_INTAKE_OCC, PRS_REORDER_OCC). -/
def Dev.pipeOcc (d : Dev) (p : Nat) : Dev :=
  let n := (d.pipe p).intake.length
  let r := d.pkts.vals.countP (fun x => x.pipe == p &&
    (match x.loc with | .engineParse _ | .reorder => true | _ => false))
  let d := (d.put F.PRS_INTAKE_OCC_occupancy p n).peak F.PRS_INTAKE_OCC_peak p n
  (d.put F.PRS_REORDER_OCC_occupancy p r).peak F.PRS_REORDER_OCC_peak p r

/-! ### Delivery to the host (R421–R423) -/

/-- One step of CRC-32 of a byte: 8 shifts of the reflected polynomial 0xEDB88320. -/
def crcShift : Nat → Nat → Nat
  | 0, v => v
  | n + 1, v => crcShift n (if v % 2 == 1 then (v / 2) ^^^ 0xEDB88320 else v / 2)

/-- The Ethernet FCS of a frame, least significant byte first (log entry 31). -/
def fcs (bs : List Byte) : List Byte :=
  let v := bs.foldl (fun v b => crcShift 8 (v ^^^ b.toNat)) 0xFFFFFFFF
  leBytes 4 (v ^^^ 0xFFFFFFFF)

/-- HASH64 of a flow key under a 128-bit key held in LBL_HASH_KEY (R275). -/
def Dev.hash64 (d : Dev) (m : List Byte) : Word :=
  sipHash (d.reg .LBL_HASH_KEY 0) (d.reg .LBL_HASH_KEY 1) m

/-- What a write-back says of a packet with a reason code (R421). -/
def Pkt.info (x : Pkt) (reason shed cls : Nat) : RxInfo :=
  { stamp := x.stamp, port := x.port, ident := x.cls.rule, reason, gen := x.gen, tc := x.tc, colour := x.colour,
    pipe := x.pipe, pass := x.pass, hash := x.hash, key := x.parse.key,
    record := x.flow.map (fun f => (f.1, f.2.1)), shed, cls, item := false, poison := false }

/-- A packet punted to a ring group with a reason: delivered with its FCS, then gone (R421–R423). -/
def Dev.punt (d : Dev) (c : Clock) (id group reason : Nat) (shed : Nat := 0xFF) (bytes : Option (List Byte) := none) :
    Dev :=
  match d.pkt id with
  | none => d
  | some x =>
    let data := bytes.getD x.bytes
    let cls := bitsOf (x.cls.action.getD 0 0) 9 3
    let (d, _) := d.rxDeliver c group (x.info reason shed cls) (data ++ fcs data)
    d.pktGone c id

end Sys2Proof.Machine
end

