-- ==== Sys2Proof/Machine/Sched.lean ====
section
/-! DEFINITION. Queues, scheduling, shaping and policing (R332–R348, R353, R354). -/
namespace Sys2Proof.Machine

/-- CLK_CORE edges since cold reset: 1.6 per CLK_TIME edge (R26). -/
def Clock.core (c : Clock) : Nat := c.phys * 8 / 5

/-- A counter of a port: k of SCH_PORT_CNT. -/
def Dev.schCnt (d : Dev) (p k : Nat) (n : Nat := 1) : Dev := d.bump F.SCH_PORT_CNT_count (10 * p + k) n

/-! ### Nodes -/

/-- The table of a level: 0 leaf, 1 class group, 2 port group, 3 port (R332). -/
def nodeTable (level : Nat) : TableId :=
  match level with
  | 0 => .SCH_LEAF_TBL
  | 1 => .SCH_CG_TBL
  | 2 => .SCH_PG_TBL
  | _ => .SCH_PORT_TBL

/-- A field of a node's entry. -/
def Dev.node (d : Dev) (die level n w lo bits : Nat) : Nat := bitsOf (d.tw (nodeTable level) die n w) lo bits

/-- Enable bit of a node; a port node has none. -/
def Dev.nodeEn (d : Dev) (die level n : Nat) : Bool :=
  match level with
  | 0 => d.node die 0 n 2 11 1 == 1
  | 1 => d.node die 1 n 2 10 1 == 1
  | 2 => d.node die 2 n 2 8 1 == 1
  | _ => true

/-- Parent of a node: leaf l lies under class group l >> 5 (R332). -/
def Dev.nodeParent (d : Dev) (die level n : Nat) : Nat :=
  match level with
  | 0 => n / 32
  | 1 => d.node die 1 n 2 0 10
  | _ => d.node die 2 n 2 0 8

/-- The ancestors of a leaf: class group, port group, port (of the die). -/
def Dev.leafPath (d : Dev) (die leaf : Nat) : Nat × Nat × Nat :=
  let cg := d.nodeParent die 0 leaf
  let pg := d.nodeParent die 1 cg
  (cg, pg, d.nodeParent die 2 pg)

/-! ### Token buckets (R341–R343). Values in units of 1/16,000,000 byte -/

/-- Whole bytes in bucket units. -/
def tokenUnits (bytes : Int) : Int := bytes * 16000000

/-- A bucket refilled to an edge at a rate (kbit/s), never above the burst. -/
def Bucket.refill (b : Bucket) (now rate burst : Nat) : Bucket :=
  ⟨min (b.value + rate * (now - b.at_ : Nat)) (tokenUnits (max burst 1 : Nat)), now⟩

/-- Rate and burst of a node's maximum (0) or minimum (1) shaper. -/
def Dev.shaper (d : Dev) (die level n minS : Nat) : Nat × Nat :=
  if minS == 0 then (d.node die level n 0 0 32, d.node die level n 1 0 24)
  else (d.node die level n 0 32 32, d.node die level n 1 24 24)

/-- A node's bucket as of now. -/
def Dev.bucket (d : Dev) (c : Clock) (die level n minS : Nat) : Bucket :=
  let (rate, burst) := d.shaper die level n minS
  (d.sch.buckets.get (fun _ => ⟨0, 0⟩) ⟨die, 2 * level + minS, n⟩).refill c.core rate burst

/-- A node's bucket set. -/
def Dev.setBucket (d : Dev) (die level n minS : Nat) (b : Bucket) : Dev :=
  { d with sch := { d.sch with buckets := d.sch.buckets.set (fun _ => ⟨0, 0⟩) ⟨die, 2 * level + minS, n⟩ b } }

/-- A maximum shaper allows a frame: rate 0, or a bucket of at least 0. -/
def Dev.maxOk (d : Dev) (c : Clock) (die level n : Nat) : Bool :=
  (d.shaper die level n 0).1 == 0 || 0 ≤ (d.bucket c die level n 0).value

/-- A minimum shaper qualifies for pass 1: rate of 1 or more and a bucket of at least 0 (R337, R341). -/
def Dev.minOk (d : Dev) (c : Clock) (die level n : Nat) : Bool :=
  level != 3 && (d.shaper die level n 1).1 != 0 && 0 ≤ (d.bucket c die level n 1).value

/-- A counted length charged to a node's buckets, never clamped (R341). -/
def Dev.charge (d : Dev) (c : Clock) (die level n len : Nat) : Dev :=
  let sub := fun (b : Bucket) => { b with value := b.value - tokenUnits len }
  let d := if (d.shaper die level n 0).1 == 0 then d else d.setBucket die level n 0 (sub (d.bucket c die level n 0))
  if level == 3 || (d.shaper die level n 1).1 == 0 then d
  else d.setBucket die level n 1 (sub (d.bucket c die level n 1))

/-- The buckets of a node settled for a change of its rates or bursts: accrued at the old rate, then clamped to
the new burst (R342, R343). `d0` is the device before the change. -/
def Dev.settle (d d0 : Dev) (c : Clock) (die level n : Nat) : Dev :=
  [0, 1].foldl (fun d m =>
    let b := d0.bucket c die level n m
    let burst := tokenUnits (max (d.shaper die level n m).2 1)
    let b' : Bucket := ⟨max (-burst) (min b.value burst), c.core⟩
    if (d0.shaper die level n m) == (d.shaper die level n m) then d else d.setBucket die level n m b') d

/-! ### Admission (R333, R335, R336) -/

/-- Frames waiting on a leaf. -/
def Dev.leafQ (d : Dev) (die leaf : Nat) : List EFrame := d.sch.leaf.get (fun _ => []) ⟨die, leaf, 0⟩

/-- A leaf's frames set. -/
def Dev.setLeafQ (d : Dev) (die leaf : Nat) (l : List EFrame) : Dev :=
  { d with sch := { d.sch with leaf := d.sch.leaf.set (fun _ => []) ⟨die, leaf, 0⟩ l } }

/-- L2 length of a frame as edited, FCS included. -/
def EFrame.len (f : EFrame) : Nat := f.bytes.length + 4

/-- Occupancy of a leaf in bytes (R335). -/
def Dev.leafBytes (d : Dev) (die leaf : Nat) : Nat := (d.leafQ die leaf).foldl (fun n f => n + f.len) 0

/-- The leaf of a packet on port `p` with traffic class `tc` and flow hash `h` (R333). -/
def Dev.leafOf (d : Dev) (p tc h : Nat) : Nat :=
  let qlog := min (d.fld F.SCH_PORT_CFG_qlog p) 5
  (d.fld F.SCH_PORT_CFG_qbase p + tc * 2 ^ qlog + h % 2 ^ qlog) % 131072

/-- A word of a leaf's profile. -/
def Dev.profile (d : Dev) (die leaf w lo bits : Nat) : Nat :=
  bitsOf (d.tw .SCH_LEAF_PROFILE die (d.node die 0 leaf 2 0 8) w) lo bits

/-- The sum of a byte list's 16-bit words in network byte order, an odd last byte taken as the high half. -/
def sum16 : List Byte → Nat
  | [] => 0
  | [a] => a.toNat * 256
  | a :: b :: t => a.toNat * 256 + b.toNat + sum16 t

/-- The ones' complement sum of a byte list's 16-bit words, folded. -/
def onesSum (bs : List Byte) : Nat :=
  let s := sum16 bs
  let s := s % 65536 + s / 65536
  let s := s % 65536 + s / 65536
  s % 65536 + s / 65536

/-- Bytes replaced at an offset. -/
def splice (bs : List Byte) (off : Nat) (new : List Byte) : List Byte :=
  if off + new.length ≤ bs.length then bs.take off ++ new ++ bs.drop (off + new.length) else bs

/-- The byte at an offset. -/
def byteAt (bs : List Byte) (off : Nat) : Nat := (bs[off]?.getD 0).toNat

/-- An IPv4 header's checksum recomputed at an offset. -/
def fixIpv4 (bs : List Byte) (off : Nat) : List Byte :=
  let ihl := 4 * (byteAt bs off % 16)
  let bs := splice bs (off + 10) [0, 0]
  splice bs (off + 10) (beBytes 2 (65535 - onesSum ((bs.drop off).take ihl)))

/-- ECN field of a frame's outermost IP header (R336); 0 when there is none. -/
def EFrame.ecn (f : EFrame) : Nat :=
  match f.ipOff with
  | none => 0
  | some (off, false) => byteAt f.bytes (off + 1) % 4
  | some (off, true) => byteAt f.bytes (off + 1) / 16 % 4

/-- The ECN field set to 0b11, the IPv4 header checksum recomputed (R336). -/
def EFrame.mark (f : EFrame) : EFrame :=
  match f.ipOff with
  | none => f
  | some (off, false) =>
    let b := byteAt f.bytes (off + 1)
    { f with bytes := fixIpv4 (splice f.bytes (off + 1) [BitVec.ofNat 8 (b / 4 * 4 + 3)]) off }
  | some (off, true) =>
    let b := byteAt f.bytes (off + 1)
    { f with bytes := splice f.bytes (off + 1) [BitVec.ofNat 8 (putBits b 4 2 3)] }

/-- The ECN test of a leaf for an occupancy that counts the frame (R336): whether an ECT frame would be marked. -/
def Dev.ecnTest (d : Dev) (die leaf q : Nat) : Dev × Bool :=
  let w := d.tw .SCH_ECN_PROFILE die (d.profile die leaf 1 0 6) 0
  let kmin := bitsOf w 0 20 * 256
  let kmax := bitsOf w 20 20 * 256
  let pmax := bitsOf w 40 8
  if q < kmin then (d, false)
  else if kmax ≤ q || kmax ≤ kmin then (d, true)
  else
    let (x, d) := d.draw Config.ecnDraw
    (d, x.val * (256 * (kmax - kmin)) < 65536 * pmax * (q - kmin))

/-- A leaf counter: 0 packets, 1 bytes, 2 tail drops, 3 ECN marks. -/
def Dev.leafCnt (d : Dev) (die leaf k : Nat) (n : Nat := 1) : Dev := d.bumpTw .SCH_LEAF_CNT die leaf k n

/-- A frame that leaves without being sent: its reference freed, its transmit descriptor completed with status 1
(R319, R425). -/
def Dev.frameGone (d : Dev) (c : Clock) (f : EFrame) : Dev :=
  let d := d.segRelease c f.seg
  match f.txRing with
  | some (r, slot) => d.txComplete c r slot 1 none
  | none => d

/-- A frame enqueued on port `p` with flow hash `h` (R333, R336, then R335). -/
def Dev.enqueue (d : Dev) (c : Clock) (f : EFrame) (h : Nat) : Dev :=
  let p := f.port
  let die := dieOf p
  let leaf := d.leafOf p f.tc h
  if (d.leafPath die leaf).2.2 != p % 256 then
    ((d.schCnt p 8).raiseLim c .SCH_QMAP 1 die).frameGone c f
  else
    let q := d.leafBytes die leaf + f.len
    let lossless := d.profile die leaf 1 7 1 == 1
    let (d, hit) := if d.profile die leaf 1 6 1 == 1 then d.ecnTest die leaf q else (d, false)
    let ect := f.ecn != 0
    if hit && !ect && d.profile die leaf 1 8 1 == 1 && !lossless then (d.schCnt p 4).frameGone c f
    else
      let (f, d) := if hit && ect then (f.mark, (d.leafCnt die leaf 3).schCnt p 3) else (f, d)
      let limit := [d.profile die leaf 0 0 20, d.profile die leaf 0 20 20, d.profile die leaf 0 40 20].getD
        (min f.colour 2) 0
      if !lossless && limit * 256 < q then ((d.leafCnt die leaf 2).schCnt p 2).frameGone c f
      else
        let d := (d.leafCnt die leaf 0).leafCnt die leaf 1 f.len
        d.setLeafQ die leaf (d.leafQ die leaf ++ [{ f with enqTs48 := c.stamp.ts48 }])

/-! ### Eligibility and choice (R337, R338, R353, R354) -/

/-- Time on the wire of a frame in units of 2^-16 ns, times 200 × lanes (R353). -/
def Dev.wireScaled (d : Dev) (p len : Nat) : Nat := (len + 20 + d.fld F.SCH_GATE_CTRL_guard p) * 8 * 65536

/-- A frame fits before its gate closes (R353). -/
def Dev.gateFits (d : Dev) (c : Clock) (p tc len : Nat) : Bool :=
  match d.gateLeft p c.stamp.units tc with
  | none => true
  | some left => d.wireScaled p len ≤ left * 200 * d.portLanes p

/-- A frame exceeds the longest open interval of its class, of both lists while a change is pending (R354). -/
def Dev.gateOversize (d : Dev) (p tc len : Nat) : Bool :=
  let beyond := fun (ns : Nat) => ns != 0xFFFFFFFF && nsUnits ns * 200 * d.portLanes p < d.wireScaled p len
  d.flag F.SCH_GATE_CTRL_enable p && d.flag F.SCH_GATE_STATUS_operating p &&
  beyond (d.fld F.SCH_GATE_MAXOPEN_ns (8 * p + tc)) &&
  (match (d.gate p).pend with
    | none => true
    | some (l, _) => beyond (longestOpen tc (d.gateCycle p l)))

/-- Traffic class of a leaf. -/
def Dev.leafTc (d : Dev) (die leaf : Nat) : Nat := d.node die 0 leaf 2 8 3

/-- Whether a leaf's priority is paused on its port (R338, R347). -/
def Dev.leafPaused (d : Dev) (p die leaf : Nat) : Bool :=
  let q := bitsOf (d.fld F.SCH_PORT_CFG_prio_of_tc p) (3 * d.leafTc die leaf) 3
  if d.pealPort p then bitOf (d.net.links.get (fun _ => Link.init) ⟨p / 8, 0, 0⟩).pausedPrios q else d.prioPaused p q

/-- R338 for a leaf that holds a frame, apart from the pause. -/
def Dev.leafReady (d : Dev) (c : Clock) (p die leaf : Nat) : Bool :=
  let (cg, pg, port) := d.leafPath die leaf
  d.nodeEn die 0 leaf && d.nodeEn die 1 cg && d.nodeEn die 2 pg &&
  d.maxOk c die 0 leaf && d.maxOk c die 1 cg && d.maxOk c die 2 pg && d.maxOk c die 3 port &&
  (match d.leafQ die leaf with
    | [] => false
    | f :: _ => d.gateFits c p (d.leafTc die leaf) f.len)

/-- The leaves of a port that hold frames. -/
def Dev.portLeaves (d : Dev) (p : Nat) : List Nat :=
  ((d.sch.leaf.cells.filter (fun x => x.1.a == dieOf p)).map (fun x => x.1.b)).filter
    (fun l => (d.leafPath (dieOf p) l).2.2 == p % 256)

/-- The eligible leaves of a port (R338). -/
def Dev.eligible (d : Dev) (c : Clock) (p : Nat) : List Nat :=
  (d.portLeaves p).filter (fun l => d.leafReady c p (dieOf p) l && !d.leafPaused p (dieOf p) l)

/-- Deficit of a node. -/
def Dev.deficit (d : Dev) (die level n : Nat) : Int := d.sch.deficit.get (fun _ => 0) ⟨die, level, n⟩

/-- A node's deficit set. -/
def Dev.setDeficit (d : Dev) (die level n : Nat) (v : Int) : Dev :=
  { d with sch := { d.sch with deficit := d.sch.deficit.set (fun _ => 0) ⟨die, level, n⟩ v } }

/-- A number inserted into a rising list without repeats. -/
def insertNat (n : Nat) : List Nat → List Nat
  | [] => [n]
  | m :: t => if n < m then n :: m :: t else if n == m then m :: t else m :: insertNat n t

/-- The distinct numbers of a list, rising. -/
def sortNat (l : List Nat) : List Nat := l.foldr insertNat []

/-- The child a round reaches after `cur` in index order among `cs` (rising). -/
def nextChild (cs : List Nat) (cur : Nat) : Nat := (cs.find? (fun x => cur < x)).getD (cs.headD 0)

/-- Deficit round robin over children of one priority (R337): the child whose turn it is serves while its deficit is
positive; a child reached with a deficit of 0 or below gains one quantum. -/
def Dev.drr (d : Dev) (die level : Nat) (cs : List Nat) : Nat → Nat → Dev × Nat
  | 0, cur => (d, cur)
  | n + 1, cur =>
    if cs.contains cur && 0 < d.deficit die level cur then (d, cur)
    else
      let nx := nextChild cs cur
      let w := max (d.node die level nx 1 51 10) 1
      let d := if d.deficit die level nx ≤ 0 then d.setDeficit die level nx (d.deficit die level nx + 128 * w) else d
      if 0 < d.deficit die level nx then (d, nx) else d.drr die level cs n nx

/-- The child of a node (of the parent level above `level`) among candidates `cs` (R337). -/
def Dev.choose (d : Dev) (c : Clock) (die level parent : Nat) (cs : List Nat) : Dev × Nat :=
  let first := cs.filter (fun n => d.minOk c die level n)
  let pass := if first.isEmpty then cs else first
  let prio := fun n => d.node die level n 1 48 3
  let best := pass.foldl (fun m n => min m (prio n)) 7
  let top := pass.filter (fun n => prio n == best)
  let k : Key := ⟨die, 8 * (level + 1) + best, parent⟩
  let cur := d.sch.round.get (fun _ => 0) k
  let (d, n) := d.drr die level top (80 * (top.length + 1)) cur
  ({ d with sch := { d.sch with round := d.sch.round.set (fun _ => 0) k n } }, n)

/-- The leaf the scheduler of a port picks: port group, class group, leaf (R337). -/
def Dev.pick (d : Dev) (c : Clock) (p : Nat) (ls : List Nat) : Dev × Nat :=
  let die := dieOf p
  let pgs := sortNat (ls.map (fun l => (d.leafPath die l).2.1))
  let (d, pg) := d.choose c die 2 (p % 256) pgs
  let ls := ls.filter (fun l => (d.leafPath die l).2.1 == pg)
  let cgs := sortNat (ls.map (fun l => (d.leafPath die l).1))
  let (d, cg) := d.choose c die 1 pg cgs
  d.choose c die 0 cg (ls.filter (fun l => (d.leafPath die l).1 == cg))

/-- Counted length of a frame (R339). -/
def Dev.countedLen (d : Dev) (p len : Nat) : Nat := (max 1 ((len : Int) + d.sfld F.SCH_PORT_CFG_overhead p)).toNat

/-- The head of a leaf taken: shapers charged, deficits reduced, an emptied child's positive deficit zeroed
(R337, R341). -/
def Dev.serve (d : Dev) (c : Clock) (p leaf : Nat) (f : EFrame) (rest : List EFrame) : Dev :=
  let die := dieOf p
  let (cg, pg, port) := d.leafPath die leaf
  let n := d.countedLen p f.len
  let d := d.setLeafQ die leaf rest
  let d := (((d.charge c die 0 leaf n).charge c die 1 cg n).charge c die 2 pg n).charge c die 3 port n
  let dec := fun (d : Dev) (level x : Nat) (emptied : Bool) =>
    let v := d.deficit die level x - n
    d.setDeficit die level x (if emptied then min v 0 else v)
  let left := d.portLeaves p
  let d := dec d 0 leaf rest.isEmpty
  let d := dec d 1 cg (!left.any (fun l => (d.leafPath die l).1 == cg))
  dec d 2 pg (!left.any (fun l => (d.leafPath die l).2.1 == pg))

/-! ### Discards at dequeue (R348, R354) -/

/-- Every frame of a port's leaves discarded: port disabled, or link down with linkdown_drop (R348). -/
def Dev.discardAll (d : Dev) (c : Clock) (p : Nat) : Dev :=
  (d.portLeaves p).foldl (fun d l =>
    let fs := d.leafQ (dieOf p) l
    let d := d.setLeafQ (dieOf p) l []
    fs.foldl (fun d f => (d.schCnt p 6).frameGone c f) d) d

/-- The head of a leaf discarded while it is oversize for its gate or past max_wait (R348, R354). -/
def Dev.discardHead (d : Dev) (c : Clock) (p leaf : Nat) : List EFrame → Dev
  | [] => d
  | f :: rest =>
    let die := dieOf p
    let w := min (d.fld F.SCH_PORT_CFG_max_wait p) 2000
    if d.gateOversize p (d.leafTc die leaf) f.len then
      (((d.setLeafQ die leaf rest).schCnt p 5).raiseLim c .SCH_GATE_OVERSIZE 8 p).frameGone c f
        |>.discardHead c p leaf rest
    else if w != 0 && d.leafReady c p die leaf && (w * 1000000 * 65536 : Int) ≤ tsDiff c.stamp.ts48 f.enqTs48 then
      (((d.setLeafQ die leaf rest).schCnt p 7).raiseLim c .SCH_MAX_WAIT 1 die).frameGone c f
        |>.discardHead c p leaf rest
    else d

/-- Heads that wait for their gate counted once each (R353). -/
def Dev.gateWaits (d : Dev) (c : Clock) (p : Nat) : Dev :=
  (d.portLeaves p).foldl (fun d l =>
    let die := dieOf p
    match d.leafQ die l with
    | [] => d
    | f :: _ =>
      if d.gateFits c p (d.leafTc die l) f.len || d.sch.gateWait.num die l == 1 then d
      else { d.schCnt p 9 with sch := { (d.schCnt p 9).sch with
        gateWait := d.sch.gateWait.setNum ⟨die, l, 0⟩ 1 } }) d

/-! ### Policers (R344–R346) -/

/-- A field of a policer's entry. -/
def Dev.pol (d : Dev) (die n w lo bits : Nat) : Nat := bitsOf (d.tw .SCH_POL_TBL die n w) lo bits

/-- A policer bucket: 0 C, 1 E or P, refilled to now. In srTCM the overflow of C fills E (R345). -/
def Dev.polBuckets (d : Dev) (c : Clock) (die n : Nat) : Bucket × Bucket :=
  let cb := d.sch.polBuckets.get (fun _ => ⟨0, 0⟩) ⟨die, 2 * n, 0⟩
  let eb := d.sch.polBuckets.get (fun _ => ⟨0, 0⟩) ⟨die, 2 * n + 1, 0⟩
  let cbs := tokenUnits (d.pol die n 1 0 24)
  let ebs := tokenUnits (d.pol die n 1 24 24)
  let now := c.core
  if d.pol die n 1 55 2 == 1 then
    (⟨min (cb.value + d.pol die n 0 0 32 * (now - cb.at_)) cbs, now⟩,
     ⟨min (eb.value + d.pol die n 0 32 32 * (now - eb.at_)) ebs, now⟩)
  else
    let t := cb.value + d.pol die n 0 0 32 * (now - cb.at_)
    (⟨min t cbs, now⟩, ⟨min (eb.value + max 0 (t - cbs)) ebs, now⟩)

/-- A policer's buckets set. -/
def Dev.setPol (d : Dev) (die n : Nat) (b : Bucket × Bucket) : Dev :=
  { d with sch := { d.sch with polBuckets :=
    (d.sch.polBuckets.set (fun _ => ⟨0, 0⟩) ⟨die, 2 * n, 0⟩ b.1).set (fun _ => ⟨0, 0⟩) ⟨die, 2 * n + 1, 0⟩ b.2 } }

/-- A bucket passes a packet: strict holds the tokens, loose holds more than 0 (R345). -/
def polPass (loose : Bool) (b : Bucket) (len : Nat) : Bool :=
  if loose then 0 < b.value else tokenUnits len ≤ b.value

/-- METER (R344, R345): colour 0 green, 1 yellow, 2 red, and the tokens taken from C and E/P. -/
def Dev.meter (d : Dev) (c : Clock) (die n colour len : Nat) : Dev × Nat × Int × Int :=
  let mode := d.pol die n 1 55 2
  if 2 ≤ mode then (d, 0, 0, 0)
  else
    let b := d.polBuckets c die n
    let loose := d.pol die n 1 58 1 == 1
    let col := if d.pol die n 1 57 1 == 1 then min colour 2 else 0
    let len := (max 1 ((len : Int) + signed 7 (d.pol die n 1 48 7))).toNat
    let take := tokenUnits len
    let passC := polPass loose b.1 len
    let passE := polPass loose b.2 len
    if mode == 0 then
      if col == 0 && passC then (d.setPol die n (⟨b.1.value - take, b.1.at_⟩, b.2), 0, take, 0)
      else if col ≤ 1 && passE then (d.setPol die n (b.1, ⟨b.2.value - take, b.2.at_⟩), 1, 0, take)
      else (d.setPol die n b, 2, 0, 0)
    else if col == 2 || !passE then (d.setPol die n b, 2, 0, 0)
    else if col == 1 || !passC then (d.setPol die n (b.1, ⟨b.2.value - take, b.2.at_⟩), 1, 0, take)
    else (d.setPol die n (⟨b.1.value - take, b.1.at_⟩, ⟨b.2.value - take, b.2.at_⟩), 0, take, take)

/-- A METER reservation returned, clamped to the burst (R346). -/
def Dev.meterReturn (d : Dev) (c : Clock) (die n : Nat) (tc te : Int) : Dev :=
  let b := d.polBuckets c die n
  d.setPol die n (⟨min (b.1.value + tc) (tokenUnits (d.pol die n 1 0 24)), b.1.at_⟩,
    ⟨min (b.2.value + te) (tokenUnits (d.pol die n 1 24 24)), b.2.at_⟩)

end Sys2Proof.Machine
end

