-- ==== Sys2Proof/Machine/Parse.lean ====
section
/-! DEFINITION. The parse graph, the parse result and the flow key (R121–R133). -/
namespace Sys2Proof.Machine

/-- A byte of the parse window; a byte past the frame or the window is a free value (log entry 29). -/
def winByte (bs : List Byte) (o : Nat) : Nat :=
  if o < 512 then (match bs[o]? with | some b => b.toNat | none => (Config.beyondWindow o).toNat)
  else (Config.beyondWindow o).toNat

/-- A 16-bit number of the window in network byte order. -/
def win16 (bs : List Byte) (o : Nat) : Nat := winByte bs o * 256 + winByte bs (o + 1)

/-- A 32-bit number of the window in network byte order. -/
def win32 (bs : List Byte) (o : Nat) : Nat := win16 bs o * 65536 + win16 bs (o + 2)

/-- Bytes of the window, zeros for bytes past it (R123, extract). -/
def winBytes (bs : List Byte) (o n : Nat) : List Byte :=
  (List.range n).map (fun i => if o + i < 512 then (bs[o + i]?).getD 0 else 0)

/-- Word `w` of a parse state in a slot's bank. -/
def Dev.prsState (d : Dev) (slot st w : Nat) : Nat := d.tw .PRS_STATE_TBL slot st w

/-- Length of the header at an offset under a state (R122). -/
def headerLen (w0 : Nat) (bs : List Byte) (off : Nat) : Nat :=
  if bitsOf w0 46 2 == 1 then
    let b := winByte bs (off + bitsOf w0 24 8) &&& bitsOf w0 32 8
    (b >>> bitsOf w0 40 3) <<< bitsOf w0 43 3 + bitsOf w0 16 8
  else bitsOf w0 16 8

/-- Role of a state; 15 acts as 0 (R125). -/
def roleOf (w0 : Nat) : Nat := let r := bitsOf w0 8 4; if r == 15 then 0 else r

/-- Layer of a header with word 0 `w0` after the stack so far (R124). -/
def layerOf (stack : List Hdr) (w0 layer : Nat) : Nat :=
  let role := roleOf w0
  let afterTunnel := match stack.getLast? with | some h => h.role == 11 | none => false
  let again := (role == 4 || role == 5) && stack.any (fun h => h.layer == layer && 4 ≤ h.role && h.role ≤ 7)
  if afterTunnel || again || bitsOf w0 12 1 == 1 then layer + 1 else layer

/-- A selector of `bits` bits matched against transitions in index order: the first valid match (R122, R123). An 8-bit
selector is compared with bits [7:0] of the value. -/
def Dev.transition (d : Dev) (slot bits sel : Nat) : Nat → Nat → Option Nat
  | 0, _ => none
  | n + 1, i =>
    let t := d.tw .PRS_TRANS_TBL slot i 0
    let mask := bitsOf t 16 bits
    if i < 16384 && bitsOf t 46 1 == 1 && (sel &&& mask) == (bitsOf t 0 16 &&& mask) then some t
    else d.transition slot bits sel n (i + 1)

/-- End code (0–2; 3 acts as 2) and next state after a state visit (R122, R123). -/
def Dev.selectNext (d : Dev) (slot w0 w1 : Nat) (bs : List Byte) (off : Nat) : Nat × Nat :=
  let o := off + bitsOf w0 48 8
  let sel := if bitsOf w0 56 1 == 1 then win16 bs o else winByte bs o
  let t := d.transition slot (if bitsOf w0 56 1 == 1 then 16 else 8) sel (min (bitsOf w1 14 5) 16) (bitsOf w1 0 14)
  let (e, s) := match t with
    | some t => (bitsOf t 44 2, bitsOf t 32 12)
    | none => (bitsOf w1 44 2, bitsOf w1 32 12)
  (min e 2, s)

/-- One extract operation applied to the field area, cut at byte 127 (R122, R123). -/
def extractOne (area bs : List Byte) (off op : Nat) : List Byte :=
  if bitsOf op 19 1 == 0 then area
  else
    let dst := bitsOf op 12 7
    let n := min (bitsOf op 8 4 + 1) (128 - dst)
    splice area dst (winBytes bs (off + bitsOf op 0 8) n)

/-- The four extract operations of a state. -/
def Dev.extractOps (d : Dev) (slot st : Nat) : List Nat :=
  let w2 := d.prsState slot st 2
  let w3 := d.prsState slot st 3
  [bitsOf w2 0 32, bitsOf w2 32 32, bitsOf w3 0 32, bitsOf w3 32 32]

/-- Whether a role belongs to the L4 part of its layer (R126, R132). -/
def l4Role (role : Nat) : Bool := role == 8 || role == 9 || role == 10 || role == 11 || role == 14

/-- A flag set with its problem layer; `depth` marks PARSE_DEPTH. -/
def Walk.problem (w : Walk) (f : PFlag) (layer : Nat) : Walk :=
  { w with res := w.res.set f, problems := w.problems ++ [(f == .depth, layer)] }

/-- Fragment bits of an IP header: more-fragments and offset (R125). -/
def Walk.frag (w : Walk) (more : Bool) (offset layer ident : Nat) (bs : List Byte) : Walk × Bool :=
  let _ := bs
  let fresh := w.fragLayer.isNone
  let w := if fresh then { w with res := { w.res with fragId := ident } } else w
  if offset != 0 then
    (({ w with fragLayer := if fresh then some layer else w.fragLayer } : Walk).problem .fragLater layer, true)
  else if more then
    (({ w with fragLayer := if fresh then some layer else w.fragLayer } : Walk).problem .fragFirst layer, false)
  else (w, false)

/-- The checks and effects of a role; `true` when parsing ends after the header (R125). `present` is the bytes of
the frame from the header on. -/
def Walk.roleChecks (w : Walk) (role : Nat) (bs : List Byte) (off len layer : Nat) : Walk × Bool :=
  let present := bs.length - off
  let past := w.ipV6.isSome && w.ipEnd < off + len
  match role with
  | 4 =>
    let total := win16 bs (off + 2)
    let ihl := winByte bs off % 16
    let fo := win16 bs (off + 6)
    let w := { w with ipV6 := some false, ipEnd := off + total,
                      protos := w.protos ++ [(layer, winByte bs (off + 9))] }
    let w := if present < total then w.problem .lenConflict layer else w
    let w := if ihl < 5 || total < ihl * 4 then w.problem .lenMismatch layer else w
    w.frag (bitOf fo 13) (fo % 8192) layer (win16 bs (off + 4)) bs
  | 5 =>
    let pl := win16 bs (off + 4)
    let w := { w with ipV6 := some true, ipEnd := off + 40 + pl,
                      protos := w.protos ++ [(layer, winByte bs (off + 6))] }
    let w := if present < 40 + pl then w.problem .lenConflict layer else w
    (if pl == 0 then w.problem .lenMismatch layer else w, false)
  | 6 | 12 | 13 =>
    let w := { w with protos := w.protos ++ [(layer, winByte bs off)] }
    (if past && w.ipV6 == some true then w.problem .lenMismatch layer else w, false)
  | 7 =>
    let w := { w with protos := w.protos ++ [(layer, winByte bs off)] }
    let fo := win16 bs (off + 2)
    w.frag (fo % 2 == 1) (fo / 8) layer (win32 bs (off + 4)) bs
  | 8 =>
    (if winByte bs (off + 12) / 16 < 5 || past then w.problem .lenMismatch layer else w, false)
  | 9 =>
    let n := win16 bs (off + 4)
    (if n < 8 || (w.ipV6.isSome && n + off != w.ipEnd) then w.problem .lenMismatch layer else w, false)
  | 11 => ({ w with res := w.res.set .tunnel }, false)
  | _ => (w, false)

/-- Ports of a FRAG_FIRST packet's L4 header, once it is parsed (R129). -/
def Walk.fragPorts (w : Walk) (role : Nat) (bs : List Byte) (off layer : Nat) : Walk :=
  if w.fragLayer == some layer && w.res.has .fragFirst && w.res.fragPorts.isEmpty &&
      (role == 8 || role == 9 || role == 14) then
    { w with res := { w.res with fragPorts := winBytes bs off 4 } }
  else w

/-- The parse walk of R123; `n` is the headers left before the 25th. -/
def Dev.walk (d : Dev) (slot : Nat) (bs : List Byte) : Nat → Walk → Walk
  | 0, w => w.problem .depth w.layer
  | n + 1, w =>
    let w0 := d.prsState slot w.st 0
    let w1 := d.prsState slot w.st 1
    let len := headerLen w0 bs w.off
    let layer := layerOf w.res.stack w0 w.layer
    if len == 0 then { w with res := w.res.set .unknownHdr }
    else if bs.length < w.off + len then w.problem .lenConflict layer
    else if 512 < w.off + len then w.problem .depth w.layer
    else if 7 < layer then w.problem .depth w.layer
    else
      let role := roleOf w0
      let ops := d.extractOps slot w.st
      let area := ops.foldl (fun a op => extractOne a bs w.off op) w.res.area
      let writes := (ops.filter (fun op => bitsOf op 19 1 == 1)).map
        (fun op => (layer, l4Role role, bitsOf op 12 7, bitsOf op 8 4 + 1))
      let hdr : Hdr := ⟨bitsOf w0 0 8, w.off, len, layer, role⟩
      let w := if layer != w.layer then { w with ipV6 := none } else w
      let w := { w with layer := layer, writes := w.writes ++ writes,
                        res := { w.res with stack := w.res.stack ++ [hdr], area := area } }
      let (w, fin) := w.roleChecks role bs w.off len layer
      let w := w.fragPorts role bs w.off layer
      let off := w.off + len
      if fin then { w with off := off }
      else
        let (e, s) := d.selectNext slot w0 w1 bs w.off
        let w := { w with off := off }
        match e with
        | 0 => d.walk slot bs n { w with st := s }
        | 1 => w
        | _ => { w with res := w.res.set .unknownHdr }

/-- The outermost of a list of layers. -/
def outermost : List Nat → Option Nat
  | [] => none
  | l :: t => some (t.foldl min l)

/-- The IP header of a layer. -/
def ipOfLayer (stack : List Hdr) (layer : Nat) : Option Hdr :=
  stack.find? (fun h => h.layer == layer && (h.role == 4 || h.role == 5))

/-- Whether R126 keeps a layer's L2 and L3 fields under problem layer `k`. -/
def keepLayer (k : Option Nat) (layer : Nat) : Bool :=
  match k with
  | none => true
  | some 0 => layer == 0
  | some k => layer < k

/-- Whether R126 keeps a layer's L4 fields. -/
def keepL4 (k : Option Nat) (layer : Nat) : Bool :=
  match k with
  | none => true
  | some 0 => false
  | some k => layer < k

/-- Ports of the flow key from an L4 header (R131, R133). -/
def l4Ports (bs : List Byte) (h : Hdr) (v6 : Bool) : List Byte :=
  if h.role == 10 then
    let ty := winByte bs h.off
    let echo := if v6 then ty == 128 || ty == 129 else ty == 8 || ty == 0
    if echo then winBytes bs (h.off + 4) 2 ++ [0, 0] else [0, 0, 0, 0]
  else winBytes bs h.off 4

/-- Tunnel identifier of a role 11 header, by the header before it (R132). -/
def tunnelId (bs : List Byte) (h : Hdr) (before : Option Hdr) : Nat :=
  match before with
  | some b =>
    if b.role == 9 then winByte bs (h.off + 4) * 65536 + win16 bs (h.off + 5)
    else
      let f := winByte bs h.off
      if bitOf f 5 then win32 bs (h.off + (if bitOf f 7 then 8 else 4)) else 0
  | none =>
    let f := winByte bs h.off
    if bitOf f 5 then win32 bs (h.off + (if bitOf f 7 then 8 else 4)) else 0

/-- The headers of a stack with the header before each. -/
def withBefore : Option Hdr → List Hdr → List (Hdr × Option Hdr)
  | _, [] => []
  | b, h :: t => (h, b) :: withBefore (some h) t

/-- The flow key of R130–R133 and the flow layer's IP and L4 headers, under problem layer `k`. -/
def flowKey (w : Walk) (bs : List Byte) (k : Option Nat) (flowLayer zone : Nat) (outer : Bool) :
    List Byte × Option Hdr × Option Hdr :=
  let ips := w.res.stack.filter (fun h => (h.role == 4 || h.role == 5) && keepLayer k h.layer)
  let ip := if flowLayer == 0 then ips.getLast? else ips.head?
  let tail : Bool → Bool → Nat → List Byte := fun v6 frag tid =>
    BitVec.ofNat 8 (bit v6 + 2 * bit frag + 4 * bit outer) :: (beBytes 2 zone ++ beBytes 4 tid ++ List.replicate 4 (0 : Byte))
  match ip with
  | none => (List.replicate 37 0 ++ tail false false 0, none, none)
  | some h =>
    let v6 := h.role == 5
    let addrs : List Byte := if v6 then winBytes bs (h.off + 8) 32
      else
        let mapped : List Byte := List.replicate 10 0 ++ [0xFF, 0xFF]
        mapped ++ winBytes bs (h.off + 12) 4 ++ mapped ++ winBytes bs (h.off + 16) 4
    let proto := ((w.protos.filter (fun x => x.1 == h.layer)).getLast?.map Prod.snd).getD 0
    let l4 := w.res.stack.find? (fun x => x.layer == h.layer &&
      (x.role == 8 || x.role == 9 || x.role == 10 || x.role == 14))
    let ports : List Byte := match l4 with
      | some x => if keepL4 k h.layer then l4Ports bs x v6 else [0, 0, 0, 0]
      | none => [0, 0, 0, 0]
    let tuns := (withBefore none w.res.stack).filter (fun x => x.1.role == 11 && x.1.layer ≤ h.layer && keepL4 k x.1.layer)
    let tid := match tuns.getLast? with
      | some x => tunnelId bs x.1 x.2
      | none => 0
    (addrs ++ ports ++ [BitVec.ofNat 8 proto] ++ tail v6 (w.fragLayer == some h.layer) tid, some h, l4)

/-- Field area after the reduction of the classification key (R126, R129). -/
def reduceArea (w : Walk) (k : Option Nat) : List Byte :=
  match k with
  | none => w.res.area
  | some 0 => (w.writes.filter (fun x => x.1 != 0 || x.2.1)).foldl
      (fun a x => splice a x.2.2.1 (List.replicate (min x.2.2.2 (128 - x.2.2.1)) 0)) w.res.area
  | some k => (w.writes.filter (fun x => k ≤ x.1)).foldl
      (fun a x => splice a x.2.2.1 (List.replicate (min x.2.2.2 (128 - x.2.2.1)) 0)) w.res.area

/-- The parse result of a window under a start state and a slot's bank, for a port's policy (R123–R133). -/
def Dev.parseWindow (d : Dev) (slot start port : Nat) (bs : List Byte) : ParseRes :=
  let w := d.walk slot bs 24 ⟨.empty, start, 0, 0, none, 0, [], none, [], []⟩
  let kFlow := outermost (w.problems.map Prod.snd)
  let kCls := outermost ((w.problems.filter (fun x => !x.1)).map Prod.snd)
  let outer := kFlow.isSome
  let (key, ip, l4) := flowKey w bs kFlow (d.fld F.PRS_PORT_POLICY_flow_layer port)
    (d.fld F.PRS_PORT_POLICY_zone port) outer
  let r := { w.res with area := reduceArea w kCls, problem := kFlow, payload := w.off, key := key,
                        ipOff := ip.map (fun h => (h.off, h.role == 5)), l4Off := l4.map (fun h => h.off),
                        fragPorts := if w.res.has .fragFirst then w.res.fragPorts else [] }
  if outer then r.set .outerOnly else r

/-- Highest layer of a header stack. -/
def highestLayer (stack : List Hdr) : Nat := stack.foldl (fun n h => max n h.layer) 0

/-- The 288 bytes of a parse result (R129). -/
def ParseRes.bytes (r : ParseRes) : List Byte :=
  let hdr := fun (h : Hdr) => leBytes 4 (h.id + h.off * 2 ^ 8 + h.len * 2 ^ 17 + h.layer * 2 ^ 26)
  let stack := (r.stack.map hdr).flatten
  stack ++ List.replicate (96 - stack.length) (0 : Byte) ++ r.area ++ leBytes 4 r.flags ++
    leBytes 1 (r.stack.length + highestLayer r.stack * 32) ++
    leBytes 1 (match r.problem with | some k => k + 128 | none => 0) ++ leBytes 2 r.payload ++
    (r.fragPorts ++ List.replicate 4 (0 : Byte)).take 4 ++ leBytes 4 r.fragId ++ r.key

/-! ### Distribution and order (R117, R120, R140) -/

/-- Whether a parse engine is in service. -/
def Dev.prsServing (d : Dev) (p e : Nat) : Bool := !bitOf (d.fld F.PRS_ENGINE_CTRL_retired p) e

/-- Packets of a parse engine: the one in parse, then its input queue. -/
def PipeSt.queue (s : PipeSt) (e : Nat) : List Nat := s.queues.get (fun _ => []) ⟨e, 0, 0⟩

/-- The next engine in rotation with room: one in parse and two queued (R117). -/
def Dev.nextEngine (d : Dev) (p : Nat) (skip : Option Nat) : Option Nat :=
  let s := d.pipe p
  ((List.range 12).map (fun i => (s.rotate + i) % 12)).find?
    (fun e => d.prsServing p e && some e != skip && (s.queue e).length < 3)

/-- A packet put into an engine's queue; the rotation moves past it. -/
def Dev.dealTo (d : Dev) (p e id : Nat) : Dev :=
  let s := d.pipe p
  let s := { s with queues := s.queues.set (fun _ => []) ⟨e, 0, 0⟩ (s.queue e ++ [id]), rotate := (e + 1) % 12 }
  (d.setPipe p s).modPkt id (fun x => { x with loc := .engineParse e })

/-- The distributor takes the intake's head, numbers it and deals it (R117). -/
def Dev.deal (d : Dev) (p : Nat) : Dev :=
  let s := d.pipe p
  if d.flag F.PRS_HOLD_ack p then d
  else match s.intake, d.nextEngine p none with
  | id :: rest, some e =>
    let d := d.setPipe p { s with intake := rest, nextSeq := s.nextSeq + 1 }
    ((d.modPkt id (fun x => { x with seq := s.nextSeq })).dealTo p e id).pipeOcc p
  | _, _ => d

/-- A packet leaves an engine's queue. -/
def Dev.leaveEngine (d : Dev) (p e id : Nat) : Dev :=
  let s := d.pipe p
  d.setPipe p { s with queues := s.queues.set (fun _ => []) ⟨e, 0, 0⟩ ((s.queue e).filter (· != id)) }

/-- A packet is parsed again on the next engine in rotation, first in line there (R139, R140). -/
def Dev.reparse (d : Dev) (p e id : Nat) : Dev :=
  let d := d.leaveEngine p e id
  let s := d.pipe p
  let e' := (((List.range 12).map (fun i => (s.rotate + i) % 12)).find?
    (fun x => d.prsServing p x && x != e)).getD e
  let q := match s.queue e' with
    | [] => [id]
    | h :: t => h :: id :: t
  (d.setPipe p { s with queues := s.queues.set (fun _ => []) ⟨e', 0, 0⟩ q, rotate := (e' + 1) % 12 }).modPkt id
    (fun x => { x with loc := .engineParse e' })

/-- An engine out of service hands its queue to the others. -/
def Dev.engineOut (d : Dev) (p e : Nat) : Dev :=
  let ids := (d.pipe p).queue e
  ids.foldl (fun d id => d.reparse p e id) d

/-- A flag counter of a pipeline. -/
def Dev.prsCnt (d : Dev) (p k : Nat) : Dev := d.bump F.PRS_FLAG_CNT_packets (10 * p + k)

/-- Counters and treatment of the set flags (R127, R128): `true` when the packet is dropped. -/
def Dev.flagTreatment (d : Dev) (c : Clock) (port : Nat) (r : ParseRes) : Dev × Bool :=
  let p := pipeOf port
  let cnt := fun (d : Dev) (f : PFlag) (k : Nat) => if r.has f then d.prsCnt p k else d
  let d := cnt (cnt (cnt (cnt (cnt (cnt d .depth 0) .lenConflict 2) .lenMismatch 4) .fragFirst 5) .fragLater 6)
    .unknownHdr 7
  let dropDepth := r.has .depth && d.flag F.PRS_PORT_POLICY_depth_act port
  let dropConf := r.has .lenConflict && !d.flag F.PRS_PORT_POLICY_conflict_act port
  let d := if dropDepth then (d.prsCnt p 1).raiseLim c .PRS_DEPTH 2 p else d
  let d := if dropConf then (d.prsCnt p 3).raiseLim c .PRS_LEN_CONFLICT 2 p else d
  (d, dropDepth || dropConf)

/-- A requested retirement takes effect after the engine's current packet (PRS_ENGINE_CTRL.retire). -/
def Dev.retireDue (d : Dev) (p e : Nat) : Dev :=
  if !bitOf (d.fld F.PRS_ENGINE_CTRL_retire p) e then d
  else
    let d := d.put F.PRS_ENGINE_CTRL_retire p (putBit (d.fld F.PRS_ENGINE_CTRL_retire p) e false)
    let last := (List.range 12).all (fun x => x == e || !d.prsServing p x)
    if last then d
    else (d.put F.PRS_ENGINE_CTRL_retired p (putBit (d.fld F.PRS_ENGINE_CTRL_retired p) e true)).engineOut p e

/-- A parse engine finishes its packet (R123–R133). `ecc` is the graph read's outcome (R139): 0 good, 1 corrected,
2 uncorrectable and rewritten from another replica, 3 uncorrectable in every replica. -/
def Dev.parseDone (d : Dev) (c : Clock) (p e ecc : Nat) : Dev :=
  match (d.pipe p).queue e with
  | [] => d
  | id :: _ =>
    match d.pkt id with
    | none => d
    | some x =>
      if ecc == 2 then ((d.reparse p e id).ue 4 4 (p / 16) x.startState).raise c .PRS_GRAPH_ECC 2 p
      else if ecc == 3 then
        let d := (((d.prsCnt p 9).ue 4 4 (p / 16) x.startState).raise c .PRS_GRAPH_ECC 2 p [] (some 3)).pktGone c id
        (d.retireDue p e).pipeOcc p
      else
        let d := if ecc == 1 then (d.prsCnt p 8).ce 4 else d
        let r := d.parseWindow x.slot x.startState x.port x.bytes
        let d := d.leaveEngine p e id
        let (d, drop) := d.flagTreatment c x.port r
        let d := if drop then d.pktGone c id
          else d.setPkt { x with parse := r, hash := d.hash64 r.key, loc := .reorder }
        (d.retireDue p e).pipeOcc p

/-- The reorder stage passes over the positions of dropped descriptors. -/
def skipGone : Nat → Nat → List Nat → Nat × List Nat
  | 0, s, g => (s, g)
  | n + 1, s, g => if g.contains s then skipGone n (s + 1) (g.filter (· != s)) else (s, g)

/-- The next descriptor in sequence is released to classification, if it is parsed (R120). -/
def Dev.reorderRelease (d : Dev) (p : Nat) : Dev :=
  let s := d.pipe p
  let (q, gone) := skipGone s.gone.length s.releaseSeq s.gone
  let d := d.setPipe p { s with releaseSeq := q, gone := gone }
  match d.pkts.vals.find? (fun x => x.pipe == p && x.loc == .reorder && x.seq == q) with
  | none => d
  | some x =>
    if 32 ≤ (d.pipe p).clsIn.length then d
    else
      let s := d.pipe p
      let d := d.setPipe p { s with releaseSeq := q + 1, clsIn := s.clsIn ++ [x.id] }
      (d.setPkt { x with loc := .classify }).pipeOcc p

/-- A parity error inside a parse engine (R140): the packet is parsed elsewhere and the engine is retired. -/
def Dev.parseParity (d : Dev) (c : Clock) (p e : Nat) : Dev :=
  if !d.prsServing p e then d
  else
    let d := d.put F.PRS_ENGINE_CTRL_retired p (putBit (d.fld F.PRS_ENGINE_CTRL_retired p) e true)
    ((d.engineOut p e).raise c .PRS_ENGINE_RETIRED 9 (12 * p + e)).pipeOcc p

/-- W1S retire: an idle engine retires at once, a busy one after its packet; a request that would leave none in
service is ignored. -/
def Dev.parseRetire (d : Dev) (p mask : Nat) : Dev :=
  (List.range 12).foldl (fun d e =>
    let others := (List.range 12).any (fun x => x != e && d.prsServing p x &&
      !bitOf (d.fld F.PRS_ENGINE_CTRL_retire p) x)
    if bitOf mask e && d.prsServing p e && others then
      let d := d.put F.PRS_ENGINE_CTRL_retire p (putBit (d.fld F.PRS_ENGINE_CTRL_retire p) e true)
      if ((d.pipe p).queue e).isEmpty then d.retireDue p e else d
    else d) d

/-- W1C retired: engines return to service after their self-test (R140). -/
def Dev.parseReturn (d : Dev) (p mask : Nat) : Dev :=
  d.put F.PRS_ENGINE_CTRL_retired p (d.fld F.PRS_ENGINE_CTRL_retired p &&& (4095 - mask % 4096))

/-! ### Intake (R16–R18) -/

/-- A new frame that finds the intake queue full is dropped and counted (R18). -/
def Dev.intakeOverrun (d : Dev) (c : Clock) (p id : Nat) : Dev :=
  (((d.bump F.PRS_INTAKE_DROP_frames p).perf (p / 16) 0x002 (some (p % 16)) none).raiseLim c .PRS_INTAKE_OVERRUN 2 p).pktGone c id

/-- Slots of 16 open to side descriptors while new frames wait: 0 and 17–31 act as 1 (PRS_INTAKE_CTRL). -/
def Dev.recircShare (d : Dev) (p : Nat) : Nat :=
  let v := d.fld F.PRS_INTAKE_CTRL_recirc_share p
  if v == 0 || 16 < v then 1 else v

/-- The new frame the intake serves next: the port in turn keeps its turn for as many slots as it has lanes (R17). -/
def Dev.nextFrame (d : Dev) (p : Nat) : Option Pkt × PipeSt :=
  let s := d.pipe p
  let order := (List.range 16).map (fun i => 16 * p + (s.portTurn + i) % 16)
  let firstOf := fun port => (s.waiting.filterMap d.pkt).find? (fun x => x.port == port)
  let cur := 16 * p + s.portTurn
  match (if s.portServed < d.portLanes cur then firstOf cur else none) with
  | some x => (some x, { s with portServed := s.portServed + 1 })
  | none =>
    match (order.drop 1 ++ [cur]).findSome? firstOf with
    | some x => (some x, { s with portTurn := x.port % 16, portServed := 1 })
    | none => (none, s)

/-- A descriptor takes an intake slot: it enters the intake queue, stamped with the live generation unless a
recirculated pass keeps its own (R16, R172). An inject descriptor completes here with status 0 (R425). A packet
released from the Ember hold goes straight to the egress reorder (R395). -/
def Dev.takeSlot (d : Dev) (c : Clock) (p : Nat) (x : Pkt) : Dev :=
  let d := match x.txRing with | some (r, slot) => d.txComplete c r slot 0 none | none => d
  let live := d.cls.live.getLast?.getD (0, 0)
  let held := x.arrival == .heldRelease
  let keep := x.arrival == .recirc || held
  let (g, sl) := if keep then (x.gen, x.slot) else live
  let d := if x.stamped then d else d.bump F.CLS_GEN_INFLIGHT_packets sl
  let d := d.setPkt { x with gen := g, slot := sl, stamped := true,
                             loc := if held then .egress else .intake, order := d.nextPkt, txRing := none }
  let s := d.pipe p
  let d := if held then d.leaveDomain x.id else d.setPipe p { s with intake := s.intake ++ [x.id] }
  let d := { d with nextPkt := d.nextPkt + 1 }
  (d.perf (p / 16) 0x001 (some (p % 16)) none).pipeOcc p

/-- One intake slot of a pipeline (R17). A round is 16 slots; the share is read at its start. -/
def Dev.intakeSlot (d : Dev) (c : Clock) (p : Nat) : Dev :=
  if d.cls.live.isEmpty || d.net.shut then d
  else
    let s := d.pipe p
    let share := if s.slotNo == 0 then d.recircShare p else s.share
    let used := if s.slotNo == 0 then 0 else s.sideUsed
    let side := (s.side.filterMap d.pkt).head?
    let (frame, s1) := d.nextFrame p
    let step := fun (s : PipeSt) (sideSlot : Bool) =>
      { s with slotNo := (s.slotNo + 1) % 16, share := share, sideUsed := used + bit sideSlot }
    let full := 4096 ≤ s.intake.length
    let takeSide := fun (d : Dev) (x : Pkt) =>
      if full then d
      else (d.setPipe p (step { s with side := s.side.filter (fun i => i != x.id) } true)).takeSlot c p x
    let takeFrame := fun (d : Dev) (x : Pkt) =>
      let d := d.setPipe p (step { s1 with waiting := s.waiting.filter (fun i => i != x.id) } false)
      if full then d.intakeOverrun c p x.id else d.takeSlot c p x
    match side, frame with
    | none, none => d.setPipe p (step s false)
    | some x, none => takeSide d x
    | none, some x => takeFrame d x
    | some x, some y =>
      if used < share then
        let (pick, d) := d.draw Config.intakePick
        if pick || share == 16 then takeSide d x else takeFrame d y
      else takeFrame d y

end Sys2Proof.Machine
end

