-- ==== Sys2Proof/Machine/Tcam.lean ====
section
/-! DEFINITION. Rule generations' visibility and the TCAM slices: search, placement, moves, holes (R148–R159,
R164–R167, R513, R514). -/
namespace Sys2Proof.Machine

/-! ### Visibility (R165, R166) -/

/-- diff(a, b) = (int16)(a − b) (R165). -/
def genDiff (a b : Nat) : Int := signed 16 (a % 65536 + 65536 - b % 65536)

/-- Visibility of an entry with birth and death to a generation (R166). -/
def visible (g birth : Nat) (death : Option Nat) : Bool :=
  0 ≤ genDiff g birth && (match death with | none => true | some x => genDiff g x < 0)

/-- The live generation and its slot (newest committed), or generation 0 in slot 0 before any commit. -/
def Dev.liveGen (d : Dev) : Nat × Nat := d.cls.live.getLast?.getD (0, 0)

/-- The staged generation: live + 1 (R165), or 0 before generation 0 is live. -/
def Dev.stagedGen (d : Dev) : Nat := if d.cls.live.isEmpty then 0 else (d.liveGen.1 + 1) % 65536

/-- Whether the stage is open. -/
def Dev.stageOpen (d : Dev) : Bool := d.flag F.CLS_GEN_STATUS_stage_open

/-- Slot of the staged generation. -/
def Dev.stagedSlot (d : Dev) : Nat := d.fld F.CLS_GEN_STATUS_staged_slot

/-- The generation a READ sees: staged while the stage is open, live otherwise (R121, R511). -/
def Dev.readGen (d : Dev) : Nat := if d.stageOpen then d.stagedGen else d.liveGen.1

/-- Generations in use: live ones and the open staged one. -/
def Dev.gensInUse (d : Dev) : List Nat :=
  d.cls.live.map Prod.fst ++ (match d.cls.staged with | some (g, _) => [g] | none => [])

/-- A versioned entry of a table with a key visible to a generation. -/
def Dev.ventry (d : Dev) (t : TableId) (key : List Nat) (g : Nat) : Option VEntry :=
  d.cls.entries.find? (fun e => e.tbl == t.num && e.key == key && visible g e.birth e.death)

/-- A rule entry visible to a generation. -/
def Dev.ruleAt (d : Dev) (rule g : Nat) : Option RuleEntry :=
  match d.cls.rules.find? ⟨rule, 0, 0⟩ with
  | some r => if visible g r.birth r.death then some r else none
  | none => none

/-- Whether a flow's rule no longer serves it for a packet of generation `g`: not visible and revocable, or free;
the orphan ID never (R174). -/
def Dev.revokedFor (d : Dev) (rule g : Nat) : Bool :=
  if rule == 0xFFFFF then false
  else match d.cls.rules.find? ⟨rule, 0, 0⟩ with
    | none => true
    | some r => !visible g r.birth r.death && r.revoke

/-! ### Slices (R148–R150, R155) -/

/-- Entries of a slice. -/
def tcamSize : Nat := 16384

/-- N, the hole spacing in force (TCM_SLICE_CFG). -/
def Dev.holeN (d : Dev) (p : Nat) : Nat := min (max (d.fld F.TCM_SLICE_CFG_hole_spacing p) 8) 256

/-- The entries of a slice by rising index. -/
def Dev.slice (d : Dev) (p : Nat) : List (Nat × TcamEntry) :=
  (d.cls.tcam.cells.filter (fun x => x.1.a == p)).map (fun x => (x.1.b, x.2))

/-- The entry at an index. -/
def Dev.tcam (d : Dev) (p i : Nat) : Option TcamEntry := d.cls.tcam.find? ⟨p, i, 0⟩

/-- Whether an index is defective. -/
def Dev.defective (d : Dev) (p i : Nat) : Bool := d.cls.defective.contains (p, i)

/-- Whether an index is free (R513). -/
def Dev.tcamFree (d : Dev) (p i : Nat) : Bool := (d.tcam p i).isNone && !d.defective p i

/-- Free indices of a slice. -/
def Dev.freeCount (d : Dev) (p : Nat) : Nat :=
  tcamSize - (d.slice p).length - d.cls.defective.countP (fun x => x.1 == p)

/-- TCM_HOLE_STATUS judged (R155): a fall below 16,384 ÷ N raises EV_TCM_HOLES_LOW. -/
def Dev.holesEval (d : Dev) (c : Clock) (p : Nat) : Dev :=
  let n := d.freeCount p
  let was := d.flag F.TCM_HOLE_STATUS_spacing_lost p
  let low := d.flag F.TCM_SLICE_CFG_hw_holes p && n < tcamSize / d.holeN p
  let d := (d.put F.TCM_HOLE_STATUS_free p n).putB F.TCM_HOLE_STATUS_spacing_lost p low
  if low && !was then d.raise c .TCM_HOLES_LOW 2 p else d

/-- An entry written at an index. -/
def Dev.putTcam (d : Dev) (p i : Nat) (e : TcamEntry) : Dev :=
  { d with cls := { d.cls with tcam := d.cls.tcam.put ⟨p, i, 0⟩ e } }

/-- An entry invalidated. -/
def Dev.eraseTcam (d : Dev) (p i : Nat) : Dev := { d with cls := { d.cls with tcam := d.cls.tcam.erase ⟨p, i, 0⟩ } }

/-- A move copies an entry and invalidates the old place (R153). -/
def Dev.moveTcam (d : Dev) (p a b : Nat) : Dev :=
  match d.tcam p a with
  | none => d
  | some e => (d.eraseTcam p a).putTcam p b e

/-- A counter of a slice. -/
def Dev.tcmCnt (d : Dev) (p k : Nat) (n : Nat := 1) : Dev := d.bump F.TCM_CNT_count (7 * p + k) n

/-- The nearest free index at or above `i`. -/
def Dev.freeAbove (d : Dev) (p : Nat) : Nat → Nat → Option Nat
  | 0, _ => none
  | n + 1, i => if tcamSize ≤ i then none else if d.tcamFree p i then some i else d.freeAbove p n (i + 1)

/-- The nearest free index at or below `i`. -/
def Dev.freeBelow (d : Dev) (p : Nat) : Nat → Option Nat
  | 0 => if d.tcamFree p 0 then some 0 else none
  | i + 1 => if d.tcamFree p (i + 1) then some (i + 1) else d.freeBelow p i

/-- The non-defective indices of [lo, hi). -/
def Dev.usable (d : Dev) (p lo hi : Nat) : List Nat :=
  ((List.range (hi - lo)).map (fun i => lo + i)).filter (fun i => !d.defective p i)

/-- Each index of a list paired with the next one. -/
def pairs : List Nat → List (Nat × Nat)
  | a :: b :: t => (a, b) :: pairs (b :: t)
  | _ => []

/-- The entries from `lo` up to the free index `hi` moved one place up, highest first; defective indices are passed
over (R513). -/
def Dev.shiftUp (d : Dev) (p lo hi : Nat) : Dev :=
  (pairs (d.usable p lo (hi + 1))).reverse.foldl (fun d x => d.moveTcam p x.1 x.2) d

/-- The entries from just above the free index `lo` to `hi` moved one place down, lowest first. -/
def Dev.shiftDown (d : Dev) (p lo hi : Nat) : Dev :=
  (pairs (d.usable p lo (hi + 1))).foldl (fun d x => d.moveTcam p x.2 x.1) d

/-- Index where step 1 of R513 starts: just after the highest occupied index of priority `prio` or greater. -/
def Dev.placeFrom (d : Dev) (p prio : Nat) : Nat :=
  (d.slice p).foldl (fun n x => if prio ≤ x.2.prio then max n (x.1 + 1) else n) 0

/-- The lowest occupied index at or above `a`. -/
def Dev.occupiedFrom (d : Dev) (p a : Nat) : Nat :=
  ((d.slice p).find? (fun x => a ≤ x.1)).elim tcamSize Prod.fst

/-- Placement of a new entry under R513: the device and the index, or none when the slice is full. -/
def Dev.placeTcam (d : Dev) (p : Nat) (e : TcamEntry) : Dev × Option Nat :=
  let a := d.placeFrom p e.prio
  let b := d.occupiedFrom p a
  match d.freeAbove p (b - a) a with
  | some i => if i < b then (d.putTcam p i e, some i) else (d, none)
  | none =>
    let up := d.freeAbove p (tcamSize - b) (b + 1)
    let down := if a == 0 then none else d.freeBelow p (a - 1)
    let goUp := fun (d : Dev) (u : Nat) => ((d.shiftUp p b u).putTcam p b e, some b)
    let goDown := fun (d : Dev) (l : Nat) =>
      let at_ := ((d.usable p l a).getLast?).getD (a - 1)
      ((d.shiftDown p l (a - 1)).putTcam p at_ e, some at_)
    match up, down with
    | none, none => (d, none)
    | some u, none => goUp d u
    | none, some l => goDown d l
    | some u, some l => if a - l < u - b then goDown d l else goUp d u

/-! ### Background restoration (R154, R514) -/

/-- Whether a window of N indices from `i` holds no free index. -/
def Dev.windowFull (d : Dev) (p i n : Nat) : Bool := !(List.range n).any (fun k => d.tcamFree p (i + k))

/-- The first window at or above `i` that holds no free index. -/
def Dev.fullWindow (d : Dev) (p n : Nat) : Nat → Nat → Option Nat
  | 0, _ => none
  | m + 1, i => if tcamSize < i + n then none else if d.windowFull p i n then some i else d.fullWindow p n m (i + 1)

/-- One restoration: the first window of N indices with no free index gets one; the scan goes on from its top, or
from index 0 after the top of the slice (R514). -/
def Dev.holeRestore (d : Dev) (c : Clock) (p : Nat) : Dev :=
  if !d.flag F.TCM_SLICE_CFG_hw_holes p || d.flag F.TCM_HOLE_STATUS_spacing_lost p then d
  else
    let n := d.holeN p
    let start := d.cls.restoreAt.num p
    let setAt := fun (d : Dev) (i : Nat) => { d with cls := { d.cls with restoreAt := d.cls.restoreAt.setNum ⟨p, 0, 0⟩ i } }
    match d.fullWindow p n tcamSize start with
    | none => setAt d 0
    | some i =>
      let top := i + n - 1
      let d := match d.freeAbove p tcamSize (top + 1) with
        | some u => d.shiftUp p top u
        | none => (match (if i == 0 then none else d.freeBelow p (i - 1)) with
          | some l => d.shiftDown p l i
          | none => d)
      (setAt d top).holesEval c p

/-! ### Search (R149, R150, R156, R157) -/

/-- Whether an entry matches a key in a generation slot (R149). -/
def TcamEntry.hits (e : TcamEntry) (key slot : Nat) : Bool :=
  bitOf e.slots slot && ((key &&& e.mask) == (e.key &&& e.mask))

/-- True hits of a search, by rising index. -/
def Dev.tcamHits (d : Dev) (p slot key : Nat) : List Nat :=
  ((d.slice p).filter (fun x => x.2.hits key slot)).map Prod.fst

/-- Tie and order counts of a search's two lowest hits (R150). -/
def Dev.tcamOrder (d : Dev) (c : Clock) (p : Nat) (hits : List Nat) : Dev :=
  match hits with
  | i :: j :: _ =>
    (match d.tcam p i, d.tcam p j with
    | some x, some y =>
      if y.prio == x.prio then d.tcmCnt p 3
      else if x.prio < y.prio then (d.tcmCnt p 4).raiseLim c .TCM_ORDER 2 p
      else d
    | _, _ => d)
  | _ => d

/-- A false hit at an index (R156 step 1, R157): counted, evented, rewritten from its shadow; a second one within
1 s retires the index, and in hardware mode its rule is placed again. -/
def Dev.falseHit (d : Dev) (c : Clock) (p i : Nat) (sev : Option Nat) : Dev :=
  let d := (d.tcmCnt p 0).raise c .TCM_FALSE_HIT 2 p [(5, p), (14, i)] sev
  let last := d.cls.falseAt.num p i
  let again := last != 0 && c.phys + 1 - last < edgesS 1
  let d := { d with cls := { d.cls with falseAt := d.cls.falseAt.put ⟨p, i, 0⟩ (c.phys + 1) } }
  if !again then d
  else
    let old := d.tcam p i
    let d := d.eraseTcam p i
    let d := { d with cls := { d.cls with defective := d.cls.defective ++ [(p, i)] } }
    let d := (d.tcmCnt p 2).raise c .TCM_ENTRY_RETIRED 2 p [(5, p), (14, i)]
    let d := match old with
      | some e => if d.flag F.TCM_SLICE_CFG_hw_holes p then (d.placeTcam p e).1 else d
      | none => d
    d.holesEval c p

/-- What a search gives: a rule, the miss rule, or a drop after a failed repeated search. -/
def Dev.tcamSearch (d : Dev) (c : Clock) (p slot key : Nat) (wrong lost again : List Nat) : Dev × Option Nat :=
  let good := d.tcamHits p slot key
  let miss := d.fld F.TCM_SLICE_CFG_miss_rule p
  let ruleOf := fun (d : Dev) (i : Nat) => (d.tcam p i).elim miss TcamEntry.rule
  let raw := sortNat (good.filter (fun i => !lost.contains i) ++ wrong)
  let d := d.perf (p / 16) 0x020 (some (p % 16)) none
  let d := d.tcamOrder c p raw
  match raw with
  | [] => (d, some miss)
  | i :: rest =>
    if good.contains i then (d, some (ruleOf d i))
    else
      let d := d.falseHit c p i none
      let second := (rest.head?).filter good.contains
      match second with
      | some j => (d, some (ruleOf d j))
      | none =>
        let d := match rest.head? with | some j => d.falseHit c p j none | none => d
        let d := d.tcmCnt p 1
        let good := d.tcamHits p slot key
        match sortNat (good ++ again) with
        | [] => (d, some miss)
        | k :: _ => if good.contains k then (d, some (ruleOf d k)) else (d.falseHit c p k (some 3), none)

/-- The background comparison of one entry with its shadow repairs a difference (R158). -/
def Dev.shadowCheck (d : Dev) (c : Clock) (p i : Nat) (differs : Bool) : Dev :=
  if differs then d.raise c .TCM_FALSE_HIT 2 p [(5, p), (14, i)] else d

/-! ### Throttling (R159) -/

/-- t1 and t2 in force: a t2 not above t1 acts as t1 + 1. -/
def Dev.tcmTemps (d : Dev) (p : Nat) : Nat × Nat :=
  let t1 := d.fld F.TCM_THERM_CTRL_t1 p
  let t2 := d.fld F.TCM_THERM_CTRL_t2 p
  (t1, if t2 ≤ t1 then t1 + 1 else t2)

/-- Throttle state after a reading, from the present one (R159). -/
def Dev.throttleNext (d : Dev) (p temp : Nat) : Nat :=
  let (t1, t2) := d.tcmTemps p
  let s := d.fld F.TCM_THERM_STATUS_state p
  if !d.flag F.TCM_THERM_CTRL_enable p then 0
  else if t2 ≤ temp then 2
  else if s == 2 && t2 ≤ temp + 3 then 2
  else if t1 ≤ temp then 1
  else if 1 ≤ s && t1 ≤ temp + 3 then 1
  else 0

/-- A die reading moves a slice between throttle states (R159). -/
def Dev.throttle (d : Dev) (c : Clock) (p temp : Nat) : Dev :=
  let s := d.throttleNext p temp
  let was := d.fld F.TCM_THERM_STATUS_state p
  let d := (d.put F.TCM_THERM_STATUS_temp p temp).put F.TCM_THERM_STATUS_state p s
  if s == was then d else d.raise c .TCM_THROTTLE 2 p [(2, s)]

end Sys2Proof.Machine
end

