-- ==== Sys2Proof/Machine/Classify.lean ====
section
/-! DEFINITION. A classification pass (R141–R149, R160) and recirculation into intake (R172). -/
namespace Sys2Proof.Machine

/-- A counter of a pipeline's CLS instance. -/
def Dev.clsCnt (d : Dev) (p k : Nat) (n : Nat := 1) : Dev := d.bump F.CLS_CNT_packets (9 * p + k) n

/-- The word pair that selectors read from a byte list: byte 2k in the high half. -/
def chunkAt (bs : List Byte) (k : Nat) : Nat := byteAt bs (2 * k) * 256 + byteAt bs (2 * k + 1)

/-- Zone of a packet, as its flow key carries it (R130). -/
def ParseRes.zone (r : ParseRes) : Nat := chunkAt r.key 19

/-- Parse-result chunk of a selector code below 0x49 other than the range vector (R143). -/
def Dev.chunk (d : Dev) (x : Pkt) (code : Nat) : Nat :=
  if code < 0x40 then chunkAt x.parse.area code
  else if code == 0x44 then x.parse.flags % 65536
  else if code == 0x45 then x.port
  else if code == 0x46 then x.parse.zone
  else if code == 0x47 then d.fld F.CLS_PORT_CFG_vrf x.port
  else if code == 0x48 then chunkAt x.parse.bytes 114
  else 0

/-- The 64-bit range vector (R144). -/
def Dev.rangeVector (d : Dev) (x : Pkt) : Nat :=
  (List.range 64).foldl (fun n i =>
    let e := d.tw .CLS_RANGE_TBL x.slot i 0
    let src := bitsOf e 32 8
    let ok := src < 0x40 || (0x44 ≤ src && src ≤ 0x48)
    let v := d.chunk x src
    let inside := decide (bitsOf e 0 16 ≤ v) && decide (v ≤ bitsOf e 16 16)
    let hit := bitsOf e 40 1 == 1 && ok && (inside != (bitsOf e 41 1 == 1))
    n + bit hit * 2 ^ i) 0

/-- The profile of a packet (R141 stage 1). -/
def Dev.profileOf (d : Dev) (x : Pkt) : Nat :=
  if x.parse.has .tunnel then d.fld F.CLS_PORT_CFG_tunnel_profile x.port else d.fld F.CLS_PORT_CFG_key_profile x.port

/-- Byte `j` of a profile entry. -/
def Dev.profileByte (d : Dev) (slot prof j : Nat) : Nat := bitsOf (d.tw .CLS_PROFILE_TBL slot prof (j / 8)) (8 * (j % 8)) 8

/-- Results of the forwarding lookups: prefix result, exact results. -/
def selChunk (d : Dev) (x : Pkt) (ranges : Nat) (classes : List Nat) (code : Nat) : Nat :=
  if 0x40 ≤ code && code ≤ 0x43 then bitsOf ranges (16 * (code - 0x40)) 16
  else if 0x49 ≤ code && code ≤ 0x4A && code - 0x49 < classes.length then classes.getD (code - 0x49) 0
  else d.chunk x code

/-- Width in bits of a logical exact table (R146). -/
def Dev.exmWidth (d : Dev) (t : Nat) : Nat :=
  match d.fld F.CLS_EXM_CFG_width t with
  | 0 => 96
  | 1 => 224
  | _ => 480

/-- Units of 128 bits an entry of a logical exact table takes (R146). -/
def Dev.exmUnits (d : Dev) (t : Nat) : Nat :=
  match d.fld F.CLS_EXM_CFG_width t with
  | 0 => 1
  | 1 => 2
  | _ => 4

/-- Exact lookup `n` of a profile: its 32-bit result, if it hits (R143, R146). -/
def Dev.exactLookup (d : Dev) (x : Pkt) (ranges prof n : Nat) : Option Nat :=
  let ctl := d.profileByte x.slot prof (40 + n)
  let first := d.profileByte x.slot prof (42 + 2 * n)
  let last := d.profileByte x.slot prof (43 + 2 * n)
  if ctl / 128 == 0 || last < first || 39 < last then none
  else
    let t := ctl % 16
    let key := (List.range (last + 1 - first)).foldl (fun k i =>
      k + selChunk d x ranges [] (d.profileByte x.slot prof (first + i)) * 2 ^ (16 * i)) 0
    (d.ventry .CLS_EXM_TBL [t, key % 2 ^ d.exmWidth t] x.gen).map (fun e => e.data.getD 0 0)

/-- Whether a prefix entry covers an address. -/
def prefixCovers (e : VEntry) (vrf family addr : Nat) : Bool :=
  let len := e.key.getD 2 0
  let bits := if family == 0 then 32 else 128
  e.key.getD 0 0 == vrf && e.key.getD 1 0 == family && len ≤ bits &&
  addr / 2 ^ (bits - len) == e.key.getD 3 0 / 2 ^ (bits - len)

/-- The longest visible prefix of a VRF that covers an address (R145). -/
def Dev.lpm (d : Dev) (vrf family addr g : Nat) : Option VEntry :=
  let hits := d.cls.entries.filter (fun e => e.tbl == TableId.CLS_LPM_TBL.num && visible g e.birth e.death &&
    prefixCovers e vrf family addr)
  hits.foldl (fun best e => match best with
    | none => some e
    | some b => if b.key.getD 2 0 < e.key.getD 2 0 then some e else some b) none

/-- The longest-prefix result of a packet (R145): skipped without an IP header in its flow layer. -/
def Dev.lpmResult (d : Dev) (x : Pkt) : Option Nat :=
  match x.parse.ipOff with
  | none => none
  | some (_, v6) =>
    let dst := (x.parse.key.drop 16).take 16
    let addr := if v6 then ofBeBytes dst else ofBeBytes (dst.drop 12)
    (d.lpm (d.fld F.CLS_PORT_CFG_vrf x.port) (bit v6) addr x.gen).map (fun e => e.data.getD 0 0)

/-- Class of a lookup result, or the free class of a lookup without one (log entry 32). -/
def classOr (r : Option Nat) (lo n : Nat) : Nat :=
  match r with
  | some v => bitsOf v lo n
  | none => Config.classOfNone.val % 2 ^ n

/-- What resolution decides (R142). -/
inductive Verdict where
  | drop (cnt : Nat)
  | punt (group : Nat)
  | forward (handle : Nat)
  deriving DecidableEq, Repr

/-- Resolution of a rule ID with the forwarding lookups (R142): the verdict and the action's words. -/
def Dev.resolveRule (d : Dev) (rule g : Nat) (lpm ex0 ex1 : Option Nat) : Verdict × List Nat :=
  match d.ruleAt rule g with
  | none => (.drop 7, [])
  | some r =>
    match d.ventry .CLS_ACTION_TBL [r.action] g with
    | none => (.drop 7, [])
    | some a =>
      let w0 := a.data.getD 0 0
      let fwd := fun (r : Option Nat) => r.filter (fun v => bitOf v 31)
      if bitOf w0 14 then (.drop 0, a.data)
      else if bitOf w0 15 then (.punt (bitsOf w0 20 12), a.data)
      else if bitOf w0 16 then (.forward (bitsOf w0 32 20), a.data)
      else match fwd ex0, fwd ex1, lpm with
        | some v, _, _ => (.forward (bitsOf v 0 20), a.data)
        | none, some v, _ => (.forward (bitsOf v 0 20), a.data)
        | none, none, some v => (.forward (bitsOf v 0 20), a.data)
        | none, none, none => (.drop 1, a.data)

/-- The classification of the descriptor at the head of a pipeline's classification input (R141). `wrong`, `lost`
and `again` are the indices whose TCAM cells give a false hit, a false miss, and a false hit in a repeated search
(R156). -/
def Dev.classify (d : Dev) (c : Clock) (p : Nat) (wrong lost again : List Nat) : Dev :=
  if d.flag F.CLS_HOLD_ack p then d
  else match (d.pipe p).clsIn with
  | [] => d
  | id :: rest =>
    match d.pkt id with
    | none => d
    | some x =>
      let s := d.pipe p
      let d := d.setPipe p { s with clsIn := rest }
      let ranges := d.rangeVector x
      let prof := d.profileOf x
      let lpm := d.lpmResult x
      let ex0 := d.exactLookup x ranges prof 0
      let ex1 := d.exactLookup x ranges prof 1
      let classes := [classOr lpm 20 12, classOr ex0 20 11]
      let key := (List.range 40).foldl (fun k j =>
        k + selChunk d x ranges classes (d.profileByte x.slot prof j) * 2 ^ (16 * j)) 0
      let (d, rule) :=
        if d.flag F.CLS_PORT_CFG_tcam_en x.port then d.tcamSearch c p x.slot key wrong lost again
        else (d, some (d.fld F.TCM_SLICE_CFG_miss_rule p))
      match rule with
      | none => d.pktGone c id
      | some rule =>
        let (v, action) := d.resolveRule rule x.gen lpm ex0 ex1
        let x := { x with cls := ⟨rule, action, none⟩, tc := bitsOf (action.getD 0 0) 17 3 }
        match v with
        | .drop k => (d.clsCnt p k).pktGone c id
        | .punt g => (d.setPkt x).punt c id g 0
        | .forward h =>
          let x := { x with cls := { x.cls with handle := some h } }
          if bitOf (action.getD 0 0) 8 then d.setPkt { x with loc := .hearth }
          else
            let s := d.pipe p
            (d.setPkt { x with loc := .dispatch }).setPipe p { s with dispatchQ := s.dispatchQ ++ [id] }

/-- A table entry read with an uncorrectable error (R460): rewritten from the other die's copy, and the packet is
classified again; with both copies bad it is dropped and the entry captured. -/
def Dev.tableUe (d : Dev) (c : Clock) (p addr : Nat) (both : Bool) : Dev :=
  let d := d.ue 4 5 (p / 16) addr
  if !both then d
  else match (d.pipe p).clsIn with
    | [] => d
    | id :: _ => d.pktGone c id

/-- A classification whose table reads may meet an uncorrectable error: `ue` gives the entry's address and whether the
other die's copy is bad too. -/
def Dev.classifyWith (d : Dev) (c : Clock) (p : Nat) (wrong lost again : List Nat) (ue : Option (BitVec 32 × Bool)) : Dev :=
  match ue with
  | none => d.classify c p wrong lost again
  | some (addr, both) =>
    let d := d.tableUe c p addr.toNat both
    if both then d else d.classify c p wrong lost again

/-- A packet asks to recirculate (R172): its fifth request drops it, else it waits for an intake slot with its
generation, its edited window and its original port's start state. -/
def Dev.recirculate (d : Dev) (c : Clock) (id : Nat) (bytes : List Byte) : Dev :=
  match d.pkt id with
  | none => d
  | some x =>
    let p := x.pipe
    if 4 ≤ x.pass then ((d.clsCnt p 3).raiseLim c .CLS_RECIRC_LIMIT 2 p).pktGone c id
    else
      let x := { x with bytes := bytes, pass := x.pass + 1, arrival := .recirc, loc := .waiting, unordered := true,
                        startState := d.fld F.PRS_PORT_POLICY_start_state x.port, flow := none, locked := false, hold := none, stateless := false,
                        creating := false, counter := false, copy := none, entryAt := none, avoid := none,
                        mchecks := 0, frames := [] }
      let s := d.pipe p
      (((d.clsCnt p 2).perf (p / 16) 0x003 (some (p % 16)) none).setPkt x).setPipe p { s with side := s.side ++ [id] }

end Sys2Proof.Machine
end

