-- ==== Sys2Proof/Machine/Generations.lean ====
section
/-! DEFINITION. Rule generations (R164–R170, R175). -/
namespace Sys2Proof.Machine

/-- The generation-banked word tables (R164). -/
def bankedTables : List TableId := [.PRS_STATE_TBL, .PRS_TRANS_TBL, .CLS_PROFILE_TBL, .CLS_RANGE_TBL]

/-- Status fields of the generations follow the live list. -/
def Dev.genStatus (d : Dev) : Dev :=
  let d := (d.put F.CLS_GEN_STATUS_live_gen 0 d.liveGen.1).put F.CLS_GEN_STATUS_live_count 0 d.cls.live.length
  d.put F.CLS_GEN_STATUS_oldest_gen 0 ((d.cls.live.head?).elim 0 Prod.fst)

/-- The cells of a banked table in one bank, renamed to another. -/
def bankCells (cells : List (Key × Nat)) (t src dst : Nat) : List (Key × Nat) :=
  (cells.filter (fun x => x.1.a == t && x.1.b == src)).map (fun x => (⟨t, dst, x.1.c⟩, x.2))

/-- A bank copied over another, cell by cell (R169). -/
def Dev.copyBank (d : Dev) (t src dst : Nat) : Dev :=
  let cleared : Tbl Nat := ⟨d.tbls.cells.filter (fun x => !(x.1.a == t && x.1.b == dst))⟩
  { d with tbls := (bankCells d.tbls.cells t src dst).foldl (fun (tb : Tbl Nat) x => tb.setNum x.1 x.2) cleared }

/-- Preparation of a slot (R169): banks copied from the live slot, TCAM slot bits equal to the live ones. Before any
generation is live the bank is empty. -/
def Dev.prepare (d : Dev) (slot : Nat) : Dev :=
  let src := if d.cls.live.isEmpty then 8 else d.liveGen.2
  let d := bankedTables.foldl (fun d t => d.copyBank t.num src slot) d
  let live := fun (e : TcamEntry) => !d.cls.live.isEmpty && bitOf e.slots d.liveGen.2
  { d with cls := { d.cls with
    tcam := d.cls.tcam.map (fun _ e => { e with slots := putBit e.slots slot (live e) }) } }

/-- A slot no generation occupies. -/
def Dev.freeSlot (d : Dev) : Option Nat :=
  (List.range 8).find? (fun s => !d.cls.live.any (fun g => g.2 == s))

/-- The next stage begins to be prepared when a slot is free (R169). -/
def Dev.openNext (d : Dev) : Dev :=
  if d.cls.staged.isSome then d
  else match d.freeSlot with
    | none => d
    | some s =>
      let d := { d with cls := { d.cls with staged := some (d.stagedGen, s) } }
      (d.put F.CLS_GEN_STATUS_staged_slot 0 s).put F.CLS_GEN_STATUS_preparing 0 1

/-- Rules that died by this commit enter state 2 (R175). -/
def sweepRules (g : Nat) (t : Tbl RuleEntry) : Tbl RuleEntry :=
  t.map (fun _ r => if r.death == some g then { r with state := 2 } else r)

/-- The staged generation becomes live (R168, R175), and the next stage begins to be prepared. -/
def Dev.commitNow (d : Dev) : Dev :=
  match d.cls.staged with
  | none => d
  | some (g, s) =>
    let d := { d with cls := { d.cls with
      live := d.cls.live ++ [(g, s)], staged := none, rules := sweepRules g d.cls.rules } }
    let d := ((d.put F.CLS_GEN_STATUS_stage_open 0 0).put F.CLS_GEN_STATUS_commit_pending 0 0).genStatus
    d.openNext

/-- A commit (R168): at once with the stage open, else held; ignored while one is held. -/
def Dev.genCommit (d : Dev) (c : Clock) : Dev :=
  if d.flag F.CLS_GEN_STATUS_commit_pending then d.triggerBusy c .CLS_GEN_CTRL
  else if d.stageOpen then d.commitNow
  else d.put F.CLS_GEN_STATUS_commit_pending 0 1

/-- Every staged change of generation `g` discarded. -/
def Dev.discardStage (d : Dev) (g : Nat) : Dev :=
  let undead := fun (x : Option Nat) => if x == some g then none else x
  let entries := (d.cls.entries.filter (fun e => e.birth != g)).map (fun e => { e with death := undead e.death })
  let rules := (d.cls.rules.filter (fun _ r => r.birth != g || r.state == 2)).map
    (fun _ r => if r.death == some g then { r with death := none, revoke := false } else r)
  let tcam := (d.cls.tcam.filter (fun _ e => e.birth != g)).map (fun _ e => { e with death := undead e.death })
  { d with cls := { d.cls with entries := entries, rules := rules, tcam := tcam } }

/-- Every slice judged after entries went away. -/
def Dev.allHoles (d : Dev) (c : Clock) : Dev := (List.range 32).foldl (fun d p => d.holesEval c p) d

/-- An abort (R168): staged changes discarded, the staged slot prepared again. -/
def Dev.genAbort (d : Dev) (c : Clock) : Dev :=
  match d.cls.staged with
  | none => d
  | some (g, _) =>
    if !d.stageOpen then d
    else
      let d := (d.discardStage g).allHoles c
      (d.put F.CLS_GEN_STATUS_stage_open 0 0).put F.CLS_GEN_STATUS_preparing 0 1

/-- Preparation ends: the stage opens, and a held commit executes (R168, R169). -/
def Dev.prepareDone (d : Dev) : Dev :=
  match d.cls.staged with
  | none => d
  | some (_, s) =>
    if !d.flag F.CLS_GEN_STATUS_preparing then d
    else
      let d := d.prepare s
      let d := (d.put F.CLS_GEN_STATUS_preparing 0 0).put F.CLS_GEN_STATUS_stage_open 0 1
      if d.flag F.CLS_GEN_STATUS_commit_pending then d.commitNow else d

/-- Entries no longer visible to any generation in use are reclaimed, and the freed slot's TCAM bits cleared
(R170). -/
def Dev.reclaim (d : Dev) (slot : Nat) : Dev :=
  let gens := d.gensInUse
  let seen := fun (b : Nat) (x : Option Nat) => gens.any (fun g => visible g b x)
  let tcam := (d.cls.tcam.filter (fun _ e => seen e.birth e.death)).map
    (fun _ e => { e with slots := putBit e.slots slot false })
  { d with cls := { d.cls with
    entries := d.cls.entries.filter (fun e => seen e.birth e.death), tcam := tcam,
    rules := d.cls.rules.map (fun _ r =>
      if r.state == 2 && !(d.cls.live.any (fun g => visible g.1 r.birth r.death)) then { r with drained := true }
      else r) } }

/-- The oldest generation drains (R170): not live, nothing in flight in its slot. -/
def Dev.genDrained (d : Dev) (c : Clock) : Dev :=
  match d.cls.live with
  | (g, s) :: next :: rest =>
    if d.fld F.CLS_GEN_INFLIGHT_packets s != 0 then d
    else
      let d := { d with cls := { d.cls with live := next :: rest } }
      let d := ((d.reclaim s).genStatus).allHoles c
      (d.raise c .CLS_GEN_DRAINED 0 0 [(16, g)]).openNext
  | _ => d

/-! ### Revocation sweeps (R175) -/

/-- A die begins a scan: rules drained before it begin their counted scan. -/
def Dev.sweepBegin (d : Dev) (die : Nat) : Dev :=
  { d with cls := { d.cls with rules := d.cls.rules.map (fun _ r =>
      if r.state == 2 && r.drained then
        if die == 0 then { r with scan0 := max r.scan0 1 } else { r with scan1 := max r.scan1 1 }
      else r) } }

/-- A die ends a scan, whole or incomplete: a counted one completes, an incomplete one starts over; a rule done on
both dies leaves state 2 with EV_CLS_REVOKE_DONE. -/
def Dev.sweepEnd (d : Dev) (c : Clock) (die : Nat) (whole : Bool) : Dev :=
  let upd := fun n => if n == 1 then (if whole then 2 else 0) else n
  let rules := d.cls.rules.map (fun _ r =>
    if die == 0 then { r with scan0 := upd r.scan0 } else { r with scan1 := upd r.scan1 })
  let done := fun (r : RuleEntry) => r.state == 2 && r.scan0 == 2 && r.scan1 == 2
  let ids := (rules.cells.filter (fun x => done x.2)).map (fun x => x.1.a)
  let d := { d with cls := { d.cls with rules := rules.filter (fun _ r => !done r) } }
  ids.foldl (fun d id => d.raise c .CLS_REVOKE_DONE 10 0 [(20, id)]) d

end Sys2Proof.Machine
end

