-- ==== Sys2Proof/Machine/Tables.lean ====
section
/-! DEFINITION. Table operations through CLS_TBL_CMD (R146, R147, R151–R155, R161, R167, R511). -/
namespace Sys2Proof.Machine

/-- The 256 bytes of CLS_TBL_DATA. -/
def Dev.tblData (d : Dev) : List Byte := ((List.range 32).map (fun k => leBytes 8 (d.reg .CLS_TBL_DATA k).toNat)).flatten

/-- CLS_TBL_DATA filled by a READ; bytes not named read zero. -/
def Dev.setTblData (d : Dev) (bs : List Byte) : Dev :=
  (List.range 32).foldl (fun d k => d.setReg .CLS_TBL_DATA k (BitVec.ofNat 64 (ofLeBytes ((bs.drop (8 * k)).take 8)))) d

/-- A little-endian number of `n` bytes at an offset of the data. -/
def leAt (bs : List Byte) (off n : Nat) : Nat := ofLeBytes ((bs.drop off).take n)

/-- Completion of a table operation. -/
def Dev.tblStatus (d : Dev) (code : Nat) (result : Nat := 0) : Dev :=
  ((d.put F.CLS_TBL_STATUS_code 0 code).put F.CLS_TBL_STATUS_result 0 result).put F.CLS_TBL_STATUS_busy 0 0

/-- The index and table fields of CLS_TBL_CMD, as the operation names them. -/
def Dev.tblCmd (d : Dev) (t : TableId) (index : Nat) : Dev :=
  (d.put F.CLS_TBL_CMD_index 0 index).put F.CLS_TBL_CMD_table 0 (Config.sdtIndexOf t.num).toNat

/-- The slices of CLS_TBL_SLICES, lowest first. -/
def Dev.tblSlices (d : Dev) : List Nat := (List.range 32).filter (fun p => bitOf (d.fld F.CLS_TBL_SLICES_slices) p)

/-- A staging operation refused while the stage is closed (R167). -/
def Dev.stageClosed (d : Dev) (c : Clock) : Dev := (d.tblStatus 4).raise c .CLS_STAGE_CLOSED 0 0

/-- Index bound of an indexed versioned table. -/
def indexBound (t : TableId) : Nat :=
  match t with
  | .CLS_ACTION_TBL => 262144
  | .CLS_TEMPLATE_TBL => 4096
  | _ => 1048576

/-- Data bytes of an ADD to a versioned table, as words: the entry (R511). -/
def addWords (t : TableId) (bs : List Byte) : List Nat :=
  match t with
  | .CLS_ACTION_TBL => (List.range 4).map (fun w => leAt bs (8 * w) 8)
  | .CLS_TEMPLATE_TBL => (List.range 8).map (fun w => leAt bs (8 * w) 8) ++ [leAt bs 64 1]
  | .CLS_LPM_TBL => [leAt bs 20 4]
  | .CLS_EXM_TBL => [leAt bs 60 4]
  | .LBL_NH_TBL => [leAt bs 0 8, leAt bs 8 8]
  | _ => [leAt bs 0 3 % 2 ^ 20]

/-- Key of a versioned entry that an operation names, or none for a bad index (R511). -/
def Dev.opKey (d : Dev) (t : TableId) (index : Nat) (bs : List Byte) : Option (List Nat) :=
  match t with
  | .CLS_LPM_TBL =>
    let family := leAt bs 2 1 % 2
    let len := leAt bs 3 1
    let bits := if family == 0 then 32 else 128
    let addr := ofBeBytes ((bs.drop 4).take (bits / 8))
    if bits < len then none
    else some [leAt bs 0 2 % 4096, family, len, addr / 2 ^ (bits - len) * 2 ^ (bits - len)]
  | .CLS_EXM_TBL => if 16 ≤ index then none else some [index, leAt bs 0 60 % 2 ^ d.exmWidth index]
  | t => if indexBound t ≤ index then none else some [index]

/-- Units of exact-match storage in use, entries awaiting reclamation included. -/
def Dev.exmUsed (d : Dev) : Nat :=
  (d.cls.entries.filter (fun e => e.tbl == TableId.CLS_EXM_TBL.num)).foldl
    (fun n e => n + d.exmUnits (e.key.headD 0)) 0

/-- Prefixes of a family in use. -/
def Dev.lpmUsed (d : Dev) (family : Nat) : Nat :=
  d.cls.entries.countP (fun e => e.tbl == TableId.CLS_LPM_TBL.num && e.key.getD 1 0 == family)

/-- Whether a table has room for one more entry of a key (R145, R146). -/
def Dev.hasRoom (d : Dev) (t : TableId) (key : List Nat) : Dev × Bool :=
  match t with
  | .CLS_LPM_TBL => (d, d.lpmUsed (key.getD 1 0) < (if key.getD 1 0 == 0 then 2097152 else 1048576))
  | .CLS_EXM_TBL =>
    let used := d.exmUsed
    if 4194304 < used + d.exmUnits (key.headD 0) then (d, false)
    else if used ≤ 3984588 then (d, true)
    else
      let (r, d) := d.draw Config.exmRoom
      (d, r)
  | _ => (d, true)

/-- ADD to a versioned table (R147, R167). -/
def Dev.addEntry (d : Dev) (c : Clock) (t : TableId) (index : Nat) : Dev :=
  if !d.stageOpen then d.stageClosed c
  else
    let bs := d.tblData
    match d.opKey t index bs with
    | none => d.tblStatus 6
    | some key =>
      if (d.ventry t key d.stagedGen).isSome then d.tblStatus 1
      else
        let (d, room) := d.hasRoom t key
        if !room then d.tblStatus 2
        else
          let e : VEntry := ⟨t.num, key, d.stagedGen, none, addWords t bs⟩
          ({ d with cls := { d.cls with entries := d.cls.entries ++ [e] } }).tblStatus 0 index

/-- A versioned entry killed in the staged generation, or freed when only that generation sees it (R167). -/
def killEntry (g : Nat) (tbl : Nat) (key : List Nat) : List VEntry → List VEntry
  | [] => []
  | e :: t =>
    if e.tbl == tbl && e.key == key && visible g e.birth e.death then
      if e.birth == g then t else { e with death := some g } :: t
    else e :: killEntry g tbl key t

/-- DELETE from a versioned table (R167). -/
def Dev.delEntry (d : Dev) (c : Clock) (t : TableId) (index : Nat) : Dev :=
  if !d.stageOpen then d.stageClosed c
  else match d.opKey t index d.tblData with
    | none => d.tblStatus 6
    | some key =>
      if (d.ventry t key d.stagedGen).isNone then d.tblStatus 3
      else
        ({ d with cls := { d.cls with entries := killEntry d.stagedGen t.num key d.cls.entries } }).tblStatus 0 index

/-- Bytes that a READ returns after the entry: birth, death, death_valid. -/
def stampBytes (birth : Nat) (death : Option Nat) : List Byte :=
  leBytes 2 birth ++ leBytes 2 (death.getD 0) ++ leBytes 1 (bit death.isSome)

/-- A byte list padded with zeros to a length. -/
def padTo (n : Nat) (bs : List Byte) : List Byte := (bs ++ List.replicate n 0).take n

/-- READ of a versioned table (R511). -/
def Dev.readEntry (d : Dev) (t : TableId) (index : Nat) : Dev :=
  let bs := d.tblData
  match d.opKey t index bs with
  | none => d.tblStatus 6
  | some key =>
    match d.ventry t key d.readGen with
    | none => d.tblStatus 3
    | some e =>
      let words := fun (n : Nat) => ((List.range n).map (fun w => leBytes 8 (e.data.getD w 0))).flatten
      let body : List Byte := match t with
        | .CLS_ACTION_TBL => words 4
        | .CLS_TEMPLATE_TBL => padTo 68 (words 8 ++ leBytes 1 (e.data.getD 8 0))
        | .CLS_LPM_TBL => bs.take 20 ++ leBytes 4 (e.data.getD 0 0)
        | .CLS_EXM_TBL => bs.take 60 ++ leBytes 4 (e.data.getD 0 0)
        | .LBL_NH_TBL => words 2
        | _ => padTo 4 (leBytes 3 (e.data.getD 0 0))
      (d.setTblData (body ++ stampBytes e.birth e.death)).tblStatus 0 index

/-! ### The rule table (R161, R173, R175) -/

/-- ADD of a rule: refused with ID_IN_USE in state 1 or 2 (R175). -/
def Dev.addRule (d : Dev) (c : Clock) (index : Nat) : Dev :=
  if !d.stageOpen then d.stageClosed c
  else if 0xFFFFF ≤ index then d.tblStatus 6
  else if (d.cls.rules.find? ⟨index, 0, 0⟩).isSome then d.tblStatus 7
  else
    let r : RuleEntry := ⟨d.stagedGen, none, false, 1, leAt d.tblData 0 3 % 2 ^ 18, 0, 0, false⟩
    ({ d with cls := { d.cls with rules := d.cls.rules.put ⟨index, 0, 0⟩ r } }).tblStatus 0 index

/-- DELETE of a rule, which sets its revoke flag (R173). -/
def Dev.delRule (d : Dev) (c : Clock) (index : Nat) : Dev :=
  if !d.stageOpen then d.stageClosed c
  else if 0xFFFFF ≤ index then d.tblStatus 6
  else match d.ruleAt index d.stagedGen with
    | none => d.tblStatus 3
    | some r =>
      let rules := if r.birth == d.stagedGen then d.cls.rules.erase ⟨index, 0, 0⟩
        else d.cls.rules.put ⟨index, 0, 0⟩ { r with death := some d.stagedGen, revoke := leAt d.tblData 4 1 % 2 == 1 }
      ({ d with cls := { d.cls with rules := rules } }).tblStatus 0 index

/-- READ of a rule (R511). -/
def Dev.readRule (d : Dev) (index : Nat) : Dev :=
  match d.ruleAt index d.readGen with
  | none => d.tblStatus 3
  | some r =>
    let flags := bit r.revoke + 2 * bit r.death.isSome + 4 * r.state
    (d.setTblData (padTo 4 (leBytes 3 r.action) ++ padTo 4 (leBytes 1 flags) ++ leBytes 2 r.birth ++
      leBytes 2 (r.death.getD 0))).tblStatus 0 index

/-! ### TCAM operations (R148, R151–R153, R167, R511) -/

/-- The entry that the data of an ADD or WRITE_AT spells, staged. -/
def Dev.tcamEntry (d : Dev) : TcamEntry :=
  let bs := d.tblData
  ⟨leAt bs 0 80, leAt bs 80 80, leAt bs 160 2, leAt bs 164 3 % 2 ^ 20, d.stagedGen, none, 2 ^ d.stagedSlot⟩

/-- The first nonzero of a list of per-slice codes. -/
def worst (codes : List Nat) : Nat := (codes.find? (fun x => x != 0)).getD 0

/-- ADD to the slices of the mask, each placing its own copy (R148, R154, R513). -/
def Dev.tcamAdd (d : Dev) (c : Clock) : Dev :=
  if !d.stageOpen then d.stageClosed c
  else
    let e := d.tcamEntry
    let step := fun (a : Dev × List (Option Nat)) (p : Nat) =>
      let (d', i) := a.1.placeTcam p e
      ((d'.holesEval c p), a.2 ++ [i])
    let (d, placed) := d.tblSlices.foldl step (d, [])
    let code := worst (placed.map (fun i => if i.isSome then 0 else 2))
    d.tblStatus code ((placed.head?.join).getD 0)

/-- WRITE_AT of a TCAM index in each slice of the mask (R152, R167). -/
def Dev.tcamWriteAt (d : Dev) (c : Clock) (index : Nat) : Dev :=
  if !d.stageOpen then d.stageClosed c
  else if tcamSize ≤ index then d.tblStatus 6
  else
    let e := d.tcamEntry
    let live := fun (d : Dev) (p : Nat) => match d.tcam p index with
      | some o => d.cls.live.any (fun g => visible g.1 o.birth o.death)
      | none => false
    let step := fun (a : Dev × List Nat) (p : Nat) =>
      if a.1.defective p index then (a.1, a.2 ++ [6])
      else if live a.1 p then (a.1, a.2 ++ [5])
      else ((a.1.putTcam p index e).holesEval c p, a.2 ++ [0])
    let (d, codes) := d.tblSlices.foldl step (d, [])
    d.tblStatus (worst codes) index

/-- DELETE of a rule's entries in each slice of the mask (R167, R511). -/
def Dev.tcamDelete (d : Dev) (c : Clock) (rule : Nat) : Dev :=
  if !d.stageOpen then d.stageClosed c
  else
    let g := d.stagedGen
    let slot := d.stagedSlot
    let mine := fun (k : Key) (e : TcamEntry) =>
      d.tblSlices.contains k.a && e.rule == rule % 2 ^ 20 && visible g e.birth e.death
    if !d.cls.tcam.cells.any (fun x => mine x.1 x.2) then d.tblStatus 3
    else
      let tcam := (d.cls.tcam.filter (fun k e => !(mine k e && e.birth == g))).map
        (fun k e => if mine k e then { e with death := some g, slots := putBit e.slots slot false } else e)
      let slices := d.tblSlices
      let d := { d with cls := { d.cls with tcam := tcam } }
      (slices.foldl (fun d p => d.holesEval c p) d).tblStatus 0

/-- Whether a move from `a` to the free index `b` keeps the order of every rule set in use (R153). -/
def Dev.moveOk (d : Dev) (p a b : Nat) : Bool :=
  (d.tcam p a).isSome && b < tcamSize && d.tcamFree p b &&
  (d.slice p).all (fun x => x.1 ≤ min a b || max a b ≤ x.1 || x.2.slots == 0)

/-- MOVE in each slice of the mask (R153). -/
def Dev.tcamMove (d : Dev) (a : Nat) : Dev :=
  let b := leAt d.tblData 0 2
  let step := fun (s : Dev × List Nat) (p : Nat) =>
    if (s.1.tcam p a).isNone then (s.1, s.2 ++ [3])
    else if s.1.moveOk p a b then (s.1.moveTcam p a b, s.2 ++ [0])
    else (s.1, s.2 ++ [6])
  let (d, codes) := d.tblSlices.foldl step (d, [])
  d.tblStatus (worst codes) b

/-- READ of a TCAM index in the lowest slice of the mask (R511). -/
def Dev.tcamRead (d : Dev) (i : Nat) : Dev :=
  match d.tblSlices.head? with
  | none => d.tblStatus 6
  | some p =>
    if tcamSize ≤ i then d.tblStatus 6
    else
      let flags := fun (e : Option TcamEntry) =>
        bit (e.elim false (fun x => x.death.isSome)) + 2 * bit (d.defective p i) + 4 * bit e.isNone
      let e := d.tcam p i
      let x := e.getD ⟨0, 0, 0, 0, 0, none, 0⟩
      let bs := leBytes 80 x.key ++ leBytes 80 x.mask ++ leBytes 2 x.prio ++ leBytes 2 0 ++ leBytes 3 x.rule ++
        leBytes 1 0 ++ leBytes 2 x.birth ++ leBytes 2 (x.death.getD 0) ++ leBytes 1 (flags e) ++ leBytes 1 x.slots
      (d.setTblData bs).tblStatus 0 i

/-- LOCATE of the lowest index that holds a rule ID (R511). -/
def Dev.tcamLocate (d : Dev) (rule : Nat) : Dev :=
  match d.tblSlices.head? with
  | none => d.tblStatus 6
  | some p =>
    match (d.slice p).find? (fun x => x.2.rule == rule % 2 ^ 20) with
    | none => d.tblStatus 3
    | some x => d.tblStatus 0 x.1

/-- Whether a table is one of the versioned tables of R511. -/
def versioned (t : TableId) : Bool :=
  t == .CLS_ACTION_TBL || t == .CLS_TEMPLATE_TBL || t == .CLS_LPM_TBL || t == .CLS_EXM_TBL || t == .LBL_NH_TBL ||
  t == .LBL_NH_MEMBER_TBL

/-- The table that CLS_TBL_CMD.table names, if any of R511. -/
def tableOfIndex (v : Nat) : Option TableId :=
  ([TableId.TCAM, .CLS_RULE_TBL, .CLS_ACTION_TBL, .CLS_TEMPLATE_TBL, .CLS_LPM_TBL, .CLS_EXM_TBL, .LBL_NH_TBL,
    .LBL_NH_MEMBER_TBL, .LBL_SVC_TBL, .LBL_BACKEND_TBL].find? (fun t => (Config.sdtIndexOf t.num).toNat == v))

/-- Operation ADD. -/
def Dev.tblAdd (d : Dev) (c : Clock) (t : TableId) (index : Nat) : Dev :=
  let d := d.tblCmd t index
  if t == .TCAM then d.tcamAdd c
  else if t == .CLS_RULE_TBL then d.addRule c index
  else if versioned t then d.addEntry c t index
  else d.tblStatus 8

/-- Operation DELETE. -/
def Dev.tblDelete (d : Dev) (c : Clock) (t : TableId) (index : Nat) : Dev :=
  let d := d.tblCmd t index
  if t == .TCAM then d.tcamDelete c index
  else if t == .CLS_RULE_TBL then d.delRule c index
  else if versioned t then d.delEntry c t index
  else d.tblStatus 8

/-- Operation MOVE. -/
def Dev.tblMove (d : Dev) (t : TableId) (index : Nat) : Dev :=
  let d := d.tblCmd t index
  if t == .TCAM then d.tcamMove index else d.tblStatus 8

/-- Operation LOCATE. -/
def Dev.tblLocate (d : Dev) (t : TableId) (index : Nat) : Dev :=
  let d := d.tblCmd t index
  if t == .TCAM then d.tcamLocate index else d.tblStatus 8

end Sys2Proof.Machine
end

