-- ==== Sys2Proof/Machine/Ember.lean ====
section
/-! DEFINITION. The sending side of the Ember stream (R389–R391, R394, R399). -/
namespace Sys2Proof.Machine

/-- A twin counter of a die. -/
def Dev.twnCnt (d : Dev) (die k : Nat) (n : Nat := 1) : Dev := d.bump F.TWN_CNT_count (13 * die + k) n

/-- Whether this device is a twin. -/
def Dev.isTwin (d : Dev) : Bool := d.fld F.TWN_STATUS_role != 0

/-- Whether records are journaled at all: a twin role, agreeing keys and microcode (R181, R388), a peer not failed. -/
def Dev.journals (d : Dev) : Bool :=
  d.isTwin && d.twn.keysAgree && d.flag F.TWN_STATUS_compat_ok && !d.flag F.TWN_STATUS_peer_failed

/-- Whether a die's stream is up. -/
def Dev.emberUp (d : Dev) (die : Nat) : Bool := d.twn.up.num die == 1

/-- The link a die's stream uses: its own Ember link, or another one that is up (R391). -/
def Dev.emberLink (d : Dev) (die : Nat) : Option Nat :=
  let own := (d.twn.emberLinks.drop die).head?
  match own.filter d.linkUp with
  | some g => some g
  | none => d.twn.emberLinks.find? d.linkUp

/-- The channel 1 message of a die's stream. -/
def EmberMsg.msg (m : EmberMsg) (die : Nat) : PealMsg := ⟨1, m.kind + die * 2 ^ 4 + m.seq % 2 ^ 32 * 2 ^ 5, m.body, 0⟩

/-- Bytes a message takes in the backlog: header and body, rounded up to 8 (R399). -/
def EmberMsg.size (m : EmberMsg) : Nat := (8 + m.body.length + 7) / 8 * 8

/-- Unacknowledged messages of a die's stream. -/
def Dev.unacked (d : Dev) (die : Nat) : List EmberMsg := d.twn.unacked.get (fun _ => []) ⟨die, 0, 0⟩

/-- Backlog of a die. -/
def Dev.backlog (d : Dev) (die : Nat) : List EmberMsg := d.twn.backlog.get (fun _ => []) ⟨die, 0, 0⟩

/-- Unacknowledged messages set. -/
def Dev.setUnacked (d : Dev) (die : Nat) (l : List EmberMsg) : Dev :=
  { d with twn := { d.twn with unacked := d.twn.unacked.set (fun _ => []) ⟨die, 0, 0⟩ l } }

/-- Backlog set, with its count in TWN_STREAM_LAG. -/
def Dev.setBacklog (d : Dev) (die : Nat) (l : List EmberMsg) : Dev :=
  ({ d with twn := { d.twn with backlog := d.twn.backlog.set (fun _ => []) ⟨die, 0, 0⟩ l } }).put
    F.TWN_STREAM_LAG_backlog die l.length

/-- Lag of a die's stream in TS48 units (R394). -/
def Dev.lag (d : Dev) (c : Clock) (die : Nat) : Int :=
  match d.unacked die with
  | [] => 0
  | m :: _ => tsDiff c.stamp.ts48 m.sentTs48

/-- The lag bound in TS48 units: 1–500 µs (TWN_CTRL). -/
def Dev.lagBound (d : Dev) : Int := (min (max (d.fld F.TWN_CTRL_lag_bound_us) 1) 500 : Nat) * 1000 * 65536

/-- The lag register, and EV_TWN_LAG above the bound (R394). -/
def Dev.lagEval (d : Dev) (c : Clock) (die : Nat) : Dev :=
  let l := d.lag c die
  let d := d.put F.TWN_STREAM_LAG_lag_ns die (min (l.toNat / 65536) 0xFFFFFFFF)
  if d.lagBound < l then { d with twn := { d.twn with lagBadAt := c.phys + 1 } }.raiseLim c .TWN_LAG 1 die else d

/-- An entry sent on a stream that is up: kept until its ACK. -/
def Dev.emberOut (d : Dev) (c : Clock) (die : Nat) (m : EmberMsg) : Dev :=
  let m := { m with sentTs48 := c.stamp.ts48 }
  let d := d.setUnacked die (d.unacked die ++ [m])
  let d := ((d.put F.TWN_STREAM_STATUS_sent_seq die m.seq).twnCnt die 0).perf die 0x090 none none
  match d.emberLink die with
  | some g => (d.pealSend c g (m.msg die)).lagEval c die
  | none => d

/-- An entry that does not fit the backlog's 2 GiB is discarded and counted, once an episode evented (R399). -/
def Dev.toBacklog (d : Dev) (c : Clock) (die : Nat) (m : EmberMsg) : Dev :=
  let used := (d.backlog die).foldl (fun n x => n + x.size) 0
  if used + m.size ≤ 2147483648 then (d.setBacklog die (d.backlog die ++ [m])).twnCnt die 9
  else
    let first := d.twn.overflow.num die == 0
    let d := (d.twnCnt die 10).put F.TWN_STATUS_backlog_lost 0 1
    let d := { d with twn := { d.twn with overflow := d.twn.overflow.setNum ⟨die, 0, 0⟩ 1 } }
    if first then d.raise c .TWN_BACKLOG_OVERFLOW 1 die else d

/-- Next sequence of a die's stream. -/
def Dev.nextSeq (d : Dev) (die : Nat) : Nat :=
  let last := match (d.backlog die).getLast? with
    | some m => m.seq
    | none => d.fld F.TWN_STREAM_STATUS_sent_seq die
  (last + 1) % 2 ^ 32

/-- An entry journaled on a die's stream, or written to its backlog while the stream is down or the backlog not yet
drained (R389, R399, R400). Answers its sequence. -/
def Dev.emberEntry (d : Dev) (c : Clock) (die kind : Nat) (body : List Byte) : Dev × Nat :=
  if !d.journals then (d, 0)
  else
    let seq := d.nextSeq die
    let m : EmberMsg := ⟨seq, kind, body, 0⟩
    if d.emberUp die && (d.backlog die).isEmpty && !d.flag F.TWN_HOLD_ack die then (d.emberOut c die m, seq)
    else (d.toBacklog c die m, seq)

/-! ### Record images (R184–R187) -/

/-- Word 4 of a record, H fields zero. -/
def Img.word4 (i : Img) : Nat :=
  i.fpFwd + i.fpRev * 2 ^ 80 + i.record * 2 ^ 160 + 2 ^ 188 + i.rule * 2 ^ 192 + i.action * 2 ^ 212 +
    i.mirror * 2 ^ 230 + bit i.finF * 2 ^ 232 + bit i.finR * 2 ^ 233 + bit i.touched * 2 ^ 234 + bit i.pickup * 2 ^ 236

/-- The four deltas in the layout of word 5 bits [255:160]. -/
def Img.deltas (i : Img) : Nat := i.dpF + i.dpR * 2 ^ 20 + i.dbF * 2 ^ 40 + i.dbR * 2 ^ 68

/-- Word 5 of a record. -/
def Img.word5 (i : Img) : Nat :=
  i.lastSeen + i.state * 2 ^ 48 + i.opA * 2 ^ 80 + i.opB * 2 ^ 120 + i.deltas * 2 ^ 160

/-- Word 3 of a record. -/
def FlowRec.word3 (r : FlowRec) : Nat :=
  r.pktsF + r.pktsR * 2 ^ 44 + r.bytesF * 2 ^ 88 + r.bytesR * 2 ^ 136 + r.firstSeen * 2 ^ 184 + r.birthGen * 2 ^ 216 +
    r.lastSeenS * 2 ^ 232 + r.timeoutSel * 2 ^ 248 + r.flowClass * 2 ^ 252 + bit r.hostMade * 2 ^ 255

/-- The 192 bytes of a record (R184). -/
def FlowRec.bytes (r : FlowRec) : List Byte :=
  r.fwd.take 32 ++ (r.fwd.drop 32).take 16 ++ (r.rev.drop 32).take 16 ++ r.rev.take 32 ++ leBytes 32 r.word3 ++
    leBytes 32 r.img.word4 ++ leBytes 32 r.img.word5

/-- Words 4 and 5 read back. -/
def imgOf (w4 w5 : Nat) : Img where
  fpFwd := bitsOf w4 0 80
  fpRev := bitsOf w4 80 80
  record := bitsOf w4 160 28
  rule := bitsOf w4 192 20
  action := bitsOf w4 212 18
  mirror := bitsOf w4 230 2
  finF := bitOf w4 232
  finR := bitOf w4 233
  touched := bitOf w4 234
  pickup := bitOf w4 236
  lastSeen := bitsOf w5 0 48
  state := bitsOf w5 48 32
  opA := bitsOf w5 80 40
  opB := bitsOf w5 120 40
  dpF := bitsOf w5 160 20
  dpR := bitsOf w5 180 20
  dbF := bitsOf w5 200 28
  dbR := bitsOf w5 228 28

/-- A record read from its 192 bytes. -/
def recOf (bs : List Byte) : FlowRec :=
  let w3 := leAt bs 96 32
  { fwd := bs.take 48, rev := (bs.drop 64).take 32 ++ (bs.drop 48).take 16,
    pktsF := bitsOf w3 0 44, pktsR := bitsOf w3 44 44, bytesF := bitsOf w3 88 48, bytesR := bitsOf w3 136 48,
    firstSeen := bitsOf w3 184 32, birthGen := bitsOf w3 216 16, lastSeenS := bitsOf w3 232 16,
    timeoutSel := bitsOf w3 248 4, flowClass := bitsOf w3 252 3, hostMade := bitOf w3 255,
    img := imgOf (leAt bs 128 32) (leAt bs 160 32) }

/-- Deltas added to the bases modulo their widths, and zeroed (R188). -/
def FlowRec.flush (r : FlowRec) (i : Img) : FlowRec :=
  { r with pktsF := (r.pktsF + i.dpF) % 2 ^ 44, pktsR := (r.pktsR + i.dpR) % 2 ^ 44,
           bytesF := (r.bytesF + i.dbF) % 2 ^ 48, bytesR := (r.bytesR + i.dbR) % 2 ^ 48,
           img := { i with dpF := 0, dpR := 0, dbF := 0, dbR := 0 } }

/-- Mirror class of a record: 3 acts as 0 (R186), and a bound source translation forces class 2 (R267, R389). -/
def Img.mirrorClass (i : Img) : Nat := if bitOf i.opA 39 then 2 else if i.mirror == 3 then 0 else i.mirror

/-- Body of an INSERT or HOST_UPDATE: base plus delta, deltas zero (R390). -/
def FlowRec.emberImage (r : FlowRec) (i : Img) : List Byte := (r.flush i).bytes

/-- A record event journaled by its class (R389); the sequence is 0 when nothing was journaled. -/
def Dev.journal (d : Dev) (c : Clock) (die kind : Nat) (i : Img) (body : List Byte) : Dev × Nat :=
  if i.mirrorClass == 0 then (d, 0) else d.emberEntry c die kind body

/-- Body of an UPDATE (R390). -/
def Img.updateBody (i : Img) (key : List Byte) : List Byte :=
  key.take 44 ++ leBytes 4 i.state ++ leBytes 5 i.opA ++ leBytes 5 i.opB ++
    leBytes 1 (bit i.finF + 2 * bit i.finR + 4 * bit i.pickup) ++ List.replicate 5 0

/-- Body of a COUNTER (R390). -/
def Img.counterBody (i : Img) (key : List Byte) (lastSeenS : Nat) : List Byte :=
  key.take 44 ++ leBytes 12 i.deltas ++ leBytes 2 lastSeenS ++ List.replicate 6 0

/-- Body of a TOUCH (R390). -/
def touchBody (key : List Byte) (lastSeenS : Nat) : List Byte := key.take 44 ++ leBytes 2 lastSeenS ++ [0, 0]

/-- Body of a DELETE (R390). -/
def deleteBody (key : List Byte) : List Byte := key.take 44 ++ List.replicate 4 0

end Sys2Proof.Machine
end

