-- ==== Sys2Proof/Machine/FlowHash.lean ====
section
/-! DEFINITION. Keys, hashes, home banks and the index (R176–R183). -/
namespace Sys2Proof.Machine

/-- Source address of a flow key (R130), and its other fields. -/
def keySrc (k : List Byte) : List Byte := k.take 16
/-- Destination address. -/
def keyDst (k : List Byte) : List Byte := (k.drop 16).take 16
/-- Source port. -/
def keySport (k : List Byte) : Nat := ofBeBytes ((k.drop 32).take 2)
/-- Destination port. -/
def keyDport (k : List Byte) : Nat := ofBeBytes ((k.drop 34).take 2)
/-- Protocol. -/
def keyProto (k : List Byte) : Nat := byteAt k 36
/-- Zone. -/
def keyZone (k : List Byte) : Nat := ofBeBytes ((k.drop 38).take 2)
/-- Whether the key is IPv6. -/
def keyV6 (k : List Byte) : Bool := bitOf (byteAt k 37) 0

/-- A flow key of its parts; the flag byte and tunnel identifier as given. -/
def mkKey (src dst : List Byte) (sport dport proto kflags zone : Nat) (tunnel : List Byte) : List Byte :=
  src ++ dst ++ beBytes 2 sport ++ beBytes 2 dport ++ leBytes 1 proto ++ leBytes 1 kflags ++ beBytes 2 zone ++ tunnel ++
    List.replicate 4 (0 : Byte)

/-- The bank key (R178): the halves of FLW_BANK_KEY. -/
def Dev.bankKey (d : Dev) : Word × Word := (d.reg .FLW_BANK_KEY 0, d.reg .FLW_BANK_KEY 1)

/-- Basis code of a zone (R179); 3 acts as 0. -/
def Dev.basis (d : Dev) (zone : Nat) : Nat :=
  let v := d.tw .FLW_ZONE_TBL 0 zone 0 % 4
  if v == 3 then 0 else v

/-- π(q)[7:0] under the bank key. -/
def Dev.portTerm (d : Dev) (q : Nat) : Nat := (Config.portPerm d.bankKey.1 d.bankKey.2 (q % 65536)).val % 256

/-- A8 of an address part (R178). -/
def Dev.a8 (d : Dev) (part : List Byte) : Nat := (sipHash d.bankKey.1 d.bankKey.2 part).toNat % 256

/-- The address part of a key under a basis (R179). -/
def addrPart (k : List Byte) (basis : Nat) : List Byte :=
  let tail := (k.drop 36).take 1 ++ (k.drop 40).take 4
  match basis with
  | 1 => keySrc k ++ tail
  | 2 => keyDst k ++ tail
  | _ => if ofBeBytes (keySrc k) ≤ ofBeBytes (keyDst k) then keySrc k ++ keyDst k ++ tail
    else keyDst k ++ keySrc k ++ tail

/-- The port term of a key under a basis. -/
def Dev.keyPorts (d : Dev) (k : List Byte) (basis : Nat) : Nat :=
  match basis with
  | 1 => d.portTerm (keySport k)
  | 2 => d.portTerm (keyDport k)
  | _ => d.portTerm (keySport k) ^^^ d.portTerm (keyDport k)

/-- Home bank of a key (R178): 0–255; die d owns banks 128d to 128d + 127. -/
def Dev.bankOf (d : Dev) (k : List Byte) : Nat :=
  let b := d.basis (keyZone k)
  d.a8 (addrPart k b) ^^^ d.keyPorts k b

/-- Hf_i of a key (R178). -/
def Dev.hf (d : Dev) (k : List Byte) (i : Nat) : Nat := (sipHash d.flw.fpKey.1 d.flw.fpKey.2 (k ++ leBytes 1 i)).toNat

/-- Fingerprint of a key. -/
def Dev.fpOf (d : Dev) (k : List Byte) : Nat := d.hf k 0 + d.hf k 1 % 65536 * 2 ^ 64

/-- Hearth set of a key. -/
def Dev.setOf (d : Dev) (k : List Byte) : Nat := bitsOf (d.hf k 1) 16 12

/-- Index tag of a key. -/
def Dev.tagOf (d : Dev) (k : List Byte) : Nat := bitsOf (d.hf k 1) 28 32

/-- Buckets of a die (R176). -/
def Dev.buckets (d : Dev) : Nat := if d.flw.twoStack then 31457280 else 62914560

/-- Records of a die (R176). -/
def Dev.recCount (d : Dev) : Nat := if d.flw.twoStack then 100663296 else 201326592

/-- HBM channels of a die. -/
def Dev.channels (d : Dev) : Nat := if d.flw.twoStack then 16 else 32

/-- The two buckets of a key (R178). -/
def Dev.bucketsOf (d : Dev) (k : List Byte) : Nat × Nat :=
  let h := d.hf k 2
  let b := d.buckets
  let b0 := h % 2 ^ 32 * b / 2 ^ 32
  let b1 := h / 2 ^ 32 * b / 2 ^ 32
  (b0, if b1 == b0 then (b0 + 1) % b else b1)

/-- A flow counter of a die. -/
def Dev.flwCnt (d : Dev) (die k : Nat) (n : Nat := 1) : Dev := d.bump F.FLW_CNT_count (16 * die + k) n

/-- A record by die and number. -/
def Dev.frec (d : Dev) (die n : Nat) : Option FlowRec := d.flw.recs.find? ⟨die, n, 0⟩

/-- A record written. -/
def Dev.setRec (d : Dev) (die n : Nat) (r : FlowRec) : Dev := { d with flw := { d.flw with recs := d.flw.recs.put ⟨die, n, 0⟩ r } }

/-- Channels that the three chunks of a record lie in (R177, log entry 41). -/
def Dev.recChannels (d : Dev) (n : Nat) : List Nat := [0, 1, 2].map (fun j => (3 * n + j) % d.channels)

/-- The 64-byte word `u` of a die's record and index regions, as GLB_ECC_CAPTURE gives it: channel and word (R177, log
entry 41). -/
def Dev.hbmAddr (d : Dev) (u : Nat) : Nat := u % d.channels * 2 ^ 27 + u / d.channels % 2 ^ 27

/-- FLW_HBM_CH_STATUS of a channel of a die. -/
def chIx (die ch : Nat) : Nat := 32 * die + ch

/-- A corrected error of an HBM word: counted for the device and in its channel's window (R463, R464). -/
def Dev.hbmCe (d : Dev) (die u : Nat) : Dev := (d.ce 0).bumpSat F.FLW_HBM_CH_STATUS_ce_window (chIx die (u % d.channels))

/-- An uncorrectable HBM word: counted and captured, and counted in its channel's window (R463, R466). -/
def Dev.hbmUe (d : Dev) (die u : Nat) : Dev :=
  (d.ue 0 0 die (d.hbmAddr u)).bumpSat F.FLW_HBM_CH_STATUS_ue_window (chIx die (u % d.channels))

/-- Whether a record number is quarantined or retired (R212, R466, R467, R469), or was lost with a word of the free ring
(R468). -/
def Dev.recOut (d : Dev) (die n : Nat) : Bool :=
  let v := d.flw.quar.num die n
  (v != 5 && (v != 0 || (d.recChannels n).any (fun ch => d.flw.lost.num die ch != 0))) ||
    (d.rel.lostFree.get (fun _ => []) ⟨die, 0, 0⟩).contains n || (d.rel.lostFree.get (fun _ => []) ⟨die, 1, 0⟩).contains n

/-- Whether a bucket may not be read: lost with its channel or under rebuilding (R212, R467). -/
def Dev.bucketOut (d : Dev) (die b : Nat) : Bool :=
  d.swp.badBuckets.num die b != 0 || d.flw.lost.num die (b % d.channels) != 0

/-- Entries of a bucket by rising place. -/
def Dev.bucket_ (d : Dev) (die b : Nat) : List IdxEntry :=
  (List.range 8).filterMap (fun i => d.flw.index.find? ⟨die, b, i⟩)

/-- What an index lookup gives (R183). -/
inductive Lookup where
  | found (record : Nat) (dir : Bool)
  | none
  /-- A bucket or a record it needs is uncorrectable or quarantined (R212). -/
  | error
  deriving DecidableEq, Repr

/-- 64-byte accesses of HBM, counted for the stack of each access's channel: 16 channels to a stack (R2, R204, R301;
log entry 95). -/
def Dev.hbmAccess (d : Dev) (die sel : Nat) (chs : List Nat) : Dev :=
  if !d.flag F.PRF_CTRL_run then d else chs.foldl (fun d ch => d.perf die sel (some (ch / 16)) none) d

/-- The channel a bucket lies in. -/
def Dev.bucketCh (d : Dev) (b : Nat) : List Nat := [b % d.channels]

/-- The entries of a bucket whose tag matches, compared in order: the first full match, and the false tags met. -/
def Dev.matchIn (d : Dev) (die : Nat) (k : List Byte) : List IdxEntry → Nat → Option (Nat × Bool) × Nat
  | [], n => (Option.none, n)
  | e :: t, n =>
    if e.tag != d.tagOf k then d.matchIn die k t n
    else match d.frec die e.record with
      | Option.none => d.matchIn die k t (n + 1)
      | some r => if (if e.dir then r.rev else r.fwd) == k then (some (e.record, e.dir), n) else d.matchIn die k t (n + 1)

/-- The channels of the records whose keys a bucket's entries make the lookup read, up to the one that matches (R183). -/
def Dev.examined (d : Dev) (die : Nat) (k : List Byte) : List IdxEntry → List Nat
  | [] => []
  | e :: t =>
    if e.tag != d.tagOf k then d.examined die k t
    else d.recChannels e.record ++ match d.frec die e.record with
      | some r => if (if e.dir then r.rev else r.fwd) == k then [] else d.examined die k t
      | Option.none => d.examined die k t

/-- An index lookup of a key on its die (R183). -/
def Dev.lookup (d : Dev) (die : Nat) (k : List Byte) : Dev × Lookup :=
  let (b0, b1) := d.bucketsOf k
  let answer := fun (d : Dev) (r : Option (Nat × Bool)) =>
    match r with
    | some (n, dir) => if d.recOut die n then (d, Lookup.error) else (d, Lookup.found n dir)
    | Option.none => (d, Lookup.none)
  if d.bucketOut die b0 then (d, .error)
  else
    let (r, bad) := d.matchIn die k (d.bucket_ die b0) 0
    let d := (d.hbmAccess die 0x050 (d.bucketCh b0 ++ d.examined die k (d.bucket_ die b0))).flwCnt die 14 bad
    if r.isSome || d.flw.spill.num die b0 == 0 then answer d r
    else if d.bucketOut die b1 then (d, .error)
    else
      let d := (d.hbmAccess die 0x050 (d.bucketCh b1 ++ d.examined die k (d.bucket_ die b1))).flwCnt die 13
      let (r, bad) := d.matchIn die k (d.bucket_ die b1) 0
      answer (d.flwCnt die 14 bad) r

/-- A free place of a bucket. -/
def Dev.freePlace (d : Dev) (die b : Nat) : Option Nat :=
  (List.range 8).find? (fun i => (d.flw.index.find? ⟨die, b, i⟩).isNone)

/-- An index entry inserted (R183); none when both buckets are full or unusable. -/
def Dev.indexPut (d : Dev) (die : Nat) (k : List Byte) (record : Nat) (dir : Bool) : Option Dev :=
  let (b0, b1) := d.bucketsOf k
  let e : IdxEntry := ⟨d.tagOf k, record, dir⟩
  let at_ := fun b => if d.bucketOut die b then Option.none else d.freePlace die b
  match at_ b0 with
  | some i => some ({ d with flw := { d.flw with index := d.flw.index.put ⟨die, b0, i⟩ e } }.hbmAccess die 0x051 (d.bucketCh b0))
  | Option.none =>
    match at_ b1 with
    | some i => some ({ d with flw := { d.flw with
        index := d.flw.index.put ⟨die, b1, i⟩ e, spill := d.flw.spill.setNum ⟨die, b0, 0⟩ 1 } }.hbmAccess die 0x051
          (d.bucketCh b0 ++ d.bucketCh b1))
    | Option.none => Option.none

/-- Every index entry that names a record invalidated (R203, R469). -/
def Dev.indexDrop (d : Dev) (die record : Nat) : Dev :=
  let ks := (d.flw.index.cells.filter (fun x => x.1.a == die && x.2.record == record)).flatMap (fun x => d.bucketCh x.1.b)
  { d with flw := { d.flw with index := d.flw.index.filter (fun k e => !(k.a == die && e.record == record)) } }.hbmAccess die
    0x051 ks

/-- Spill bit of a key's first bucket cleared when none of the die's keys of that bucket is held in its second one
(R183, step 6 of R207). -/
def Dev.spillClear (d : Dev) (die b0 : Nat) : Dev :=
  let held := d.flw.index.cells.any (fun x =>
    x.1.a == die && x.1.b != b0 &&
    (match d.frec die x.2.record with
      | some r => (d.bucketsOf (if x.2.dir then r.rev else r.fwd)).1 == b0
      | Option.none => false))
  if held then d else { d with flw := { d.flw with spill := d.flw.spill.setNum ⟨die, b0, 0⟩ 0 } }

/-- The first usable number of a free ring (R177): numbers never used in rising order, then those returned, in order;
a number out of use is passed over and goes back to the tail. -/
def Dev.takeFree (d : Dev) (die : Nat) : Nat → Option (Dev × Nat)
  | 0 => Option.none
  | fuel + 1 =>
    let k : Key := ⟨die, 0, 0⟩
    let n := d.flw.fresh.num die
    let ret := d.flw.returned.get (fun _ => []) k
    if n < d.recCount then
      let d := { d with flw := { d.flw with fresh := d.flw.fresh.setNum k (n + 1) } }
      if d.recOut die n then
        { d with flw := { d.flw with returned := d.flw.returned.set (fun _ => []) k (ret ++ [n]) } }.takeFree die fuel
      else some (d, n)
    else match ret with
      | [] => Option.none
      | m :: t =>
        if d.recOut die m then
          { d with flw := { d.flw with returned := d.flw.returned.set (fun _ => []) k (t ++ [m]) } }.takeFree die fuel
        else some ({ d with flw := { d.flw with returned := d.flw.returned.set (fun _ => []) k t } }, m)

/-- A record number taken from the free ring (R177). -/
def Dev.takeRecord (d : Dev) (die : Nat) : Option (Dev × Nat) :=
  d.takeFree die (d.recCount + (d.flw.returned.get (fun _ => []) ⟨die, 0, 0⟩).length)

/-- A record number returned to the tail of the free ring. -/
def Dev.freeRecord (d : Dev) (die n : Nat) : Dev :=
  let k : Key := ⟨die, 0, 0⟩
  { d with flw := { d.flw with returned := d.flw.returned.set (fun _ => []) k (d.flw.returned.get (fun _ => []) k ++ [n]) } }

/-- Records in use on a die, in FLW_RECORDS. -/
def Dev.recLive (d : Dev) (die : Nat) : Dev :=
  d.put F.FLW_RECORDS_live die (d.flw.recs.cells.countP (fun x => x.1.a == die))

end Sys2Proof.Machine
end

