-- ==== Sys2Proof/Machine/NatState.lean ====
section
/-! DEFINITION. Translated ports, subscribers, quarantine and backend connections of records (R257–R267, R268). -/
namespace Sys2Proof.Machine

/-- A NAT counter of a die. -/
def Dev.natCnt (d : Dev) (die k : Nat) : Dev := d.bump F.NAT_CNT_count (16 * die + k)

/-- An LBL counter of a die. -/
def Dev.lblCnt (d : Dev) (die k : Nat) : Dev := d.bump F.LBL_CNT_count (8 * die + k)

/-! ### The fields that the device reads in hardware (R257, R258) -/

/-- A source translation is bound. -/
def Img.snatValid (i : Img) : Bool := bitOf i.opA 39
/-- Translated port, or echo identifier. -/
def Img.xport (i : Img) : Nat := bitsOf i.opA 0 16
/-- NAT_ADDR_TBL index. -/
def Img.addrIdx (i : Img) : Nat := bitsOf i.opA 16 10
/-- Protocol class: 0 TCP, 1 UDP, 2 ICMP echo. -/
def Img.pclass (i : Img) : Nat := bitsOf i.opA 26 2
/-- Original port. -/
def Img.origPort (i : Img) : Nat := bitsOf i.opB 0 16
/-- Subscriber entry. -/
def Img.subIdx (i : Img) : Nat := bitsOf i.opB 16 18
/-- A backend is bound. -/
def Img.lbValid (i : Img) : Bool := bitOf i.state 8
/-- LBL_BACKEND_TBL index. -/
def Img.backend (i : Img) : Nat := bitsOf i.state 12 20

/-- Key of a port in the in-use maps. -/
def portKey (die addr pclass port : Nat) : Key := ⟨die, 4 * addr + pclass, port⟩

/-- Whether a port is marked in use on a die (R263). -/
def Dev.portUsed (d : Dev) (die addr pclass port : Nat) : Bool := d.nat.ports.get (fun _ => 0) (portKey die addr pclass port) == 1

/-- A port marked or cleared in a die's map. -/
def Dev.markPort (d : Dev) (die addr pclass port : Nat) (used : Bool) : Dev :=
  { d with nat := { d.nat with ports := d.nat.ports.setNum (portKey die addr pclass port) (bit used) } }

/-- NAT_STATUS of both dies: ports in quarantine and subscriber entries in use. -/
def Dev.natStatus (d : Dev) : Dev :=
  [0, 1].foldl (fun d die =>
    (d.put F.NAT_STATUS_quarantine die (d.nat.quar.countP (fun q => q.die == die))).put F.NAT_STATUS_subscribers die
      d.nat.subs.cells.length) d

/-- The pool that an address index belongs to: the first whose run holds it. -/
def Dev.poolOfAddr (d : Dev) (addr : Nat) : Option Nat :=
  (List.range 256).find? (fun k =>
    (addr + 1024 - d.fld F.NAT_POOL_CFG_first k) % 1024 < d.fld F.NAT_POOL_CFG_count k)

/-! ### Subscribers (R265) -/

/-- The entry of an address. -/
def Dev.subFind (d : Dev) (a : List Byte) : Option Nat :=
  (d.nat.subs.cells.find? (fun x => x.2.addr == a)).map (fun x => x.1.a)

/-- The subscriber entry `n`. -/
def Dev.sub (d : Dev) (n : Nat) : Option Sub := d.nat.subs.find? ⟨n, 0, 0⟩

/-- An entry changed; one that nothing names or holds any more is freed. -/
def Dev.subSet (d : Dev) (n : Nat) (s : Sub) : Dev :=
  let t := if s.count == 0 && s.held == 0 then d.nat.subs.erase ⟨n, 0, 0⟩ else d.nat.subs.put ⟨n, 0, 0⟩ s
  ({ d with nat := { d.nat with subs := t } }).natStatus

/-- A free entry for an address not yet held: a free value picks it (log entry 44). -/
def Dev.subPick (d : Dev) : Option (Dev × Nat) :=
  if 262144 ≤ d.nat.subs.cells.length then none
  else
    let (pick, d) := d.draw Config.subscriberPick
    let used := d.nat.subs.cells.map (fun x => x.1.a)
    let start := pick % 262144
    let n := ((List.range (used.length + 1)).map (fun i => (start + i) % 262144)).find? (fun i => !used.contains i)
    n.map (fun n => (d, n))

/-- An address found or interned (R265): its entry, or none with the table full. -/
def Dev.intern (d : Dev) (c : Clock) (die : Nat) (a : List Byte) : Dev × Option Nat :=
  match d.subFind a with
  | some n => (d, some n)
  | none =>
    match d.subPick with
    | some (d, n) => (d, some n)
    | none => ((d.natCnt die 4).raiseLim c .NAT_SUB_FULL 0 0 [] 1000, none)

/-- Bindings that name an entry changed by one. -/
def Dev.subCount (d : Dev) (n : Nat) (a : List Byte) (up : Bool) : Dev :=
  let s := (d.sub n).getD ⟨a, 0, 0⟩
  d.subSet n { s with count := if up then s.count + 1 else s.count - 1 }

/-- Reservations that hold an entry changed by one. -/
def Dev.subHold (d : Dev) (n : Nat) (a : List Byte) (up : Bool) : Dev :=
  let s := (d.sub n).getD ⟨a, 0, 0⟩
  d.subSet n { s with held := if up then s.held + 1 else s.held - 1 }

/-! ### Backends (R268, R269) -/

/-- A field of a backend entry. -/
def Dev.backend (d : Dev) (b w lo n : Nat) : Nat := bitsOf (d.tw .LBL_BACKEND_TBL 0 b w) lo n

/-- Records that name a backend. -/
def Dev.conns (d : Dev) (b : Nat) : Nat := d.backend b 3 32 32

/-- Records that name a backend, changed. -/
def Dev.setConns (d : Dev) (b n : Nat) : Dev := d.setTw .LBL_BACKEND_TBL 0 b 3 (putBits (d.tw .LBL_BACKEND_TBL 0 b 3) 32 32 n)

/-- A field of a service entry. -/
def Dev.svc (d : Dev) (s w lo n : Nat) : Nat := bitsOf (d.tw .LBL_SVC_TBL 0 s w) lo n

/-! ### Records made and deleted -/

/-- A port enters the die's quarantine ring, or is freed at once with the ring full (R264). -/
def Dev.quarantine (d : Dev) (c : Clock) (die : Nat) (i : Img) : Dev :=
  let d := d.natCnt die 1
  if 16777216 ≤ d.nat.quar.countP (fun q => q.die == die) then
    ((d.natCnt die 5).raiseLim c .NAT_QUARANTINE_FULL 1 die [] 1000).markPort die i.addrIdx i.pclass i.xport false
  else
    let q : QPort := ⟨die, i.addrIdx, i.pclass, i.xport, (d.poolOfAddr i.addrIdx).getD 256, c.phys⟩
    ({ d with nat := { d.nat with quar := d.nat.quar ++ [q] } }).natStatus

/-- What a deleted record names is released (R258, R264, R265, R269). -/
def Dev.releaseBinding (d : Dev) (c : Clock) (die : Nat) (i : Img) : Dev :=
  let d := if i.snatValid then (d.quarantine c die i).subCount i.subIdx [] false else d
  if i.lbValid then d.setConns i.backend (d.conns i.backend - 1) else d

/-- Seconds a quarantined port is held. -/
def Dev.holdS (d : Dev) (q : QPort) : Nat := if q.pool < 256 then d.fld F.NAT_POOL_CFG2_hold_s q.pool else 0

/-- Ports of a die held their time in quarantine return to use (R264). -/
def Dev.quarRelease (d : Dev) (c : Clock) (die : Nat) : Dev :=
  let due := fun (q : QPort) => q.die == die && edgesS (d.holdS q) ≤ c.phys - q.at_
  let d := (d.nat.quar.filter due).foldl (fun d q => d.markPort q.die q.addr q.pclass q.port false) d
  ({ d with nat := { d.nat with quar := d.nat.quar.filter (fun q => !due q) } }).natStatus

/-- Quarantined ports of a die that pass a test freed at once and counted as overflow (R466, R468). -/
def Dev.quarLost (d : Dev) (c : Clock) (die : Nat) (only : QPort → Bool) : Dev :=
  let qs := d.nat.quar.filter (fun q => q.die == die && only q)
  let d := qs.foldl (fun d q => (d.natCnt die 5).markPort q.die q.addr q.pclass q.port false) d
  let d := if qs.isEmpty then d else d.raiseLim c .NAT_QUARANTINE_FULL 1 die [] 1000
  ({ d with nat := { d.nat with quar := d.nat.quar.filter (fun q => !(q.die == die && only q)) } }).natStatus

/-- A record that came from a host command or from the peer takes up what it names (R266, R267): its port is marked
in use, its subscriber interned and named, and its backend's connections counted. Answers the image with this
device's own sub_idx; none when the subscriber table is full. -/
def Dev.takeBinding (d : Dev) (c : Clock) (die : Nat) (fwd : List Byte) (i : Img) : Dev × Img :=
  let d := if i.lbValid then d.setConns i.backend (d.conns i.backend + 1) else d
  if !i.snatValid then (d, i)
  else
    let d := d.markPort die i.addrIdx i.pclass i.xport true
    match d.intern c die (keySrc fwd) with
    | (d, some n) => (d.subCount n (keySrc fwd) true, { i with opB := putBits i.opB 16 18 n })
    | (d, none) => (d, i)

end Sys2Proof.Machine
end

