-- ==== Sys2Proof/Machine/Fifo.lean ====
section
/-! DEFINITION. Internal FIFOs (R323–R331). FIFO f = 512d + j is flat index f of every FIF register. -/
namespace Sys2Proof.Machine

/-- State of FIFO `f` beside its registers. -/
def Dev.fifo (d : Dev) (f : Nat) : Fifo := d.fifos.get (fun _ => Fifo.init) ⟨f, 0, 0⟩

/-- A FIFO's state set. -/
def Dev.setFifo (d : Dev) (f : Nat) (x : Fifo) : Dev := { d with fifos := d.fifos.set (fun _ => Fifo.init) ⟨f, 0, 0⟩ x }

/-- A FIFO counter advanced. -/
def Dev.fifCnt (d : Dev) (f k : Nat) (n : Nat := 1) : Dev := d.bump F.FIF_CNT_count (6 * f + k) n

/-- Longest item in words (0 acts as 1). -/
def Dev.fifMax (d : Dev) (f : Nat) : Nat := max (d.fld F.FIF_CFG_max_item f) 1

/-- Whether the FIFO frames with a length word (mode 1). -/
def Dev.fifLen (d : Dev) (f : Nat) : Bool := d.flag F.FIF_CFG_mode f

/-- Words an item takes in the FIFO: its words, and its length word in mode 1 (R327). -/
def Dev.itemCost (d : Dev) (f : Nat) (i : FItem) : Nat := i.words.length + (if d.fifLen f then 1 else 0)

/-- Words of the whole items (R328). -/
def Dev.wholeWords (d : Dev) (f : Nat) : Nat := (d.fifo f).whole.foldl (fun n i => n + d.itemCost f i) 0

/-- Credits a slot holds. -/
def Dev.credits (d : Dev) (f s : Nat) : Nat := d.fld F.FIF_PROD_held (4 * f + s)

/-- Credits returned to a slot, up to its granted count (R327). -/
def Dev.credit (d : Dev) (f s n : Nat) : Dev :=
  d.put F.FIF_PROD_held (4 * f + s) (min (d.credits f s + n) (d.fld F.FIF_PROD_credits (4 * f + s)))

/-- Status fields of a FIFO follow its contents. -/
def Dev.fifStatus (d : Dev) (f : Nat) : Dev :=
  let x := d.fifo f
  let part := match x.partialItem with
    | some i => d.itemCost f i
    | none => 0
  let words := d.wholeWords f + part - x.reading.length - bit x.lenRead
  let d := (d.put F.FIF_STATUS_items f x.whole.length).put F.FIF_STATUS_words f words
  let d := d.putB F.FIF_STATUS_mid_item f x.partialItem.isSome
  match x.partialItem with
  | some i => d.put F.FIF_STATUS_holder f i.slot
  | none => d

/-- An item's bytes as delivered to a host: its words little-endian, cut to its declared length in mode 1. -/
def FItem.bytes (i : FItem) : List Byte :=
  let bs := i.words.flatMap (fun w => leBytes 8 w.data.toNat)
  if i.len == 0 then bs else bs.take i.len

/-- Whole items delivered to a host consumer's ring group, oldest first, until one stays (R328, R421). -/
def Dev.fifDeliver (d : Dev) (c : Clock) (f : Nat) : Nat → Dev
  | 0 => d
  | n + 1 =>
    match (d.fifo f).whole with
    | [] => d
    | i :: rest =>
      let info : RxInfo :=
        { stamp := c.stamp, port := 0, ident := f, reason := 6, gen := 0, tc := 0, colour := 0, pipe := 0, pass := 0,
          hash := 0, key := [], record := none, shed := 0xFF, cls := 0, item := true,
          poison := i.words.any (fun w => w.poison) }
      let (d, taken) := d.rxDeliver c (d.fld F.FIF_CFG_ring f) info i.bytes
      if !taken then d
      else
        let d := d.setFifo f { d.fifo f with whole := rest, lastRead := c.phys }
        ((d.credit f i.slot (d.itemCost f i)).fifCnt f 0).fifDeliver c f n

/-- The FIFO wakes its consumer (R328): a host consumer has the whole items delivered. -/
def Dev.fifWake (d : Dev) (c : Clock) (f : Nat) : Dev :=
  let d := d.setFifo f { d.fifo f with woken := true, lastRead := c.phys }
  if d.fld F.FIF_CFG_consumer f == 2 then (d.fifDeliver c f (d.fifo f).whole.length).fifStatus f else d.fifStatus f

/-- An item becomes whole; whole words at or above wake_level wake the consumer (R325, R328). -/
def Dev.fifWhole (d : Dev) (c : Clock) (f : Nat) (i : FItem) : Dev :=
  let x := d.fifo f
  let d := d.setFifo f { x with whole := x.whole ++ [i], partialItem := none,
                                lastRead := if x.whole.isEmpty then c.phys else x.lastRead }
  if d.fld F.FIF_CFG_wake_level f ≤ d.wholeWords f then d.fifWake c f else d.fifStatus f

/-- The slot of a FIFO whose producer identity is `p`, when valid. -/
def Dev.fifSlot (d : Dev) (f p : Nat) : Option Nat :=
  (List.range 4).find? (fun s => d.flag F.FIF_PROD_valid (4 * f + s) && d.fld F.FIF_PROD_producer (4 * f + s) == p)

/-- A word of a producer whose remaining words are dropped (R330): consumed and its credit returned. -/
def Dev.fifDropWord (d : Dev) (f slot left : Nat) (endBit : Bool) : Dev :=
  let x := d.fifo f
  if left == 0 then (if endBit then d.setFifo f { x with tail := none } else d)
  else if left == 1 then d.setFifo f { x with tail := none }
  else d.setFifo f { x with tail := some (slot, left - 1) }

/-- The first word of an item of slot `s` (R325, R327). -/
def Dev.fifFirst (d : Dev) (c : Clock) (f s : Nat) (data : Word) (endBit : Bool) (len : Nat) : Dev :=
  let x := d.fifo f
  if !d.flag F.FIF_CFG_enable f || !d.flag F.FIF_PROD_valid (4 * f + s) || d.flag F.FIF_STATUS_flush_busy f && x.tail.isSome then d
  else if d.fifLen f then
    let n := (len + 7) / 8
    if len == 0 || d.fifMax f < n then
      (d.setFifo f { x with tail := if n ≤ 1 then none else some (s, n - 1) }).fifCnt f 5
    else if d.credits f s < 2 then d
    else
      let d := d.put F.FIF_PROD_held (4 * f + s) (d.credits f s - 2)
      let i : FItem := ⟨s, len, [⟨data, false⟩]⟩
      if n == 1 then d.fifWhole c f i
      else (d.setFifo f { x with partialItem := some i, lastWrite := c.phys }).fifStatus f
  else if d.credits f s == 0 then d
  else
    let d := d.put F.FIF_PROD_held (4 * f + s) (d.credits f s - 1)
    let i : FItem := ⟨s, 0, [⟨data, false⟩]⟩
    if endBit then d.fifWhole c f i
    else (d.setFifo f { x with partialItem := some i, lastWrite := c.phys }).fifStatus f

/-- A later word of the item in progress (R325, R326): a mode 0 item that reaches max_item + 1 words is ended
there, poisoned, and its producer's later words are dropped (R329, R331; log entry 13). -/
def Dev.fifNext (d : Dev) (c : Clock) (f s : Nat) (i : FItem) (data : Word) (endBit : Bool) : Dev :=
  if d.credits f s == 0 then d
  else
    let x := d.fifo f
    let d := d.put F.FIF_PROD_held (4 * f + s) (d.credits f s - 1)
    let ws := i.words ++ [⟨data, false⟩]
    if d.fifLen f then
      if (i.len + 7) / 8 ≤ ws.length then d.fifWhole c f { i with words := ws }
      else (d.setFifo f { x with partialItem := some { i with words := ws }, lastWrite := c.phys }).fifStatus f
    else if endBit then d.fifWhole c f { i with words := ws }
    else if d.fifMax f < ws.length then
      let d := d.setFifo f { x with tail := some (s, 0) }
      (d.fifCnt f 5).fifWhole c f { i with words := i.words ++ [⟨data, true⟩] }
    else (d.setFifo f { x with partialItem := some { i with words := ws }, lastWrite := c.phys }).fifStatus f

/-- A producer writes one word (R325–R327). `len` is the declared length of a mode 1 item, given with its first
word. While another producer is mid-item the word waits in its producer. -/
def Dev.fifWrite (d : Dev) (c : Clock) (f s : Nat) (data : Word) (endBit : Bool) (len : Nat) : Dev :=
  let x := d.fifo f
  match x.tail with
  | some (ts, left) =>
    if ts == s then d.fifDropWord f s left endBit
    else match x.partialItem with
      | some i => if i.slot == s then d.fifNext c f s i data endBit else d
      | none => d.fifFirst c f s data endBit len
  | none =>
    match x.partialItem with
    | some i => if i.slot == s then d.fifNext c f s i data endBit else d
    | none => d.fifFirst c f s data endBit len

/-- A whole item of words written by a producer identity at once; `false` when it has no slot, no credits, or the
FIFO takes no new item (R237, R295, R327). -/
def Dev.fifPush (d : Dev) (c : Clock) (f p : Nat) (words : List Word) : Dev × Bool :=
  match d.fifSlot f p with
  | none => (d, false)
  | some s =>
    let cost := words.length + (if d.fifLen f then 1 else 0)
    if !d.flag F.FIF_CFG_enable f || d.credits f s < cost || (d.fifo f).partialItem.isSome then (d, false)
    else if d.fifMax f < words.length then (d.fifCnt f 5, true)
    else
      let d := d.put F.FIF_PROD_held (4 * f + s) (d.credits f s - cost)
      let len := if d.fifLen f then 8 * words.length else 0
      (d.fifWhole c f ⟨s, len, words.map (fun w => ⟨w, false⟩)⟩, true)

/-- The consumer reads a word (R327, R329): in mode 1 the length word first. `parity` is 0 good, 1 a bad word
(poisoned, never dropped), 2 a bad end bit or length word, which ends the item at this word. Answers the item when
this word was its last. -/
def Dev.fifRead (d : Dev) (c : Clock) (f parity : Nat) : Dev × Option FItem :=
  let x := d.fifo f
  match x.whole with
  | [] => (d, none)
  | i :: rest =>
    let d := d.credit f i.slot 1
    let d := if parity == 0 then d else (d.fifCnt f 1).raiseLim c .FIF_PARITY 10 f
    if d.fifLen f && !x.lenRead && parity != 2 then
      ((d.setFifo f { x with lenRead := true, lastRead := c.phys, woken := false }).fifStatus f, none)
    else
      let w := (i.words[x.reading.length]?).getD ⟨0, false⟩
      let got := x.reading ++ [{ w with poison := w.poison || parity != 0 }]
      let last := i.words.length ≤ got.length || parity == 2
      if last then
        let d := d.credit f i.slot (i.words.length - got.length)
        let d := if parity == 2 then d.fifCnt f 2 else d
        let d := d.setFifo f { x with whole := rest, reading := [], lenRead := false, lastRead := c.phys, woken := false }
        ((d.fifCnt f 0).fifStatus f, some { i with words := got })
      else ((d.setFifo f { x with reading := got, lastRead := c.phys, woken := false }).fifStatus f, none)

/-- No read for the idle time while a whole item is present wakes the consumer (R328). -/
def Dev.fifIdle (d : Dev) (c : Clock) (f : Nat) : Dev :=
  let idle := min (d.fld F.FIF_TIMER_idle f) 15625
  if idle != 0 && !(d.fifo f).whole.isEmpty && idle * 80 ≤ c.phys - (d.fifo f).lastRead then d.fifWake c f else d

/-- Credits of every discarded word returned to its slot. -/
def Dev.fifReturn (d : Dev) (f : Nat) (items : List FItem) : Dev :=
  items.foldl (fun d i => d.credit f i.slot (d.itemCost f i)) d

/-- Words a producer mid-item still owes: 0 for up to its end bit. -/
def Dev.fifLeft (d : Dev) (f : Nat) (i : FItem) : Nat :=
  if d.fifLen f then (i.len + 7) / 8 - i.words.length else 0

/-- Flush (R330): every whole item and the partial item discarded, flush_busy set, the producer's tail dropped. -/
def Dev.fifFlush (d : Dev) (c : Clock) (f : Nat) : Dev :=
  if d.flag F.FIF_STATUS_flush_busy f then d.triggerBusy c .FIF_CTRL
  else
    let x := d.fifo f
    let d := d.fifReturn f (x.whole ++ x.partialItem.toList)
    let d := d.fifCnt f 3 (x.whole.length + x.partialItem.toList.length)
    let tail := match x.partialItem with
      | some i => some (i.slot, d.fifLeft f i)
      | none => x.tail
    let d := d.setFifo f { x with whole := [], partialItem := none, reading := [], lenRead := false, tail := tail }
    (d.put F.FIF_STATUS_flush_busy f 1).fifStatus f

/-- The flushed tail has ended: flush_busy clears (R330). -/
def Dev.fifFlushDone (d : Dev) (c : Clock) (f : Nat) : Dev :=
  if d.flag F.FIF_STATUS_flush_busy f && (d.fifo f).tail.isNone then
    (d.put F.FIF_STATUS_flush_busy f 0).raise c .FIF_FLUSH_DONE 10 f [(10, f)]
  else d

/-- A producer silent mid-item for 1 µs (R331). -/
def Dev.fifStall (d : Dev) (c : Clock) (f : Nat) : Dev :=
  let x := d.fifo f
  match x.partialItem with
  | none => d
  | some i =>
    if c.phys - x.lastWrite < edgesUs 1 then d
    else
      let d := d.fifReturn f [i]
      let d := d.setFifo f { x with partialItem := none, tail := some (i.slot, d.fifLeft f i) }
      ((d.fifCnt f 4).fifStatus f).raise c .FIF_PRODUCER_STALL 10 f [(2, i.slot)]

/-- Whether a FIFO's region overlaps another enabled FIFO's of its die, runs past its SRAM, or is smaller than its
producers' credits (R324). -/
def Dev.fifCfgInvalid (d : Dev) (f : Nat) : Bool :=
  let lo := fun g => d.fld F.FIF_CFG_base g
  let hi := fun g => d.fld F.FIF_CFG_base g + d.fld F.FIF_CFG_depth g + 1
  let credits := (List.range 4).foldl (fun n s =>
    n + (if d.flag F.FIF_PROD_valid (4 * f + s) then d.fld F.FIF_PROD_credits (4 * f + s) else 0)) 0
  4096 < hi f || 64 * (d.fld F.FIF_CFG_depth f + 1) < credits ||
  (List.range 512).any (fun j =>
    let g := f / 512 * 512 + j
    g != f && d.flag F.FIF_CFG_enable g && lo f < hi g && lo g < hi f)

end Sys2Proof.Machine
end

