-- ==== Sys2Proof/Machine/Telemetry.lean ====
section
/-! DEFINITION. Telemetry: histograms, flow export, bandwidth windows, performance counters, the sampler
(R284–R306). -/
namespace Sys2Proof.Machine

/-- A telemetry counter of a die. -/
def Dev.telCnt (d : Dev) (die k : Nat) (n : Nat := 1) : Dev := d.bump F.TEL_CNT_count (11 * die + k) n

/-! ### Histograms (R287, R288) -/

/-- Shift of a histogram's block. -/
def Dev.histShift (d : Dev) (die h : Nat) : Nat :=
  let b := h / 1024
  bitsOf (d.reg .TEL_HIST_SHIFT (2 * die + b / 16)).toNat (4 * (b % 16)) 4

/-- Bin of a latency (R287): the least k ≤ 15 with q below 2^(s+k). -/
def histBin (l : Int) (s : Nat) : Nat :=
  if l < 0 then 0
  else
    let q := l.toNat / 65536
    ((List.range 15).find? (fun k => q < 2 ^ (s + k))).getD 15

/-- One update of a histogram at an egress capture point. -/
def Dev.histUpdate (d : Dev) (die h : Nat) (l : Int) : Dev :=
  let h := h % 32768
  let d := if l < 0 then d.telCnt die 3 else d
  (d.telCnt die 4).bumpTw .TEL_HIST die h (histBin l (d.histShift die h))

/-! ### Port bandwidth windows (R299, R300) -/

/-- A port's window in progress. -/
def Dev.bw (d : Dev) (p : Nat) : BwWin := d.tel.bw.get (fun _ => BwWin.init) ⟨p, 0, 0⟩

/-- A port's window set. -/
def Dev.setBw (d : Dev) (p : Nat) (w : BwWin) : Dev :=
  { d with tel := { d.tel with bw := d.tel.bw.set (fun _ => BwWin.init) ⟨p, 0, 0⟩ w } }

/-- A frame counted in its port's window at the capture point; `tx` for transmit. -/
def Dev.bwCount (d : Dev) (p len : Nat) (tx : Bool) : Dev :=
  let w := d.bw p
  let n := len + (if w.wire then 20 else 0)
  d.setBw p (if tx then { w with txBytes := w.txBytes + n, txFrames := w.txFrames + 1 }
    else { w with rxBytes := w.rxBytes + n, rxFrames := w.rxFrames + 1 })

/-- Window length in µs of a port's register. -/
def Dev.bwLen (d : Dev) (p : Nat) : Nat := min (max (d.fld F.TEL_PORT_BW_CFG_window_us p) 1) 1000000

/-- Instant a window in progress ends, in units of 2^-16 ns: its length, cut at the second boundary. -/
def BwWin.ends (w : BwWin) : Nat := min (w.start + w.windowUs * 1000 * 65536) ((w.start / (10 ^ 9 * 65536) + 1) * (10 ^ 9 * 65536))

/-- A window ends (R299, R300): its counts, sequence and peaks are written, and the next one starts. A length taken
over applies from a second boundary. -/
def Dev.windowEnd (d : Dev) (c : Clock) (p : Nat) : Dev :=
  let w := d.bw p
  let now := c.stamp.units
  if now < w.ends then d
  else
    let len := w.ends - w.start
    let full := !w.cut && len == w.windowUs * 1000 * 65536
    let d := ((d.put F.TEL_PORT_BW_RXB_rx_bytes p w.rxBytes).put F.TEL_PORT_BW_TXB_tx_bytes p w.txBytes).put
      F.TEL_PORT_BW_FRM_tx_frames p w.txFrames
    let d := (d.put F.TEL_PORT_BW_FRM_rx_frames p w.rxFrames).bump F.TEL_PORT_BW_SEQ_window_seq p
    let d := (d.put F.TEL_PORT_BW_SEQ_end_ts p (Stamp.ofUnits w.ends).ts48).put F.TEL_PORT_BW_LEN_last_len_ns p (len / 65536)
    let d := if full then (d.peak F.TEL_PORT_BW_RXP_rx_peak p w.rxBytes).peak F.TEL_PORT_BW_TXP_tx_peak p w.txBytes
      else d
    let boundary := w.ends % (10 ^ 9 * 65536) == 0
    d.setBw p { BwWin.init with start := w.ends, windowUs := if boundary then d.bwLen p else w.windowUs,
                                wire := d.flag F.TEL_PORT_BW_CFG_wire p }

/-- After a step of the clock every window starts over at the new time and is not a full one (R371). -/
def Dev.windowsRestart (d : Dev) (c : Clock) : Dev :=
  { d with tel := { d.tel with bw := d.tel.bw.map (fun _ w => { w with start := c.stamp.units, cut := true }) } }

/-! ### The exporter (R292–R296) -/

/-- The export message a die is filling. -/
def Dev.expMsg (d : Dev) (die : Nat) : ExportMsg := d.tel.msgs.get (fun _ => ⟨[], [], 0⟩) ⟨die, 0, 0⟩

/-- The message a die is filling, set. -/
def Dev.setExpMsg (d : Dev) (die : Nat) (m : ExportMsg) : Dev :=
  { d with tel := { d.tel with msgs := d.tel.msgs.set (fun _ => ⟨[], [], 0⟩) ⟨die, 0, 0⟩ m } }

/-- Bytes of a message: IPFIX header, and each set present. -/
def ExportMsg.size (m : ExportMsg) : Nat :=
  16 + (if m.recs4.isEmpty then 0 else 4 + 66 * m.recs4.length) +
    (if m.recs6.isEmpty then 0 else 4 + 114 * m.recs6.length)

/-- The template set with templates 256 and 257 (R292, R294): (element, length) with reverse elements of PEN 29305. -/
def templateSet : List Byte :=
  let fields := fun (a b c e n m : Nat) (l : Nat) =>
    [(a, l, false), (b, l, false), (7, 2, false), (11, 2, false), (4, 1, false), (c, l, false), (e, l, false),
     (227, 2, false), (228, 2, false), (n, 8, false), (m, 8, false), (n, 8, true), (m, 8, true), (150, 4, false),
     (151, 4, false), (136, 1, false)]
  let enc := fun (f : Nat × Nat × Bool) =>
    beBytes 2 (f.1 + (if f.2.2 then 32768 else 0)) ++ beBytes 2 f.2.1 ++ (if f.2.2 then beBytes 4 29305 else [])
  let tmpl := fun (id : Nat) (fs : List (Nat × Nat × Bool)) =>
    beBytes 2 id ++ beBytes 2 fs.length ++ (fs.map enc).flatten
  let body := tmpl 256 (fields 8 12 225 226 86 85 4) ++ tmpl 257 (fields 27 28 281 282 86 85 16)
  beBytes 2 2 ++ beBytes 2 (body.length + 4) ++ body

/-- An IPFIX message of a die with its sets (R294). -/
def Dev.ipfix (d : Dev) (c : Clock) (die : Nat) (sets : List Byte) : List Byte :=
  beBytes 2 10 ++ beBytes 2 (16 + sets.length) ++
    beBytes 4 ((c.sec + 2 ^ 32 - d.fld F.TEL_EXP_DOMAIN_leap_s) % 2 ^ 32) ++ beBytes 4 (d.tel.sent.num die) ++
    beBytes 4 ((d.fld F.TEL_EXP_DOMAIN_obs_domain + die) % 2 ^ 32) ++ sets

/-- The transport header of a message, its length and checksum fields filled (R294). -/
def Dev.expFrame (d : Dev) (die : Nat) (msg : List Byte) : List Byte :=
  let hl := min (d.fld F.TEL_EXP_CFG_hdr_len die) 64
  let hdr := (((List.range 8).map (fun k => leBytes 8 (d.reg .TEL_EXP_HDR (8 * die + k)).toNat)).flatten).take hl
  let ip := d.fld F.TEL_EXP_CFG2_ip_off die
  let udp := d.fld F.TEL_EXP_CFG2_udp_off die
  let v6 := d.flag F.TEL_EXP_CFG2_ipv6 die
  let fr := hdr ++ msg
  let fr := splice fr (udp + 4) (beBytes 2 (fr.length - udp))
  if v6 then
    let fr := splice (splice fr (ip + 4) (beBytes 2 (fr.length - ip - 40))) (udp + 6) [0, 0]
    let pseudo := ((fr.drop (ip + 8)).take 32) ++ beBytes 4 (fr.length - udp) ++ beBytes 4 17
    let s := 65535 - onesSum (pseudo ++ fr.drop udp)
    splice fr (udp + 6) (beBytes 2 (if s == 0 then 65535 else s))
  else fixIpv4 (splice (splice fr (ip + 2) (beBytes 2 (fr.length - ip))) (udp + 6) [0, 0]) ip

/-- Export messages of a die that wait for an intake slot. -/
def Dev.expWaiting (d : Dev) (die : Nat) : Nat :=
  let p := 16 * die + d.fld F.TEL_EXP_CFG_pipe die
  ((d.pipe p).side.filterMap d.pkt).countP (fun x => x.seg.elim false (fun s => s.2 == 113))

/-- A message enters the intake of the exporter's pipeline as an injected descriptor (R294); its segment is
requester 113's, and without one its `n` records are lost (R295, R315). -/
def Dev.expInject (d : Dev) (c : Clock) (die n : Nat) (bytes : List Byte) : Dev :=
  let p := 16 * die + d.fld F.TEL_EXP_CFG_pipe die
  let k := poolOf (bytes.length + 4)
  let (d, g) := d.segRequest c die 113 k none
  let start := d.fld F.TEL_EXP_CFG_start_state die
  match g with
  | .granted h =>
    let (d, id) := d.newPkt (16 * p) .injected bytes c.stamp (some (h, 113)) 0 start
    let s := d.pipe p
    (d.modPkt id (fun x => { x with unordered := true })).setPipe p { s with side := s.side ++ [id] }
  | .retry =>
    let (d, id) := d.newPkt (16 * p) .injected bytes c.stamp none 0 start
    let d := d.modPkt id (fun x => { x with unordered := true, loc := .segWait })
    { d with bpm := { d.bpm with retries := d.bpm.retries ++ [⟨die, 113, k, 0, some id, n⟩] } }
  | _ => if n == 0 then d else (d.telCnt die 6 n).raiseLim c .TEL_EXPORT_LOST 1 die [] 1000

/-- The open message of a die sent (R294). -/
def Dev.expSend (d : Dev) (c : Clock) (die : Nat) : Dev :=
  let m := d.expMsg die
  if m.recs4.isEmpty && m.recs6.isEmpty then d
  else
    let setOf := fun (id : Nat) (rs : List (List Byte)) =>
      if rs.isEmpty then [] else beBytes 2 id ++ beBytes 2 (4 + rs.flatten.length) ++ rs.flatten
    let msg := d.ipfix c die (setOf 256 m.recs4 ++ setOf 257 m.recs6)
    let n := m.recs4.length + m.recs6.length
    let d := (d.setExpMsg die ⟨[], [], 0⟩).telCnt die 1
    let d := { d with tel := { d.tel with sent := d.tel.sent.setNum ⟨die, 0, 0⟩ ((d.tel.sent.num die + n) % 2 ^ 32) } }
    d.expInject c die n (d.expFrame die msg)

/-- A template set sent as a message of its own (R294). -/
def Dev.templateSend (d : Dev) (c : Clock) (die : Nat) : Dev :=
  let d := (d.telCnt die 2).telCnt die 1
  let d := { d with tel := { d.tel with templAt := d.tel.templAt.setNum ⟨die, 0, 0⟩ (c.phys + 1) } }
  d.expInject c die 0 (d.expFrame die (d.ipfix c die templateSet))

/-- The template interval of a die has passed. -/
def Dev.templateDue (d : Dev) (c : Clock) (die : Nat) : Bool :=
  let last := d.tel.templAt.num die
  d.flag F.TEL_EXP_CFG2_enable die &&
  (last == 0 || edgesS (max (d.fld F.TEL_EXP_CFG_template_s die) 1) ≤ c.phys + 1 - last)

/-- An open message whose oldest record has waited 1 ms is sent. -/
def Dev.exportAge (d : Dev) (c : Clock) (die : Nat) : Dev :=
  if edgesMs 1 ≤ c.phys - (d.expMsg die).since then d.expSend c die else d

/-- Key fields of a data record (R292), from a record image's 48-byte keys; `n` 4 or 16. -/
def dataRecord (fwd rev : List Byte) (v6 : Bool) (counts : List Nat) (first last reason : Nat) : List Byte :=
  let addr := fun (k : List Byte) (o : Nat) => if v6 then (k.drop o).take 16 else ((k.drop o).take 16).drop 12
  let field := fun (k : List Byte) (o n : Nat) => (k.drop o).take n
  addr fwd 0 ++ addr fwd 16 ++ field fwd 32 2 ++ field fwd 34 2 ++ field fwd 36 1 ++ addr rev 16 ++ addr rev 0 ++
    field rev 34 2 ++ field rev 32 2 ++ (counts.map (fun n => beBytes 8 n)).flatten ++ beBytes 4 first ++
    beBytes 4 last ++ beBytes 1 reason

/-- A formatted record enters the die's open message, sent first when it would not fit; a record that would start a
65th waiting message is lost (R294, R295). -/
def Dev.expRecord (d : Dev) (c : Clock) (die : Nat) (v6 : Bool) (bytes : List Byte) : Dev :=
  let add := fun (m : ExportMsg) => if v6 then { m with recs6 := m.recs6 ++ [bytes] } else { m with recs4 := m.recs4 ++ [bytes] }
  let maxMsg := min (max (d.fld F.TEL_EXP_CFG_max_msg die) 512) 9000
  let d := if maxMsg < (add (d.expMsg die)).size then d.expSend c die else d
  let m := d.expMsg die
  let fresh := m.recs4.isEmpty && m.recs6.isEmpty
  if fresh && 64 ≤ d.expWaiting die then
    (d.telCnt die 6).raiseLim c .TEL_EXPORT_LOST 1 die [] 1000
  else (d.setExpMsg die (add (if fresh then { m with since := c.phys } else m))).telCnt die 0

/-- The export FIFO of a die (R323). -/
def exportFifo (die : Nat) : Nat := 512 * die + 1

/-- An export item of the FIFO taken by the exporter (R292–R296): 24 words of record image, then a word with the
record number, die and end reason, then one with the flow's end second. -/
def Dev.exportItem (d : Dev) (c : Clock) (die : Nat) (item : FItem) : Dev :=
  let bytes := (item.words.map (fun w => leBytes 8 w.data.toNat)).flatten
  let image := bytes.take 192
  let info := ofLeBytes ((bytes.drop 192).take 8)
  let last := ofLeBytes ((bytes.drop 200).take 8)
  let reason := bitsOf info 32 8
  let fwd := image.take 48
  let rev := (image.drop 64).take 32 ++ (image.drop 48).take 16
  if item.words.any FWord.poison then d
  else if d.flag F.TEL_CTRL_exp_host then
    let rec' := image ++ leBytes 4 (info % 2 ^ 29) ++ leBytes 1 reason ++ List.replicate 3 0 ++ c.stamp.bytes ++ List.replicate 44 0
    let i : RxInfo := { stamp := c.stamp, port := 0, ident := exportFifo die, reason := 6, gen := 0, tc := 0, colour := 0,
                        pipe := 0, pass := 0, hash := 0, key := [], record := none, shed := 0xFF, cls := 0, item := true,
                        poison := false }
    ((d.telCnt die 7).rxDeliver c (d.fld F.TEL_EXP_CFG_host_ring die) i rec').1
  else if !d.flag F.TEL_EXP_CFG2_enable die then d
  else
    let v6 := bitOf (byteAt fwd 37) 0
    let leap := d.fld F.TEL_EXP_DOMAIN_leap_s
    let w3 := ofLeBytes ((image.drop 96).take 32)
    let counts := [bitsOf w3 0 44, bitsOf w3 88 48, bitsOf w3 44 44, bitsOf w3 136 48]
    let first := bitsOf w3 184 32
    d.expRecord c die v6 (dataRecord fwd rev v6 counts ((first + 2 ^ 32 - leap) % 2 ^ 32)
      ((last + 2 ^ 32 - leap) % 2 ^ 32) reason)

/-! ### Performance counters and the sampler (R301–R305) -/

/-- PRF_CTRL.snap: every counter copied. -/
def Dev.prfSnap (d : Dev) : Dev :=
  (List.range 512).foldl (fun d i => d.put F.PRF_SNAP_snapshot i (d.fld F.PRF_CNT_count i)) d

/-- PRF_CTRL.clear: every counter zeroed. -/
def Dev.prfClear (d : Dev) : Dev := (List.range 512).foldl (fun d i => d.put F.PRF_CNT_count i 0) d

/-- What a sample describes (R304). -/
structure Sample where
  addr : Nat
  sweeper : Bool
  pipe : Nat
  engine : Nat
  opcode : Nat
  counter : Bool
  locked : Bool
  aborted : Bool
  port : Nat
  ts48 : Nat
  latency : Nat
  stalls : Nat
  record : Option (Nat × Nat)

/-- The interval to the next sample (R303). -/
def Dev.sampleInterval (d : Dev) (die : Nat) : Dev × Nat :=
  let p := max (d.fld F.PRF_SAMPLE_CFG_period die) 2
  if d.flag F.PRF_SAMPLE_CTRL_jitter die then
    let (r, d) := d.draw Config.sampleJitter
    (d, p / 2 + r % p)
  else (d, p)

/-- The 32 bytes of a sample record (R304). -/
def Sample.bytes (s : Sample) (trigger : Nat) (lost : Bool) (now48 seq : Nat) : List Byte :=
  leBytes 2 (s.addr % 8192 + bit s.sweeper * 8192 + trigger * 16384 + bit lost * 32768) ++ leBytes 1 s.pipe ++
    leBytes 1 s.engine ++ leBytes 2 (s.opcode + 256 * bit s.counter + 512 * bit s.locked + 1024 * bit s.aborted) ++
    leBytes 2 s.port ++ leBytes 6 s.ts48 ++ leBytes 2 (min s.latency 65535) ++
    leBytes 4 (match s.record with | some (die, n) => n % 2 ^ 28 + die * 2 ^ 28 + 2 ^ 31 | none => 0) ++
    leBytes 2 (min s.stalls 65535) ++ leBytes 2 0 ++ leBytes 6 now48 ++ leBytes 2 seq

/-- A sample taken (R305): written at wr, or lost beyond the rate or on a full buffer. -/
def Dev.takeSample (d : Dev) (c : Clock) (die : Nat) (s : Sample) : Dev :=
  let seq := d.tel.smpSeq.num die
  let last := d.tel.smpAt.num die
  let wr := d.fld F.PRF_SAMPLE_PTR_wr die
  let full := d.flag F.PRF_SAMPLE_CTRL_stop_full die && (wr + 1) % 65536 == d.fld F.PRF_SAMPLE_PTR_rd die
  let fast := last != 0 && c.core + 1 - last < 8
  let k : Key := ⟨die, 0, 0⟩
  let d := { d with tel := { d.tel with smpSeq := d.tel.smpSeq.setNum k ((seq + 1) % 65536) } }
  if full || fast then
    let first := full && d.tel.smpFull.num die == 0
    let d := (d.bumpWrap F.PRF_SAMPLE_PTR_lost die F.PRF_CNT_WRAP_wrap die 0)
    let d := { d with tel := { d.tel with smpLost := d.tel.smpLost.setNum k 1,
                                          smpFull := d.tel.smpFull.setNum k (if full then 1 else d.tel.smpFull.num die) } }
    if first then d.raise c .PRF_SAMPLE_FULL 1 die else d
  else
    let bs := s.bytes (d.fld F.PRF_SAMPLE_CTRL_trigger die) (d.tel.smpLost.num die == 1) c.stamp.ts48 seq
    let d := (List.range 4).foldl (fun d w => d.setTw .PRF_SAMPLE_TBL die wr w (ofLeBytes ((bs.drop (8 * w)).take 8))) d
    let d := d.put F.PRF_SAMPLE_PTR_wr die (wr + 1)
    { d with tel := { d.tel with smpAt := d.tel.smpAt.setNum k (c.core + 1), smpLost := d.tel.smpLost.setNum k 0,
                                 smpFull := d.tel.smpFull.setNum k 0 } }

/-- An eligible event of the sampler (R303): every period-th one is taken. `trigger` 0 routine end, 1 word issue. -/
def Dev.sampleEvent (d : Dev) (c : Clock) (die trigger : Nat) (s : Sample) : Dev :=
  let cls := d.flag F.PRF_SAMPLE_CTRL_class die
  let opcOk := s.sweeper || !d.flag F.PRF_SAMPLE_CTRL_opc_en die || d.fld F.PRF_SAMPLE_CFG_opcode die == s.opcode
  let pipeOk := s.sweeper || bitOf (d.fld F.PRF_SAMPLE_CFG_pipe_mask die) (s.pipe % 16)
  let m := d.fld F.PRF_SAMPLE_CFG_match_addr die
  let addrOk := trigger == 0 || (if s.sweeper then m % 4096 == s.addr else m == s.addr)
  if !d.flag F.PRF_SAMPLE_CTRL_enable die || cls != s.sweeper || d.fld F.PRF_SAMPLE_CTRL_trigger die != trigger ||
      !opcOk || !pipeOk || !addrOk then d
  else
    let k : Key := ⟨die, 0, 0⟩
    let (d, left) := if d.tel.left.num die == 0 then d.sampleInterval die else (d, d.tel.left.num die)
    let d := { d with tel := { d.tel with left := d.tel.left.setNum k (left - 1) } }
    if left ≤ 1 then d.takeSample c die s else d

/-- The consumer of a FIFO reads a word (R327); the exporter takes the items of its FIFO as they complete, unless
TEL is held (R51, R323). -/
def Dev.fifoConsume (d : Dev) (c : Clock) (f parity : Nat) : Dev :=
  let die := f / 512
  let own := f == exportFifo die
  if own && d.flag F.TEL_HOLD_ack die then d
  else match d.fifRead c f parity with
    | (d, some i) => if own then d.exportItem c die i else d
    | (d, none) => d

end Sys2Proof.Machine
end

