-- ==== Sys2Proof/Machine/Flow.lean ====
section
/-! DEFINITION. Hearth, miss-hold, shedding and deletion (R186–R200, R203–R206). -/
namespace Sys2Proof.Machine

/-! ### Ways (R189) -/

/-- A way of a set of a bank (0–255 of the device). -/
def Dev.way (d : Dev) (b s w : Nat) : Option Way := d.flw.hearth.find? ⟨b, s, w⟩

/-- A way set, or made invalid. -/
def Dev.setWay (d : Dev) (b s w : Nat) (x : Option Way) : Dev :=
  { d with flw := { d.flw with hearth := match x with
    | some y => d.flw.hearth.put ⟨b, s, w⟩ y
    | none => d.flw.hearth.erase ⟨b, s, w⟩ } }

/-- The entry in a way. -/
def Dev.entry (d : Dev) (b s w : Nat) : Option HEntry :=
  match d.way b s w with
  | some (.entry e) => some e
  | _ => none

/-- An entry changed in place. -/
def Dev.setEntry (d : Dev) (b s w : Nat) (e : HEntry) : Dev := d.setWay b s w (some (.entry e))

/-- Fingerprint of the direction whose set holds the entry. -/
def HEntry.homeFp (e : HEntry) : Nat := if e.homeDir then e.img.fpRev else e.img.fpFwd

/-- Whether an entry stands for a record in HBM. -/
def HEntry.isRecord (e : HEntry) : Bool := e.kind == .record

/-- The four slots of an alias way. -/
def aliasSlots : Way → List (Option FAlias)
  | .aliases a b c d _ => [a, b, c, d]
  | .entry _ => []

/-- An alias way with a slot replaced; none when nothing is left in it. -/
def setAlias (w : Way) (i : Nat) (x : Option FAlias) : Option Way :=
  match w with
  | .aliases a b c d r =>
    let l := [a, b, c, d].set i x
    if l.all Option.isNone then none
    else some (.aliases (l.getD 0 none) (l.getD 1 none) (l.getD 2 none) (l.getD 3 none) r)
  | .entry e => some (.entry e)

/-- A match of a key: where its entry lies, the direction of the key in the record, and whether an alias led there. -/
structure Hit where
  set : Nat
  way : Nat
  rev : Bool
  viaAlias : Bool

/-- What a bank access finds in a set for a fingerprint (R189): an entry, or an alias that leads to one. -/
def Dev.hearthFind (d : Dev) (b s fp : Nat) : Option Hit :=
  (List.range 4).findSome? (fun w =>
    match d.way b s w with
    | some (.entry e) => if e.homeFp == fp then some ⟨s, w, e.homeDir, false⟩ else none
    | some a => (aliasSlots a).findSome? (fun x => match x with
        | some x => if x.fp == fp then some ⟨x.homeSet, x.homeWay, x.dir, true⟩ else none
        | none => none)
    | none => none)

/-- Where a record is resident: bank, set, way. -/
def Dev.resident (d : Dev) (die record : Nat) : Option (Nat × Nat × Nat) :=
  (d.flw.hearth.cells.find? (fun x => x.1.a / 128 == die &&
    (match x.2 with | .entry e => e.isRecord && e.img.record == record | _ => false))).map
      (fun x => (x.1.a, x.1.b, x.1.c))

/-- An entry's alias dropped. -/
def Dev.dropAlias (d : Dev) (b : Nat) (e : HEntry) : Dev :=
  match e.aliasAt with
  | some (s, w, i) => (match d.way b s w with
    | some x => d.setWay b s w (setAlias x i none)
    | none => d)
  | none => d

/-- An entry removed with its alias. -/
def Dev.dropEntry (d : Dev) (b s w : Nat) : Dev :=
  match d.entry b s w with
  | some e => (d.dropAlias b e).setWay b s w none
  | none => d

/-! ### Deltas (R188) and write-back (R195) -/

/-- Seconds [15:0] of the last activity of an image as of now, from its true age (R208). -/
def lastSecond (c : Clock) (i : Img) : Nat :=
  let age := (c.stamp.ts48 + 2 ^ 48 - i.lastSeen % 2 ^ 48) % 2 ^ 48
  (Stamp.ofUnits (((c.stamp.units : Nat) : Int) - ((age : Nat) : Int))).sec % 65536

/-- Whether any delta is nonzero. -/
def Img.hasDeltas (i : Img) : Bool := i.dpF != 0 || i.dpR != 0 || i.dbF != 0 || i.dbR != 0

/-- An image with its deltas zeroed. -/
def Img.zeroDeltas (i : Img) : Img := { i with dpF := 0, dpR := 0, dbF := 0, dbR := 0 }

/-- Deltas of a record added into its word 3 (R188), counted, and sent to the twin as a COUNTER (R389). -/
def Dev.flushDeltas (d : Dev) (c : Clock) (die : Nat) (i : Img) : Dev :=
  match d.frec die i.record with
  | none => d
  | some r =>
    let d := ((d.setRec die i.record { r.flush i with img := r.img }).hbmAccess die 0x051 [(3 * i.record + 1) % d.channels]).flwCnt
      die 12
    (d.journal c die 3 i (i.counterBody r.fwd (lastSecond c i))).1

/-- Words 4 and 5 of a dirty entry written back to HBM. -/
def Dev.writeBack (d : Dev) (die : Nat) (e : HEntry) : Dev :=
  if !e.dirty || !e.isRecord then d
  else match d.frec die e.img.record with
    | some r => ((d.setRec die e.img.record { r with img := e.img }).hbmAccess die 0x051 ((d.recChannels e.img.record).drop 2)).flwCnt die 11
    | none => d

/-- An entry evicted (R195): written back when dirty; its deltas send a TOUCH (R389). -/
def Dev.evict (d : Dev) (c : Clock) (b s w : Nat) : Dev :=
  match d.entry b s w with
  | none => d
  | some e =>
    let die := b / 128
    let d := (d.writeBack die e).dropEntry b s w
    match d.frec die e.img.record with
    | some r => if e.isRecord && e.img.hasDeltas then (d.journal c die 4 e.img (touchBody r.fwd (lastSecond c e.img))).1 else d
    | none => d

/-- An alias way evicted: alias_valid cleared in the entries. -/
def Dev.evictAliases (d : Dev) (b s w : Nat) : Dev :=
  match d.way b s w with
  | some x =>
    let d := (aliasSlots x).foldl (fun d a => match a with
      | some a => (match d.entry b a.homeSet a.homeWay with
        | some e => d.setEntry b a.homeSet a.homeWay { e with aliasAt := none }
        | none => d)
      | none => d) d
    d.setWay b s w none
  | none => d

/-- Whether an entry may be evicted: ref 0 and not locked, pinned, waited on or tagged (R195). -/
def Dev.evictable (d : Dev) (b : Nat) (e : HEntry) : Bool :=
  !e.ref && !e.lock && !e.pinned && e.waiters.isEmpty && d.flw.tags.num (b / 128) e.img.record == 0

/-- A way passed over has its ref cleared (R195). -/
def clearRef : Way → Way
  | .entry e => .entry { e with ref := false }
  | .aliases a b c d _ => .aliases a b c d false

/-- Ref cleared in some ways of a set. -/
def Dev.passOver (d : Dev) (b s : Nat) (ws : List Nat) : Dev :=
  ws.foldl (fun d w => match d.way b s w with
    | some x => d.setWay b s w (some (clearRef x))
    | none => d) d

/-- A way taken for a fill (R195): an invalid way; an alias way with ref 0; an entry way that may go. -/
def Dev.takeWay (d : Dev) (c : Clock) (b s : Nat) : Dev × Option Nat :=
  let ws := List.range 4
  match ws.find? (fun w => (d.way b s w).isNone) with
  | some w => (d, some w)
  | none =>
    let aliasOk := fun w => match d.way b s w with | some (.aliases _ _ _ _ r) => !r | _ => false
    let isAlias := fun w => match d.way b s w with | some (.aliases _ _ _ _ _) => true | _ => false
    match ws.find? aliasOk with
    | some w => ((d.passOver b s ((List.range w).filter isAlias)).evictAliases b s w, some w)
    | none =>
      let ok := fun w => match d.entry b s w with | some e => d.evictable b e | none => false
      match ws.find? ok with
      | some w => (((d.passOver b s (ws.filter isAlias)).passOver b s (List.range w)).evict c b s w, some w)
      | none => (d.passOver b s ws, none)

/-! ### Miss-hold (R196, R206) -/

/-- Slots in use on a die. -/
def Dev.holdUse (d : Dev) (die : Nat) : Nat := d.pkts.vals.countP (fun x => match x.hold with | some h => h.1 == die | none => false)

/-- Slots a class holds on a die. -/
def Dev.holdClass (d : Dev) (die cls : Nat) : Nat := d.pkts.vals.countP (fun x => x.hold == some (die, cls))

/-- FLW_MISS_HOLD_STATUS after a change, and EV_FLW_MISS_HOLD_WARN at an upward crossing. -/
def Dev.holdEval (d : Dev) (c : Clock) (die before : Nat) : Dev :=
  let n := d.holdUse die
  let d := (d.put F.FLW_MISS_HOLD_STATUS_occupancy die n).peak F.FLW_MISS_HOLD_STATUS_peak die n
  let w := d.fld F.FLW_MISS_HOLD_CTRL_warn die
  if before < w && w ≤ n then d.raise c .FLW_MISS_HOLD_WARN 1 die else d

/-- A packet takes a miss-hold slot. -/
def Dev.takeHold (d : Dev) (c : Clock) (id die cls : Nat) : Dev :=
  let n := d.holdUse die
  (d.modPkt id (fun x => { x with hold := some (die, cls), unordered := true })).holdEval c die n

/-- A packet's slot freed. -/
def Dev.freeHold (d : Dev) (c : Clock) (id : Nat) : Dev :=
  match d.pkt id with
  | none => d
  | some x => match x.hold with
    | none => d
    | some (die, _) => (d.setPkt { x with hold := none }).holdEval c die (d.holdUse die)

/-- Limit of a die's miss-hold list. -/
def Dev.holdLimit (d : Dev) (die : Nat) : Nat :=
  let v := d.fld F.FLW_MISS_HOLD_CTRL_limit die
  if v == 0 || 8192 < v then 8192 else v

/-- Reserves of the classes, honoured in class order up to the limit. -/
def Dev.holdReserves (d : Dev) (die : Nat) : List Nat :=
  ((List.range 8).foldl (fun (a : List Nat × Nat) k =>
    let r := min (d.fld F.FLW_CLASS_CFG_reserve (8 * die + k)) a.2
    (a.1 ++ [r], a.2 - r)) ([], d.holdLimit die)).1

/-- Admission to miss-hold (R196): the shed reason, or none when admitted. -/
def Dev.admission (d : Dev) (die cls waiters : Nat) (joins : Bool) : Option Nat :=
  let occ := d.holdUse die
  let mine := d.holdClass die cls
  let res := d.holdReserves die
  let unused := (List.range 8).foldl (fun n k =>
    if k == cls then n else n + (res.getD k 0 - d.holdClass die k)) 0
  if d.holdLimit die ≤ occ then some 1
  else if max (d.fld F.FLW_MISS_HOLD_CTRL_per_key die) 1 ≤ waiters then some 2
  else if d.fld F.FLW_CLASS_CFG_max (8 * die + cls) ≤ mine then some 1
  else if !(mine < res.getD cls 0 || occ + unused < d.holdLimit die) then some 1
  else if d.dieWarn die && !joins then some 3
  else none

/-! ### Token buckets of the flow subsystem (R198, R205) -/

/-- A token bucket refilled: value in tokens × `unit`, `rate` per edge, depth `burst` tokens. -/
def refillTo (value last now rate burst unit : Nat) : Nat := min (value + rate * (now - last)) (max burst 1 * unit)

/-- The insert bucket of a die as of now, in 1/1250 tokens. -/
def Dev.insertTokens (d : Dev) (c : Clock) (die : Nat) : Nat :=
  refillTo (d.flw.insTok.num die) (d.flw.insAt.num die) c.phys (min (max (d.fld F.FLW_INSERT_CTRL_rate die) 1) 500)
    (d.fld F.FLW_INSERT_CTRL_burst die) 1250

/-- One insert token taken, when there is one. -/
def Dev.takeInsert (d : Dev) (c : Clock) (die : Nat) : Dev × Bool :=
  let v := d.insertTokens c die
  let ok := decide (1250 ≤ v)
  let k : Key := ⟨die, 0, 0⟩
  ({ d with flw := { d.flw with insTok := d.flw.insTok.setNum k (if ok then v - 1250 else v),
                                insAt := d.flw.insAt.setNum k c.phys } }, ok)

/-- One punt token of a class taken, when there is one; units of 1/1,250,000,000 token. -/
def Dev.takePunt (d : Dev) (c : Clock) (die cls : Nat) : Dev × Bool :=
  let ix := 8 * die + cls
  let rate := d.fld F.FLW_CLASS_PUNT_rate ix
  let v := refillTo (d.flw.puntTok.num ix) (d.flw.puntAt.num ix) c.phys rate (d.fld F.FLW_CLASS_PUNT_burst ix) 1250000000
  let ok := rate != 0 && decide (1250000000 ≤ v)
  let k : Key := ⟨ix, 0, 0⟩
  ({ d with flw := { d.flw with puntTok := d.flw.puntTok.setNum k (if ok then v - 1250000000 else v),
                                puntAt := d.flw.puntAt.setNum k c.phys } }, ok)

/-! ### Dispatch and shedding (R205, R206, R218) -/

/-- A packet goes to its pipeline's dispatcher; its miss-hold slot is freed. -/
def Dev.toDispatch (d : Dev) (c : Clock) (id : Nat) : Dev :=
  match d.pkt id with
  | none => d
  | some x =>
    let d := (d.freeHold c id).modPkt id (fun x => { x with loc := .dispatch })
    let s := d.pipe x.pipe
    d.setPipe x.pipe { s with dispatchQ := s.dispatchQ ++ [id] }

/-- Flow class of a packet's rule action. -/
def Pkt.actionClass (x : Pkt) : Nat := bitsOf (x.cls.action.getD 0 0) 9 3

/-- Counts and events of a shed packet (R206). -/
def Dev.shedCount (d : Dev) (c : Clock) (die cls reason : Nat) : Dev :=
  let d := d.bump F.FLW_SHED_CNT_packets (80 * die + 10 * cls + reason)
  let d := d.raiseLim c .FLW_SHED 1 die [(8, reason), (8, cls)] 1 none reason
  if reason == 4 then d.raiseLim c .FLW_TABLE_FULL 1 die [] 1000
  else if reason == 5 then d.raiseLim c .FLW_BANK_SPLIT 1 die [] 1000
  else d

/-- A packet dropped at any point of the flow path: its slot is freed, and it is gone. -/
def Dev.flowDrop (d : Dev) (c : Clock) (id : Nat) : Dev := (d.freeHold c id).pktGone c id

/-- A packet under the shed policy of a class (R205); `stop0` makes policy 0 act as 1 (R395). -/
def Dev.shedPolicy (d : Dev) (c : Clock) (id die cls reason : Nat) (stop0 : Bool) : Dev :=
  let d := d.freeHold c id
  match d.fld F.FLW_CLASS_CFG_shed (8 * die + cls) with
  | 0 =>
    if stop0 then d.pktGone c id
    else (d.modPkt id (fun x => { x with stateless := true, flow := none, copy := none, entryAt := none, locked := false,
                                          creating := false, counter := false })).toDispatch c id
  | 2 =>
    let (d, ok) := d.takePunt c die cls
    if ok then (d.bump F.FLW_SHED_CNT_packets (80 * die + 10 * cls + 8)).punt c id
      (d.fld F.FLW_CLASS_CFG_punt_ring (8 * die + cls)) 2 reason
    else (d.bump F.FLW_SHED_CNT_packets (80 * die + 10 * cls + 9)).pktGone c id
  | _ => d.pktGone c id

/-- A packet shed with a reason (R205, R206). -/
def Dev.shed (d : Dev) (c : Clock) (id die cls reason : Nat) : Dev :=
  (d.shedCount c die cls reason).shedPolicy c id die cls reason false

/-! ### Misses (R194) -/

/-- The outstanding miss of a key. -/
def Dev.missOf (d : Dev) (die : Nat) (k : List Byte) : Option Miss := d.flw.misses.find? (fun m => m.die == die && m.key == k)

/-- A packet already in miss-hold (or that needs no slot) put on its key's miss, which it starts if there is none. -/
def Dev.joinMiss (d : Dev) (die : Nat) (k : List Byte) (id : Nat) : Dev :=
  let d := d.modPkt id (fun x => { x with loc := .missHold, flow := none, copy := none, entryAt := none, locked := false })
  match d.missOf die k with
  | some _ => { d with flw := { d.flw with misses := d.flw.misses.map (fun m =>
      if m.die == die && m.key == k then { m with waiters := m.waiters ++ [id] } else m) } }
  | none => { d with flw := { d.flw with misses := d.flw.misses ++ [⟨die, k, [id], false⟩] } }

/-- A packet that missed: admitted to miss-hold, or shed. -/
def Dev.missNew (d : Dev) (c : Clock) (die : Nat) (x : Pkt) : Dev :=
  let k := x.parse.key
  let m := d.missOf die k
  let cls := x.actionClass
  match (if x.hold.isSome then none else d.admission die cls ((m.map (fun m => m.waiters.length)).getD 0) m.isSome) with
  | some r => d.shed c x.id die cls r
  | none =>
    let d := if x.hold.isSome then d else d.takeHold c x.id die cls
    let d := if m.isSome then d else d.flwCnt die 2
    (if m.isSome then d else d.perf die 0x032 none none).joinMiss die k x.id

/-- A waiter of an entry that is gone: a packet runs its lookup again, a Sweeper stops waiting. -/
def Dev.relookup (d : Dev) (c : Clock) (w : Waiter) : Dev :=
  match w with
  | .pkt id => (match d.pkt id with
    | some x => d.missNew c (d.bankOf x.parse.key / 128) x
    | none => d)
  | .sweep i =>
    let stop := fun (s : Sweep) => { s with waiting := none }
    { d with swp := { d.swp with sweeps := d.swp.sweeps.modify ⟨i / 32, i % 32, 0⟩ stop } }

/-! ### Deleting (R203, R290, R291) -/

/-- Second of a flow's last activity for export (R293), before the leap correction. -/
def lastActivity (c : Clock) (r : FlowRec) (i : Img) : Nat :=
  if i.touched then
    let age := (c.stamp.ts48 + 2 ^ 48 - i.lastSeen % 2 ^ 48) % 2 ^ 48
    (Stamp.ofUnits (((c.stamp.units : Nat) : Int) - ((age : Nat) : Int))).sec
  else c.sec - (c.sec % 65536 + 65536 - r.lastSeenS) % 65536

/-- A record image passed to export (R290, R295): the image's words, then record number, die and reason, then the
end second. A record that finds no credit is lost. -/
def Dev.exportPush (d : Dev) (c : Clock) (die producer : Nat) (r : FlowRec) (i : Img) (reason : Nat) : Dev × Bool :=
  let bytes := (r.flush i).bytes
  let words := (List.range 24).map (fun w => BitVec.ofNat 64 (leAt bytes (8 * w) 8))
  let info := i.record + die * 2 ^ 28 + reason * 2 ^ 32
  d.fifPush c (exportFifo die) producer (words ++ [BitVec.ofNat 64 info, BitVec.ofNat 64 (lastActivity c r i)])

/-- Export at a delete (R290). -/
def Dev.exportEnd (d : Dev) (c : Clock) (die : Nat) (r : FlowRec) (i : Img) (reason : Nat) : Dev :=
  if !d.flag F.TEL_CLASS_CFG_end_en r.flowClass then d
  else
    let (d, ok) := d.exportPush c die (4096 + die) r i reason
    if ok then d else (d.telCnt die 6).raiseLim c .TEL_EXPORT_LOST 1 die [] 1000

/-- The image of a record: the resident entry's, or the one in HBM. -/
def Dev.imgNow (d : Dev) (die record : Nat) : Option Img :=
  match d.resident die record with
  | some (b, s, w) => (d.entry b s w).map HEntry.img
  | none => (d.frec die record).map FlowRec.img

/-- A record deleted in the order of R203, with its end reason: 1 idle timeout, otherwise 3 or 4 by the image
(R291). `journaled` is false for a delete applied from the peer and for one cancelled before it was sent. Waiters
of the key run the lookup again. -/
def Dev.deleteFlow (d : Dev) (c : Clock) (die record : Nat) (idle journaled : Bool) : Dev :=
  match d.frec die record, d.imgNow die record with
  | some r, some i =>
    let reason := if idle then 1 else if i.finF || i.finR then 3 else 4
    let d := d.exportEnd c die r i reason
    let where_ := d.resident die record
    let d := d.indexDrop die record
    let ws := match where_ with
      | some (b, s, w) => ((d.entry b s w).map HEntry.waiters).getD []
      | none => []
    let d := match where_ with
      | some (b, s, w) => d.dropEntry b s w
      | none => d
    let d := { d with flw := { d.flw with recs := d.flw.recs.erase ⟨die, record, 0⟩ } }
    let d := (((d.freeRecord die record).recLive die).flwCnt die 7).releaseBinding c die i
    let d := if journaled then (d.journal c die 2 i (deleteBody r.fwd)).1 else d
    ws.foldl (fun d w => d.relookup c w) d
  | _, _ => d

/-! ### Hits (R174, R191, R192) -/

/-- TCP flag byte of a packet, when it carries a TCP header. -/
def Pkt.tcpFlags (x : Pkt) : Nat :=
  match x.parse.l4Off with
  | some o => if keyProto x.parse.key == 6 then byteAt x.bytes (o + 13) else 0
  | none => 0

/-- FIN or RST set on a TCP packet. -/
def Pkt.finRst (x : Pkt) : Bool := bitOf x.tcpFlags 0 || bitOf x.tcpFlags 2

/-- What an access does to the image (R191): counts, last_seen, touched, fin_rst. -/
def Img.access (i : Img) (x : Pkt) (rev : Bool) : Img :=
  let ts := x.stamp.ts48
  let i := if rev then { i with dpR := (i.dpR + 1) % 2 ^ 20, dbR := (i.dbR + x.rxLen) % 2 ^ 28 }
    else { i with dpF := (i.dpF + 1) % 2 ^ 20, dbF := (i.dbF + x.rxLen) % 2 ^ 28 }
  let i := { i with touched := true, lastSeen := if 0 < tsDiff ts i.lastSeen then ts else i.lastSeen }
  if !x.finRst then i else if rev then { i with finR := true } else { i with finF := true }

/-- Whether a delta's top bit is set (R188). -/
def Img.topBit (i : Img) : Bool := bitOf i.dpF 19 || bitOf i.dpR 19 || bitOf i.dbF 27 || bitOf i.dbR 27

/-- A bank in bypass (R215). -/
def Dev.bypass (d : Dev) (b : Nat) : Bool := d.fld F.HRT_BANK_STATUS_state b == 2

/-- In a bypassed bank an entry is written back at once and does not stay (R215): it stays only while it is locked,
waited on or under creation. -/
def Dev.bypassOut (d : Dev) (c : Clock) (b s w : Nat) : Dev :=
  match d.entry b s w with
  | some e => if d.bypass b && !e.lock && e.waiters.isEmpty && e.isRecord && !e.pinned then d.evict c b s w else d
  | none => d

/-- A packet served as a hit on an unlocked entry (R191, R192), or, when its flow's rule no longer serves it, the
record deleted and the packet on the insert path (R174). Answers whether the packet holds the lock now, and whether
the entry is still there. -/
def Dev.serveHit (d : Dev) (c : Clock) (id b s w : Nat) (rev : Bool) : Dev × Bool × Bool :=
  match d.pkt id, d.entry b s w with
  | some x, some e =>
    let die := b / 128
    if e.isRecord && d.revokedFor e.img.rule x.gen then
      let d := ((d.clsCnt x.pipe 5).flwCnt die 9).missNew c die x
      (d.deleteFlow c die e.img.record false true, false, false)
    else
      let i := e.img.access x rev
      let (d, i) := if i.topBit && e.isRecord then (d.flushDeltas c die i, i.zeroDeltas) else (d, i)
      let e := { e with img := i, ref := true, dirty := true, lock := !x.counter }
      let d := d.setEntry b s w e
      let d := d.modPkt id (fun x => { x with copy := some i, entryAt := some (b, s, w), locked := !x.counter,
                                              flow := if e.isRecord then some (die, i.record, rev) else none })
      let d := d.toDispatch c id
      (if x.counter then d.bypassOut c b s w else d, !x.counter, true)
  | _, _ => (d, false, false)

/-- The waiters of an entry served in order after its lock is released (R192): copies to counter-mode packets, the
lock to the first lock-mode packet or Sweeper. -/
def Dev.grantNext (d : Dev) (c : Clock) (b s w : Nat) : Nat → Dev
  | 0 => d
  | n + 1 =>
    match d.entry b s w with
    | none => d
    | some e =>
      match e.waiters with
      | [] => d.bypassOut c b s w
      | .sweep i :: rest =>
        let d := d.setEntry b s w { e with waiters := rest, lock := true }
        let got := fun (t : Sweep) =>
          { t with waiting := none, visit := some ⟨e.img.record, true, false, false, false, false, false, false, []⟩ }
        { d with swp := { d.swp with sweeps := d.swp.sweeps.modify ⟨i / 32, i % 32, 0⟩ got } }
      | .pkt id :: rest =>
        let d := d.setEntry b s w { e with waiters := rest }
        match d.pkt id with
        | none => d.grantNext c b s w n
        | some x =>
          let rev := d.fpOf x.parse.key != e.img.fpFwd
          let (d, locked, there) := d.serveHit c id b s w rev
          if locked || !there then d else d.grantNext c b s w n

/-- The lock of an entry released, and granted on. -/
def Dev.unlock (d : Dev) (c : Clock) (b s w : Nat) : Dev :=
  match d.entry b s w with
  | none => d
  | some e => (d.setEntry b s w { e with lock := false }).grantNext c b s w (e.waiters.length + 1)

/-- A packet waits on an entry (R192, R200): admitted with the class of the record, or shed. -/
def Dev.waitOn (d : Dev) (c : Clock) (x : Pkt) (b s w : Nat) (e : HEntry) : Dev :=
  let die := b / 128
  let cls := if e.isRecord then e.cls else x.actionClass
  match (if x.hold.isSome then none else d.admission die cls e.waiters.length true) with
  | some r => d.shed c x.id die cls r
  | none =>
    let d := if x.hold.isSome then d else d.takeHold c x.id die cls
    let d := (d.flwCnt die 3).perf die 0x033 none none
    (d.setEntry b s w { e with waiters := e.waiters ++ [.pkt x.id] }).modPkt x.id (fun x => { x with loc := .lockWait })

/-- A bank access of a packet (R189–R194, R200). -/
def Dev.bankAccess (d : Dev) (c : Clock) (x : Pkt) : Dev :=
  let b := d.bankOf x.parse.key
  let die := b / 128
  match d.hearthFind b (d.setOf x.parse.key) (d.fpOf x.parse.key) with
  | none => d.missNew c die x
  | some h =>
    match d.entry b h.set h.way with
    | none => d.missNew c die x
    | some e =>
      match e.kind with
      | .pending _ =>
        if d.fld F.FLW_HOSTINS_CTRL_hold_max die ≤ e.waiters.length then d.shed c x.id die x.actionClass 6
        else d.waitOn c x b h.set h.way e
      | _ =>
        if e.lock || !e.waiters.isEmpty then d.waitOn c x b h.set h.way e
        else
          let k := bit h.viaAlias
          let d := (d.flwCnt die k).perf die (0x030 + k) none none
          (d.serveHit c x.id b h.set h.way h.rev).1

/-! ### The request (R190, R197) -/

/-- Clusters that may serve a pipeline, as control-store instances: 8p + cluster in service, or the spare (6 or 7 of
the die) that stands in for it (R216, R245). -/
def Dev.clusterStore (d : Dev) (p k : Nat) : Option Nat :=
  let ix := 6 * p + k
  if d.flag F.ENG_CLUSTER_STATUS_spare_in ix then
    some (16 * (p / 16) * 8 + 6 + d.fld F.ENG_CLUSTER_STATUS_spare_id ix % 2)
  else if d.fld F.ENG_CLUSTER_STATUS_state ix == 0 then some (8 * p + k)
  else none

/-- A dispatch entry (R219). -/
def Dev.dispatchEntry (d : Dev) (inst opcode : Nat) : Nat := d.tw .ENG_DISPATCH inst opcode 0

/-- Whether the opcode mode table of a pipeline marks an opcode counter-only (R220). -/
def Dev.counterOnly (d : Dev) (p opcode : Nat) : Bool :=
  let es := (List.range 6).filterMap (fun k => (d.clusterStore p k).map (fun i => d.dispatchEntry i opcode))
  !es.isEmpty && es.all (fun e => bitOf e 13 && bitOf e 14)

/-- Whether a packet's request is in counter mode (R190). -/
def Dev.counterMode (d : Dev) (x : Pkt) : Bool :=
  d.counterOnly x.pipe (bitsOf (x.cls.action.getD 0 0) 0 8) && !(x.finRst || bitOf x.tcpFlags 1)

/-- Whether an earlier packet of the same key and pipeline still waits to make its request (R20). -/
def Dev.keyAhead (d : Dev) (x : Pkt) : Bool :=
  d.pkts.vals.any (fun y => y.pipe == x.pipe && y.order < x.order && y.loc == .hearth && y.parse.key == x.parse.key)

/-- A Hearth request (R190, R197): a busy or copying bank makes the packet a bank-busy waiter. -/
def Dev.hearthRequest (d : Dev) (c : Clock) (id : Nat) (busy : Bool) : Dev :=
  match d.pkt id with
  | none => d
  | some x =>
    let b := d.bankOf x.parse.key
    let die := b / 128
    if x.loc != .hearth || d.keyAhead x || d.flag F.FLW_HOLD_ack die || 64 ≤ (d.pipe x.pipe).dispatchQ.length then d
    else
      let x := { x with counter := d.counterMode x }
      let d := d.setPkt x
      let d := if die != x.die then d.perf x.die 0x0A0 none none else d
      let behind := d.pkts.vals.any (fun y => y.loc == .bankWait && d.bankOf y.parse.key == b)
      if busy || behind || d.fld F.HRT_BANK_STATUS_state b == 1 then
        let n := d.pkts.vals.countP (fun y => y.loc == .bankWait && y.parse.key == x.parse.key)
        match d.admission die x.actionClass n false with
        | some r => d.shed c id die x.actionClass r
        | none => (d.takeHold c id die x.actionClass).modPkt id (fun x => { x with loc := .bankWait })
      else d.bankAccess c x

/-- The oldest bank-busy waiter of a bank enters its queue (R197). -/
def Dev.bankEnter (d : Dev) (c : Clock) (b : Nat) : Dev :=
  let ws := d.pkts.vals.filter (fun y => y.loc == .bankWait && d.bankOf y.parse.key == b)
  let oldest := ws.foldl (fun m y => match m with
    | none => some y
    | some (z : Pkt) => if y.order < z.order then some y else some z) none
  match oldest with
  | none => d
  | some x => if d.fld F.HRT_BANK_STATUS_state b == 1 then d else d.bankAccess c x

end Sys2Proof.Machine
end

