-- ==== Sys2Proof/Machine/FlowFill.lean ====
section
/-! DEFINITION. Miss service, creation of flows and the host's flow commands (R194, R195, R198–R203, R211–R215). -/
namespace Sys2Proof.Machine

/-- The entry a fill makes of a record (R194): home_dir is the direction of the key that missed. -/
def FlowRec.toEntry (r : FlowRec) (dir : Bool) : HEntry where
  kind := .record
  key := if dir then r.rev else r.fwd
  img := r.img
  birthGen := r.birthGen
  lock := false
  dirty := false
  ref := true
  pinned := false
  homeDir := dir
  aliasAt := none
  waiters := []
  finSent := (r.img.finF, r.img.finR)
  cls := r.flowClass

/-- An alias installed in a key's set for a resident entry (R189, R194): in a free slot of an alias way, else in a way
taken as a fill takes one. -/
def Dev.installAlias (d : Dev) (c : Clock) (b s fp hs hw : Nat) (dir : Bool) : Dev × Bool :=
  match d.entry b hs hw with
  | none => (d, false)
  | some e0 =>
    let a : FAlias := ⟨fp, hs, hw, dir⟩
    let put := fun (d : Dev) (w i : Nat) (x : Way) =>
      let d := d.setWay b s w (setAlias x i (some a))
      match d.entry b hs hw with
      | some e => d.setEntry b hs hw { e with aliasAt := some (s, w, i) }
      | none => d
    let slot := (List.range 4).findSome? (fun w => match d.way b s w with
      | some (.aliases a0 a1 a2 a3 r) =>
        ((List.range 4).find? (fun i => ([a0, a1, a2, a3].getD i none).isNone)).map (fun i => (w, i, Way.aliases a0 a1 a2 a3 r))
      | _ => none)
    match slot with
    | some (w, i, x) => (put d w i x, true)
    | none =>
      let d := d.setEntry b hs hw { e0 with ref := true }
      match d.takeWay c b s with
      | (d, some w) => (put d w 0 (.aliases none none none none true), true)
      | (d, none) => (d, false)

/-- A miss forgotten. -/
def Dev.dropMiss (d : Dev) (die : Nat) (k : List Byte) : Dev :=
  { d with flw := { d.flw with misses := d.flw.misses.filter (fun m => !(m.die == die && m.key == k)) } }

/-- A miss waits for a way with the packets still to serve. -/
def Dev.retryMiss (d : Dev) (die : Nat) (k : List Byte) (ids : List Nat) : Dev :=
  let d := d.dropMiss die k
  { d with flw := { d.flw with misses := d.flw.misses ++ [⟨die, k, ids, true⟩] } }

/-- Packets of a miss served in order at the bank (R194). -/
def Dev.serveAll (d : Dev) (c : Clock) (ids : List Nat) : Dev :=
  ids.foldl (fun d id => match d.pkt id with
    | some x => d.bankAccess c x
    | none => d) d

/-- Packets shed with one reason. -/
def Dev.shedAll (d : Dev) (c : Clock) (die reason : Nat) (ids : List Nat) : Dev :=
  ids.foldl (fun d id => match d.pkt id with
    | some x => d.shed c id die x.actionClass reason
    | none => d) d

/-- FLW_QUAR_STATUS of a die: numbers quarantined and retired, those with a chunk in a lost channel included. -/
def Dev.quarStatus (d : Dev) (die : Nat) : Dev :=
  let c := d.channels
  let lost := fun (p : Nat → Bool) (n : Nat) => (d.recChannels n).any (fun ch => p (d.flw.lost.num die ch))
  let gone := lost (fun v => v == 2)
  let held := fun (n : Nat) => !gone n && lost (fun v => v == 1 || v == 3) n
  let per := d.recCount / c
  let n := fun (p : Nat → Nat → Bool) => d.flw.quar.cells.countP (fun x => x.1.a == die && p x.1.b x.2)
  let q := per * (List.range c).countP held + n (fun r v => v != 3 && v != 5 && !held r && !gone r) - n (fun r v => held r && (v == 3 || v == 5))
  let t := per * (List.range c).countP gone + n (fun r v => v == 3 && !gone r)
  (d.put F.FLW_QUAR_STATUS_quarantined die q).put F.FLW_QUAR_STATUS_retired die t

/-- A record number quarantined (R212): `mark` 1 until the next complete scan ends, or the host's hold. -/
def Dev.quarRecord (d : Dev) (die n mark : Nat) : Dev :=
  ({ d with flw := { d.flw with quar := d.flw.quar.setNum ⟨die, n, 0⟩ mark } }).quarStatus die

/-- The image of a flow under creation (R198): the creating packet counts in its forward deltas (log entry 42). -/
def Dev.provisionalImg (d : Dev) (x : Pkt) : Img :=
  let w0 := x.cls.action.getD 0 0
  let a := match d.ruleAt x.cls.rule x.gen with
    | some r => r.action
    | none => 0
  let i : Img := { Img.empty with fpFwd := d.fpOf x.parse.key, rule := x.cls.rule, action := a,
                                  mirror := bitsOf w0 12 2, lastSeen := x.stamp.ts48 }
  i.access x false

/-- The insert path for the packets of a key with no record (R198 in hardware mode, R200 in host mode). -/
def Dev.insertPath (d : Dev) (c : Clock) (die : Nat) (k : List Byte) : List Nat → Dev
  | [] => d.dropMiss die k
  | id :: rest =>
    match d.pkt id with
    | none => d.insertPath c die k rest
    | some x =>
      let b := d.bankOf k
      let s := d.setOf k
      let entry : HEntry :=
        { kind := .provisional, key := k, img := d.provisionalImg x, birthGen := x.gen, lock := true, dirty := false,
          ref := true, pinned := true, homeDir := false, aliasAt := none, waiters := [], finSent := (false, false),
          cls := x.actionClass }
      if d.flag F.FLW_CTRL_ins_host die then
        match d.takeWay c b s with
        | (d, none) => d.retryMiss die k (id :: rest)
        | (d, some w) =>
          let us := min (max (d.fld F.FLW_HOSTINS_CTRL_timeout_us die) 1) 10000
          let e := { entry with kind := .pending (c.phys + edgesUs us), lock := false }
          let d := (d.setEntry b s w e).dropMiss die k
          let group := d.fld F.FLW_CLASS_CFG_punt_ring (8 * die + x.actionClass)
          ((d.freeHold c id).punt c id group 3).serveAll c rest
      else if d.insertTokens c die < 1250 then (d.shed c id die x.actionClass 0).insertPath c die k rest
      else
        match d.takeWay c b s with
        | (d, none) => d.retryMiss die k (id :: rest)
        | (d, some w) =>
          let d := ((d.takeInsert c die).1.setEntry b s w entry).dropMiss die k
          let d := d.modPkt id (fun x => { x with copy := some entry.img, entryAt := some (b, s, w), locked := true,
                                                  creating := true, counter := false, flow := none })
          (d.toDispatch c id).serveAll c rest

/-- A found record installed or aliased for the key that missed (R194). `none`: no way qualifies. -/
def Dev.fillFound (d : Dev) (c : Clock) (die : Nat) (k : List Byte) (n : Nat) (dir : Bool) : Dev × Bool :=
  let b := d.bankOf k
  let s := d.setOf k
  match d.resident die n with
  | some (_, hs, hw) =>
    (match d.hearthFind b s (d.fpOf k) with
    | some _ => (d, true)
    | none => d.installAlias c b s (d.fpOf k) hs hw dir)
  | none =>
    match d.frec die n, d.takeWay c b s with
    | some r, (d, some w) => (d.setEntry b s w (r.toEntry dir), true)
    | _, (d, _) => (d, false)

/-- A miss served (R194, R195, R211, R212). `hbm` is what the reads met: 0 good, 1 corrected, 2 a record, 3 a bucket
that is uncorrectable. -/
def Dev.missFill (d : Dev) (c : Clock) (id hbm : Nat) (retry : Bool) : Dev :=
  match d.flw.misses.find? (fun m => m.waiters.contains id) with
  | none => d
  | some m =>
    if m.retry != retry then d
    else
      let (d', r) := d.lookup m.die m.key
      let d := if retry then d else d'
      let d := if hbm == 1 then d.flwCnt m.die 15 else d
      let quit := fun (d : Dev) => (d.dropMiss m.die m.key).shedAll c m.die 7 m.waiters
      if hbm == 3 then
        let b0 := (d.bucketsOf m.key).1
        let d := d.hbmUe m.die (3 * d.recCount + b0)
        quit { d with swp := { d.swp with badBuckets := d.swp.badBuckets.setNum ⟨m.die, b0, 0⟩ 1 } }
      else match r with
        | .error => quit d
        | .none => d.insertPath c m.die m.key m.waiters
        | .found n dir =>
          let d := if hbm == 1 then d.hbmCe m.die (3 * n) else d
          if hbm == 2 then
            quit (((d.hbmUe m.die (3 * n)).quarRecord m.die n 1).raise c .FLW_RECORD_UE 1 m.die [(28, n)])
          else if d.flw.tags.num m.die n != 0 then d
          else
            match d.fillFound c m.die m.key n dir with
            | (d, true) => (d.dropMiss m.die m.key).serveAll c m.waiters
            | (d, false) => d.retryMiss m.die m.key m.waiters

/-- HBM acknowledges a new record's writes (R198 step 6). -/
def Dev.writeAck (d : Dev) (c : Clock) (die n : Nat) : Dev :=
  match d.resident die n with
  | some (b, s, w) => (match d.entry b s w with
    | some e => (d.setEntry b s w { e with pinned := false }).bypassOut c b s w
    | none => d)
  | none => d

/-- Pending entries of a die past their deadline removed (R200 step 5). -/
def Dev.pendingTimeout (d : Dev) (c : Clock) (die : Nat) : Dev :=
  let due := d.flw.hearth.cells.filter (fun x => x.1.a / 128 == die && (match x.2 with
    | .entry e => (match e.kind with | .pending t => decide (t ≤ c.phys) | _ => false)
    | _ => false))
  due.foldl (fun d x => match d.entry x.1.a x.1.b x.1.c with
    | some e =>
      let d := d.dropEntry x.1.a x.1.b x.1.c
      let ids := e.waiters.filterMap (fun w => match w with | .pkt id => some id | _ => none)
      (d.shedAll c die 6 ids).raiseLim c .FLW_HOST_PENDING_TIMEOUT 1 die
    | none => d) d

/-- Every pending entry of a die removed, its packets looked up again (a move to hardware mode, R200). -/
def Dev.pendingClear (d : Dev) (c : Clock) (die : Nat) : Dev :=
  let all := d.flw.hearth.cells.filter (fun x => x.1.a / 128 == die && (match x.2 with
    | .entry e => (match e.kind with | .pending _ => true | _ => false)
    | _ => false))
  all.foldl (fun d x => match d.entry x.1.a x.1.b x.1.c with
    | some e => e.waiters.foldl (fun d w => d.relookup c w) (d.dropEntry x.1.a x.1.b x.1.c)
    | none => d) d

/-! ### Records made (R198 step 4, R202) -/

/-- Whether both keys of a record give one bank (R180). -/
def Dev.oneBank (d : Dev) (fwd rev : List Byte) : Bool := d.bankOf fwd == d.bankOf rev

/-- A record stored with both index entries under a number of the free ring (R183, R198 step 4): none when no number
is free or the buckets of a key are full. -/
def Dev.storeRecord (d : Dev) (die : Nat) (r : FlowRec) : Option (Dev × Nat) :=
  match d.takeRecord die with
  | none => none
  | some (d, n) =>
    match (d.indexPut die r.fwd n false).bind (fun d => d.indexPut die r.rev n true) with
    | none => none
    | some d =>
      let img := { r.img with record := n, fpFwd := d.fpOf r.fwd, fpRev := d.fpOf r.rev }
      let d := (d.hbmAccess die 0x050 (d.bucketCh (d.bucketsOf r.rev).1)).hbmAccess die 0x051 (d.recChannels n)
      some ((d.setRec die n { r with img := img }).recLive die, n)

/-- The INSERT entry of a record (R389, R390): the sequence it takes, 0 when none is journaled. -/
def Dev.journalInsert (d : Dev) (c : Clock) (die n : Nat) : Dev × Nat :=
  match d.frec die n, d.imgNow die n with
  | some r, some i => d.journal c die 0 i (r.emberImage i)
  | _, _ => (d, 0)

/-- What stands in the Hearth for either key of a record under creation, other than entry `except_` (R199). -/
def Dev.earlier (d : Dev) (fwd rev : List Byte) (except_ : Option (Nat × Nat × Nat)) : Option (Nat × Hit) :=
  [fwd, rev].findSome? (fun k =>
    let b := d.bankOf k
    match d.hearthFind b (d.setOf k) (d.fpOf k) with
    | some h => if some (b, h.set, h.way) == except_ then none else some (b, h)
    | none => none)

/-! ### Flow commands (R201–R203) -/

/-- Entries of a command ring; values of log2_size outside 2–20 disable it. -/
def Dev.cmdSize (d : Dev) (die : Nat) : Nat := 2 ^ d.fld F.FLW_CMD_RING_log2_size die

/-- Whether a command waits on a die's ring. -/
def Dev.cmdReady (d : Dev) (die : Nat) : Bool :=
  let n := d.fld F.FLW_CMD_RING_log2_size die
  2 ≤ n && n ≤ 20 && !d.host.stopped.contains die && d.fld F.FLW_CMD_PTR_head die != d.fld F.FLW_CMD_PTR_tail die % d.cmdSize die

/-- A command completes: its completion word is written, and the head moves on. -/
def Dev.cmdDone (d : Dev) (die status record : Nat) : Dev :=
  let h := d.fld F.FLW_CMD_PTR_head die
  let addr := d.fld F.FLW_CMD_RING_base die * 256 + 256 * h + 8
  let d := d.emit (.hostWrite addr (leBytes 8 (status % 256 + 256 + record % 2 ^ 28 * 2 ^ 32)))
  d.put F.FLW_CMD_PTR_head die ((h + 1) % d.cmdSize die)

/-- A key with nonzero reserved bytes (R202 status 6). -/
def badKey (k : List Byte) : Bool := (k.drop 44).take 4 != List.replicate 4 (0 : Byte)

/-- Port h[7] and h[0] of a translated port (R263): the die and the twin half that may allocate it. -/
def Dev.portHalf (d : Dev) (port : Nat) : Nat × Nat :=
  let v := (Config.portPerm d.bankKey.1 d.bankKey.2 (port % 65536)).val
  (bitsOf v 15 1, bitsOf v 8 1)

/-- Whether this device may allocate ports of a twin half now (R263): alone or with its peer failed, both. -/
def Dev.natHalfOk (d : Dev) (half : Nat) : Bool :=
  match d.fld F.TWN_STATUS_role with
  | 1 => d.flag F.TWN_STATUS_peer_failed || d.flag F.TWN_STATUS_alone || half == 0
  | 2 => d.flag F.TWN_STATUS_peer_failed || d.flag F.TWN_STATUS_alone || half == 1
  | _ => true

/-- Refusal of an INSERT (R202, R266): its status, or none. -/
def Dev.insertRefusal (d : Dev) (c : Clock) (r : FlowRec) : Option Nat :=
  let die := d.bankOf r.fwd / 128
  let i := r.img
  let known := fun k => (match (d.lookup die k).2 with | .none => false | _ => true)
  let creating := match d.earlier r.fwd r.rev none with
    | some (b, h) => (match d.entry b h.set h.way with
      | some e => (match e.kind with | .pending _ => false | _ => true)
      | none => false)
    | none => false
  let full := i.snatValid && (d.intern c die (keySrc r.fwd)).2.isNone
  if badKey r.fwd || badKey r.rev then some 6
  else if !d.oneBank r.fwd r.rev then some 4
  else if known r.fwd || known r.rev || creating then some 1
  else if i.snatValid && (d.portUsed die i.addrIdx i.pclass i.xport || (d.portHalf i.xport).1 != die ||
      !d.natHalfOk (d.portHalf i.xport).2) then some 1
  else if (d.storeRecord die r).isNone || full then some 2
  else none

/-- A pending entry of either key turned into a resident one (R200 step 4): the waiting packets run as hits, or are
dropped and counted. -/
def Dev.pendingTurn (d : Dev) (c : Clock) (die n : Nat) (r : FlowRec) (release : Bool) : Dev :=
  match d.earlier r.fwd r.rev none, d.frec die n with
  | some (b, h), some r' =>
    (match d.entry b h.set h.way with
    | some e =>
      let dir := e.key != r.fwd
      let d := d.setEntry b h.set h.way { r'.toEntry dir with pinned := true }
      let ids := e.waiters.filterMap (fun w => match w with | .pkt id => some id | _ => none)
      if release then d.serveAll c ids
      else ids.foldl (fun d id => match d.pkt id with
        | some x => (d.shedCount c die x.actionClass 6).flowDrop c id
        | none => d) d
    | none => d)
  | _, _ => d

/-- INSERT (R202, R266): the record created from a body, its status and number. -/
def Dev.hostInsert (d : Dev) (c : Clock) (body : List Byte) (release : Bool) : Dev × Nat × Nat :=
  let r := recOf body
  match d.insertRefusal c r with
  | some st => (d, st, 0)
  | none =>
    let die := d.bankOf r.fwd / 128
    let (bound, i) := d.takeBinding c die r.fwd { r.img.zeroDeltas with touched := r.img.touched }
    match bound.storeRecord die { r with hostMade := true, img := i } with
    | none => (d, 2, 0)
    | some (d, n) =>
      let (d, _) := (d.flwCnt die 5).journalInsert c die n
      (d.pendingTurn c die n r release, 0, n)

/-- Whether a record may be changed now: not resident and untagged, or resident with its lock free and nobody
waiting. -/
def Dev.recFree (d : Dev) (die n : Nat) : Bool :=
  match d.resident die n with
  | some (b, s, w) => (match d.entry b s w with
    | some e => !e.lock && e.waiters.isEmpty
    | none => true)
  | none => d.flw.tags.num die n == 0

/-- A record's image and word 3 replaced, in its entry when it is resident. -/
def Dev.changeRec (d : Dev) (die n : Nat) (f : FlowRec → FlowRec) (g : Img → Img) : Dev :=
  match d.frec die n with
  | none => d
  | some r =>
    match d.resident die n with
    | some (b, s, w) => (match d.entry b s w with
      | some e => (d.setRec die n { f r with img := r.img }).setEntry b s w
          { e with img := g e.img, dirty := true, cls := (f r).flowClass }
      | none => d)
    | none => d.setRec die n { f r with img := g r.img }

/-- What a changed translation or backend names is taken up, and what the old one named is released. -/
def Dev.rebind (d : Dev) (c : Clock) (die : Nat) (fwd : List Byte) (old new : Img) : Dev × Img :=
  let same := old.opA == new.opA && putBits old.opB 16 18 0 == putBits new.opB 16 18 0 &&
    old.state / 256 == new.state / 256
  if same then (d, { new with opB := old.opB })
  else (d.releaseBinding c die old).takeBinding c die fwd new

/-- The flow of a command key, when it may be changed now: status 3 when there is none; no answer while it is held. -/
def Dev.cmdFlow (d : Dev) (k : List Byte) : Option (Except Nat (Nat × Nat × Bool)) :=
  let die := d.bankOf k / 128
  match (d.lookup die k).2 with
  | .found n dir => if d.recFree die n then some (.ok (die, n, dir)) else none
  | _ => some (.error 3)

/-- INSERT of a die's command ring. -/
def Dev.flowInsert (d : Dev) (c : Clock) (die : Nat) (release : Bool) (body : List Byte) : Dev :=
  if !d.cmdReady die then d
  else
    let (d, st, n) := d.hostInsert c body release
    d.cmdDone die st n

/-- UPDATE (R202): the decision fields replaced under the flow's lock, and journaled; it waits while the flow is
held. A body whose forward key is a flow's reverse key names none (log entry 94). -/
def Dev.flowUpdate (d : Dev) (c : Clock) (die : Nat) (body : List Byte) : Dev :=
  if !d.cmdReady die then d
  else
    let r := recOf body
    if badKey r.fwd || badKey r.rev then d.cmdDone die 6 0
    else match d.cmdFlow r.fwd with
      | none => d
      | some (.error st) => d.cmdDone die st 0
      | some (.ok (_, _, true)) => d.cmdDone die 3 0
      | some (.ok (hd, n, false)) =>
        match d.frec hd n, d.imgNow hd n with
        | some old, some oi =>
          let ni := { oi with rule := r.img.rule, action := r.img.action, mirror := r.img.mirror, state := r.img.state,
                              opA := r.img.opA, opB := r.img.opB }
          let (d, ni) := d.rebind c hd old.fwd oi ni
          let d := d.changeRec hd n (fun x => { x with timeoutSel := r.timeoutSel, flowClass := r.flowClass }) (fun _ => ni)
          let d := match d.frec hd n, d.imgNow hd n with
            | some x, some i => (d.journal c hd 5 i (x.emberImage i)).1
            | _, _ => d
          d.cmdDone die 0 n
        | _, _ => d.cmdDone die 3 0

/-- DELETE (R202, R203). -/
def Dev.flowDelete (d : Dev) (c : Clock) (die : Nat) (key : List Byte) : Dev :=
  if !d.cmdReady die then d
  else if badKey key then d.cmdDone die 6 0
  else match d.cmdFlow key with
    | none => d
    | some (.error st) => d.cmdDone die st 0
    | some (.ok (hd, n, _)) => (d.deleteFlow c hd n false true).cmdDone die 0 n

/-- READ (R202, R210): the image with each base replaced by base plus delta, the deltas zero. -/
def Dev.flowRead (d : Dev) (die : Nat) (resultAddr : Nat) (key : List Byte) : Dev :=
  if !d.cmdReady die then d
  else if badKey key then d.cmdDone die 6 0
  else
    let hd := d.bankOf key / 128
    match (d.lookup hd key).2 with
    | .found n _ => (match d.frec hd n, d.imgNow hd n with
      | some r, some i => (d.emit (.hostWrite (resultAddr / 64 * 64) (r.flush i).bytes)).cmdDone die 0 n
      | _, _ => d.cmdDone die 3 0)
    | _ => d.cmdDone die 3 0

/-- A command with an unknown op (R201). -/
def Dev.flowBadOp (d : Dev) (die : Nat) : Dev := if d.cmdReady die then d.cmdDone die 5 0 else d

/-! ### Hearth banks (R214, R215) -/

/-- A bank's replacement by a spare starts, or, with none left, the bank enters bypass (R214, R215). -/
def Dev.bankReplace (d : Dev) (c : Clock) (b : Nat) : Dev :=
  let die := b / 128
  let free := d.fld F.HRT_SPARE_CTRL_spares_free die
  if d.fld F.HRT_BANK_STATUS_state b != 0 then d
  else if free == 0 then
    let cells := d.flw.hearth.cells.filter (fun x => x.1.a == b)
    let d := d.put F.HRT_BANK_STATUS_state b 2
    cells.foldl (fun d x => d.bypassOut c x.1.a x.1.b x.1.c) d
  else
    let d := d.put F.HRT_BANK_STATUS_state b 1
    { d with flw := { d.flw with copying := d.flw.copying ++ [(b, c.phys)] } }

/-- The copy to the spare ends after 16,384 ways, one per CLK_CORE cycle (R214 steps 2–5): 8.192 µs. -/
def Dev.bankCopyDone (d : Dev) (c : Clock) (b : Nat) : Dev :=
  match d.flw.copying.find? (fun x => x.1 == b) with
  | none => d
  | some (_, since) =>
    if c.phys - since < edgesNs 8192 then d
    else
      let die := b / 128
      let free := d.fld F.HRT_SPARE_CTRL_spares_free die
      let d := { d with flw := { d.flw with copying := d.flw.copying.filter (fun x => x.1 != b) } }
      let d := (d.put F.HRT_SPARE_CTRL_spares_free die (free - 1)).put F.HRT_BANK_STATUS_spare b (3 - free)
      let d := (d.put F.HRT_BANK_STATUS_state b 0).raise c .HRT_BANK_RETIRED 1 die [(8, b % 128)]
      let d := if free == 1 then d.raise c .HRT_SPARES_LOW 1 die else d
      let n := d.pkts.vals.countP (fun y => y.loc == .bankWait && d.bankOf y.parse.key == b)
      (List.range n).foldl (fun d _ => d.bankEnter c b) d

/-- HRT_SPARE_CTRL.retire_go: the named bank retires. -/
def Dev.bankRetire (d : Dev) (c : Clock) (die : Nat) : Dev :=
  let b := 128 * die + d.fld F.HRT_SPARE_CTRL_retire die
  if d.fld F.HRT_BANK_STATUS_state b == 1 then d.triggerBusy c .HRT_SPARE_CTRL else d.bankReplace c b

/-- An uncorrectable Hearth entry (R212): invalidated, the flow refilled from HBM; the fourth one of a bank retires
the bank (R214). -/
def Dev.entryUe (d : Dev) (c : Clock) (b s w : Nat) : Dev :=
  let die := b / 128
  let d := (d.ue 1 1 die (b * 65536 + s * 4 + w)).bumpWrap F.HRT_BANK_STATUS_ue_count b F.HRT_CNT_WRAP_wrap
    (4 * die + (2 * (b % 128) + 1) / 64) ((2 * (b % 128) + 1) % 64)
  let d := match d.way b s w with
    | some (.entry e) =>
      let d := d.dropEntry b s w
      let d := d.raise c .HRT_ENTRY_UE 1 die [(8, b % 128)] (some 3)
      e.waiters.foldl (fun d x => d.relookup c x) d
    | some (.aliases _ _ _ _ _) => d.evictAliases b s w
    | none => d
  if d.fld F.HRT_BANK_STATUS_ue_count b == 4 then d.bankReplace c b else d

/-! ### Evacuation (R213, R464–R466) -/

/-- An evacuation starts (R213): `auto` when the die selects the channel itself. Without a reserve nothing starts. -/
def Dev.evacStart (d : Dev) (c : Clock) (die ch : Nat) : Dev :=
  if d.fld F.FLW_HBM_EVAC_state die == 1 || d.fld F.FLW_HBM_EVAC_state die == 2 then d.triggerBusy c .FLW_HBM_EVAC
  else if d.flw.noReserve.num die == 1 || d.channels ≤ ch || d.fld F.FLW_HBM_CH_STATUS_state (chIx die ch) != 0 then d
  else
    let d := ((d.put F.FLW_HBM_EVAC_state die 1).put F.FLW_HBM_EVAC_progress die 0).put F.FLW_HBM_CH_STATUS_state (chIx die ch) 1
    { d with flw := { d.flw with evacAuto := d.flw.evacAuto.put ⟨die, 0, 0⟩ ch } }

/-- Channel under evacuation. -/
def Dev.evacChannel (d : Dev) (die : Nat) : Nat := d.flw.evacAuto.num die

/-- The copy ends: EV_FLW_EVAC_DONE, and the channel retrains in service (R213). -/
def Dev.evacDone (d : Dev) (c : Clock) (die : Nat) : Dev :=
  if d.fld F.FLW_HBM_EVAC_state die != 1 then d
  else
    let ch := d.evacChannel die
    let d := ((d.put F.FLW_HBM_EVAC_state die 2).put F.FLW_HBM_EVAC_progress die 255).put F.FLW_HBM_CH_STATUS_state (chIx die ch) 2
    d.raise c .FLW_EVAC_DONE 6 (chIx die ch)

/-- Retraining ends: the channel's pages become the new reserve, or it stays retired and the die has none (R213). -/
def Dev.retrainDone (d : Dev) (die : Nat) (pass : Bool) : Dev :=
  if d.fld F.FLW_HBM_EVAC_state die != 2 then d
  else
    let ch := d.evacChannel die
    if pass then
      (d.put F.FLW_HBM_EVAC_state die 0).put F.FLW_HBM_CH_STATUS_state (chIx die ch) 0
    else
      let d := d.put F.FLW_HBM_EVAC_state die 3
      { d with flw := { d.flw with noReserve := d.flw.noReserve.setNum ⟨die, 0, 0⟩ 1 } }

end Sys2Proof.Machine
end

