-- ==== Sys2Proof/Machine/Edit.lean ====
section
/-! DEFINITION. Packet edits, next hops, IOAM and the frame that leaves (R162, R163, R283, R297, R298, R512). -/
namespace Sys2Proof.Machine

/-- A block pushed before an original offset: its bytes, template flags, and the walk of R512: 0 none, 1 Ethernet,
2 IP. -/
structure Push where
  off : Nat
  bytes : List Byte
  flags : Nat
  walk : Nat

/-- Edits in progress on a frame: its bytes with rewrites applied, headers popped, blocks pushed, edits discarded. -/
structure EditSt where
  bytes : List Byte
  popped : List Nat
  pushes : List Push
  discards : Nat

/-- How a block pushed before a header of a role is walked (R512). -/
def walkOf (role : Nat) : Nat := if role == 1 || role == 2 then 1 else if role == 4 || role == 5 then 2 else 0

/-- Header-stack index of the flow layer's outermost header. -/
def ParseRes.flowHeader (r : ParseRes) : Nat :=
  match r.ipOff with
  | none => 24
  | some (off, _) =>
    let layer := ((r.stack.find? (fun h => h.off == off)).map Hdr.layer).getD 0
    (r.stack.findIdx? (fun h => h.layer == layer)).getD 24

/-- A push before a header, or at the payload offset for an index beyond the headers parsed (R162). -/
def EditSt.push (e : EditSt) (r : ParseRes) (hdr : Nat) (bytes : List Byte) (flags : Nat) : EditSt :=
  match r.stack[hdr]? with
  | some h => { e with pushes := e.pushes ++ [⟨h.off, bytes, flags, walkOf h.role⟩] }
  | none => { e with pushes := e.pushes ++ [⟨r.payload, bytes, flags, 0⟩] }

/-- Window bytes rewritten at an offset, as far as the window and the frame reach. -/
def EditSt.rewrite (e : EditSt) (off limit : Nat) (bytes : List Byte) : EditSt :=
  { e with bytes := splice e.bytes off (bytes.take (min limit e.bytes.length - off)) }

/-- The data bytes and flag bits of a template visible to a generation (R162). -/
def Dev.template (d : Dev) (n g : Nat) : Option (List Byte × Nat) :=
  (d.ventry .CLS_TEMPLATE_TBL [n] g).map (fun v =>
    (((List.range 8).map (fun w => leBytes 8 (v.data.getD w 0))).flatten, v.data.getD 8 0 % 256))

/-- One edit applied (R162, R163). -/
def Dev.applyEdit (d : Dev) (x : Pkt) (e : EditSt) (ed : Edit) : EditSt :=
  let drop := { e with discards := e.discards + 1 }
  match ed with
  | .rw off bytes => e.rewrite off 512 bytes
  | .push hdr bytes flags => e.push x.parse hdr bytes flags
  | .op w =>
    let kind := bitsOf w 0 3
    let hdr := bitsOf w 3 5
    let tmpl := d.template (bitsOf w 20 12) x.gen
    match kind, tmpl with
    | 1, some (data, _) =>
      (match x.parse.stack[hdr]? with
      | some h =>
        if e.popped.contains hdr then drop
        else e.rewrite (h.off + bitsOf w 8 8) (h.off + h.len) (data.take (bitsOf w 16 4 + 1))
      | none => drop)
    | 2, some (data, flags) => e.push x.parse hdr (data.take (4 * (bitsOf w 16 4 + 1))) flags
    | 3, _ => if (x.parse.stack[hdr]?).isNone || e.popped.contains hdr then drop else { e with popped := e.popped ++ [hdr] }
    | 1, none => drop
    | 2, none => drop
    | _, _ => e

/-- Whether an original byte was popped. -/
def EditSt.gone (e : EditSt) (r : ParseRes) (o : Nat) : Bool :=
  e.popped.any (fun i => match r.stack[i]? with | some h => h.off ≤ o && o < h.off + h.len | none => false)

/-- The edited bytes from original offset `o` on. -/
def EditSt.build (e : EditSt) (r : ParseRes) : Nat → List Byte → List Byte
  | o, [] => ((e.pushes.filter (fun p => o ≤ p.off)).map Push.bytes).flatten
  | o, b :: t =>
    ((e.pushes.filter (fun p => p.off == o)).map Push.bytes).flatten ++ (if e.gone r o then [] else [b]) ++ e.build r (o + 1) t

/-- Place in the edited frame of original offset `o`, after what is pushed before it. -/
def EditSt.newPos (e : EditSt) (r : ParseRes) (o : Nat) : Nat :=
  o - (List.range o).countP (e.gone r) + (e.pushes.filter (fun p => p.off ≤ o)).foldl (fun n p => n + p.bytes.length) 0

/-- Place in the edited frame where pushed block `j` starts. -/
def EditSt.pushPos (e : EditSt) (r : ParseRes) (j : Nat) (p : Push) : Nat :=
  let before := ((e.pushes.zipIdx).filter (fun x => x.1.off < p.off || (x.1.off == p.off && x.2 < j))).foldl
    (fun n x => n + x.1.bytes.length) 0
  p.off - (List.range p.off).countP (e.gone r) + before

/-- A header found for length fills: kind 4 IPv4, 6 IPv6, 17 UDP, its place, its length. -/
abbrev FoundHdr := Nat × Nat × Nat

/-- An IP header and a UDP header directly after it in a pushed block (R512), `base` the block's place. -/
def walkIp (bs : List Byte) (off base : Nat) : List FoundHdr :=
  let nib := byteAt bs off / 16
  let udpAt := fun (o : Nat) => if o + 8 ≤ bs.length then [(17, base + o, 8)] else []
  if nib == 4 then
    let n := 4 * (byteAt bs off % 16)
    if off + n ≤ bs.length && 20 ≤ n then
      (4, base + off, n) :: (if byteAt bs (off + 9) == 17 then udpAt (off + n) else [])
    else []
  else if nib == 6 && off + 40 ≤ bs.length then
    (6, base + off, 40) :: (if byteAt bs (off + 6) == 17 then udpAt (off + 40) else [])
  else []

/-- Offset of the EtherType after the tags of a block walked as Ethernet. -/
def skipTags (bs : List Byte) : Nat → Nat → Nat
  | 0, o => o
  | n + 1, o =>
    let t := ofBeBytes ((bs.drop o).take 2)
    if (t == 0x8100 || t == 0x88A8) && o + 4 ≤ bs.length then skipTags bs n (o + 4) else o

/-- The IPv4, IPv6 and UDP headers of a pushed block (R512). -/
def walkBlock (p : Push) (base : Nat) : List FoundHdr :=
  match p.walk with
  | 1 =>
    if p.bytes.length < 14 then []
    else
      let o := skipTags p.bytes 16 12
      let t := ofBeBytes ((p.bytes.drop o).take 2)
      let nib := byteAt p.bytes (o + 2) / 16
      if (t == 0x0800 && nib == 4) || (t == 0x86DD && nib == 6) then walkIp p.bytes (o + 2) base else []
  | 2 => walkIp p.bytes 0 base
  | _ => []

/-- The parsed IPv4, IPv6 and UDP headers that were not popped, at their places in the edited frame. -/
def EditSt.parsedHdrs (e : EditSt) (r : ParseRes) : List FoundHdr :=
  (r.stack.zipIdx).filterMap (fun x =>
    let kind := if x.1.role == 4 then 4 else if x.1.role == 5 then 6 else if x.1.role == 9 then 17 else 0
    if kind == 0 || e.popped.contains x.2 then none else some (kind, e.newPos r x.1.off, x.1.len))

/-- The header of a kind that a flag of a pushed block fills: in the block, else the nearest preceding one. -/
def fillTarget (kind base : Nat) (block all : List FoundHdr) : Option Nat :=
  match block.find? (fun h => h.1 == kind) with
  | some h => some h.2.1
  | none => (all.filter (fun h => h.1 == kind && h.2.1 < base)).foldl (fun m h => match m with
    | none => some h.2.1
    | some n => some (max n h.2.1)) none

/-- Length fields of one pushed block filled, each to the end of the frame (R163; log entry 50). -/
def fillLengths (bs : List Byte) (p : Push) (base : Nat) (block all : List FoundHdr) : List Byte :=
  let n := bs.length
  let put := fun (bs : List Byte) (flag kind at_ sub : Nat) =>
    if !bitOf p.flags flag then bs
    else match fillTarget kind base block all with
      | some o => splice bs (o + at_) (beBytes 2 (n - o - sub))
      | none => bs
  put (put (put bs 0 4 2 0) 1 17 4 0) 2 6 4 40

/-- A packet's frame with edits applied, lengths filled and IPv4 checksums recomputed (R163), its edit state, and
the edits discarded. -/
def Dev.editFrame (d : Dev) (x : Pkt) (edits : List Edit) : List Byte × EditSt :=
  let e := edits.foldl (d.applyEdit x) ⟨x.bytes, [], [], 0⟩
  let bs := e.build x.parse 0 e.bytes
  let blocks := (e.pushes.zipIdx).map (fun y =>
    let base := e.pushPos x.parse y.2 y.1
    (y.1, base, walkBlock y.1 base))
  let parsed := e.parsedHdrs x.parse
  let all := parsed ++ (blocks.map (fun y => y.2.2)).flatten
  let filled := blocks.foldl (fun bs y => fillLengths bs y.1 y.2.1 y.2.2 all) bs
  let pushed := ((blocks.map (fun y => y.2.2)).flatten).filter (fun h => h.1 == 4)
  let changed := ((x.parse.stack.zipIdx).filter (fun y => y.1.role == 4 && !e.popped.contains y.2)).filterMap (fun y =>
    let o := e.newPos x.parse y.1.off
    if (filled.drop o).take y.1.len == (x.bytes.drop y.1.off).take y.1.len then none else some (4, o, y.1.len))
  ((pushed ++ changed).foldl (fun bs h => fixIpv4 bs h.2.1) filled, e)

/-! ### Next hops (R283) -/

/-- What a next-hop handle says. -/
inductive NextHop where
  | drop
  | punt
  | unicast (port : Nat) (vlan : Option Nat) (smac dmac : Nat) (remote : Option Nat)
  deriving DecidableEq, Repr

/-- An entry of LBL_NH_TBL visible to a generation. -/
def Dev.nhEntry (d : Dev) (handle g : Nat) : Option Nat :=
  (d.ventry .LBL_NH_TBL [handle] g).map (fun v => v.data.getD 0 0 + v.data.getD 1 0 * 2 ^ 64)

/-- The unicast handle after group selection with a flow hash; none drops (R283). -/
def Dev.nhResolve (d : Dev) (handle g : Nat) (h : Word) : Option Nat :=
  match d.nhEntry handle g with
  | none => none
  | some e =>
    if bitsOf e 0 2 != 1 then some handle
    else
      let size := min (bitsOf e 22 9) 256
      if size == 0 then none
      else
        let m := bitsOf e 2 20 + h.toNat * size / 2 ^ 64
        match (d.ventry .LBL_NH_MEMBER_TBL [m] g).map (fun v => v.data.getD 0 0 % 2 ^ 20) with
        | none => none
        | some k => (match d.nhEntry k g with
          | some me => if bitsOf me 0 2 == 1 then none else some k
          | none => none)

/-- The next hop of a handle. -/
def Dev.nextHop (d : Dev) (handle g : Nat) (h : Word) : NextHop :=
  match (d.nhResolve handle g h).bind (fun k => d.nhEntry k g) with
  | none => .drop
  | some e =>
    match bitsOf e 0 2 with
    | 0 =>
      let port := bitsOf e 2 9
      let far := d.pealPort port
      .unicast port (if bitOf e 23 && !far then some (bitsOf e 11 12) else none) (bitsOf e 24 8) (bitsOf e 32 48)
        (if far then some (bitsOf e 11 9) else none)
    | 3 => .punt
    | _ => .drop

/-- A frame with its MAC addresses written and its VLAN tag pushed (R283). -/
def Dev.l2Rewrite (d : Dev) (bs : List Byte) (vlan : Option Nat) (smac dmac : Nat) : List Byte :=
  let src := d.tw .LBL_SMAC_TBL 0 smac 0 % 2 ^ 48
  let bs := splice (splice bs 0 (beBytes 6 dmac)) 6 (beBytes 6 src)
  match vlan with
  | none => bs
  | some v => bs.take 12 ++ beBytes 2 0x8100 ++ beBytes 2 (Config.vlanPcp.val * 4096 + v) ++ bs.drop 12

/-! ### IOAM (R297, R298) -/

/-- Trace-type bits of R298 in data order, with their bytes. -/
def ioamBits : List (Nat × Nat) := [(0, 4), (1, 4), (2, 4), (3, 4), (4, 4), (6, 4), (8, 8), (9, 8), (11, 4)]

/-- Whether a 24-bit trace type has a bit; bit 0 is the most significant. -/
def traceBit (t b : Nat) : Bool := bitOf t (23 - b)

/-- Bytes of a node's data. -/
def ioamLen (t : Nat) : Nat := (ioamBits.filter (fun b => traceBit t b.1)).foldl (fun n b => n + b.2) 0

/-- Offset of a bit's data within the node data. -/
def ioamOffset (t bit_ : Nat) : Nat :=
  ((ioamBits.filter (fun b => traceBit t b.1)).takeWhile (fun b => b.1 != bit_)).foldl (fun n b => n + b.2) 0

/-- Node data of some bits written: (bit, value). -/
def ioamPut (bs : List Byte) (t at_ : Nat) (vals : List (Nat × Nat)) : List Byte :=
  vals.foldl (fun bs v => if traceBit t v.1 then
    splice bs (at_ + ioamOffset t v.1) (beBytes (((ioamBits.find? (fun b => b.1 == v.1)).map Prod.snd).getD 4) v.2) else bs) bs

/-- The IOAM option in the header at `o` of an edited frame filled at COMMIT (R297): the frame, and the trace type
and place of this node's data when it was filled; the counter of TEL_CNT it counts in. -/
def Dev.ioamFill (d : Dev) (x : Pkt) (bs : List Byte) (o hopLimit : Nat) : List Byte × Option (Nat × Nat) × Nat :=
  let ns := ofBeBytes ((bs.drop (o + 6)).take 2)
  let word := ofBeBytes ((bs.drop (o + 8)).take 2)
  let t := ofBeBytes ((bs.drop (o + 10)).take 3)
  let known := ioamBits.foldl (fun n b => n + 2 ^ (23 - b.1)) 0
  let optOk := byteAt bs (o + 2) % 32 == 0x11 && byteAt bs (o + 5) == 0
  let nsOk := ns == d.fld F.TEL_IOAM_CFG_ns_id || d.flag F.TEL_IOAM_CFG_ns_any
  if !d.flag F.TEL_IOAM_CFG_enable || !optOk || !nsOk || t ||| known != known then (bs, none, 10)
  else
    let n := ioamLen t / 4
    let left := word % 128
    if left < n then (splice bs (o + 8) (beBytes 2 (putBit word 10 true)), none, 9)
    else
      let left := left - n
      let bs := splice bs (o + 8) (beBytes 2 (putBits word 0 7 left))
      let at_ := o + 14 + 4 * left
      let node := d.fld F.TEL_IOAM_NODE_node_id
      let bs := ioamPut bs t at_ [(0, hopLimit * 2 ^ 24 + node % 2 ^ 24), (2, x.stamp.sec % 2 ^ 32), (3, x.stamp.ns),
        (8, hopLimit * 2 ^ 56 + node)]
      (bs, some (t, at_), 8)

end Sys2Proof.Machine
end

