-- ==== Sys2Proof/Machine/Engine.lean ====
section
/-! DEFINITION. Microwords, action engines and their dispatch (R216–R233, R253). -/
namespace Sys2Proof.Machine

/-! ### Microwords (R221, R234) -/

/-- The ALU slot of a microword. -/
structure AluSlot where
  op : Nat
  dst : Nat
  a : Nat
  b : Nat
  useImm : Bool
  w32 : Bool
  setFlags : Bool

/-- The memory slot of a microword. -/
structure MemSlot where
  op : Nat
  reg : Nat
  space : Nat
  off : Nat
  bytes : Nat
  idx : Bool
  base : Nat

/-- An action microword. -/
structure ActWord where
  seq : Nat
  cond : Nat
  target : Nat
  disp : Nat
  fdel : Bool
  wait : Bool
  alu : AluSlot
  mem : MemSlot
  imm : Nat
  unit : Nat
  fn : Nat

/-- The fields of an action microword (R221). -/
def ActWord.of (w : Nat) : ActWord where
  seq := bitsOf w 0 3
  cond := bitsOf w 3 5
  target := bitsOf w 8 13
  disp := bitsOf w 21 3
  fdel := bitOf w 24
  wait := bitOf w 25
  alu := ⟨bitsOf w 26 4, bitsOf w 30 5, bitsOf w 35 5, bitsOf w 40 5, bitOf w 45, bitOf w 46, bitOf w 47⟩
  mem := ⟨bitsOf w 48 4, bitsOf w 52 5, bitsOf w 57 3, bitsOf w 60 12, bitsOf w 72 3 + 1, bitOf w 75, bitsOf w 76 5⟩
  imm := bitsOf w 96 32
  unit := bitsOf w 140 4
  fn := bitsOf w 128 12

/-- A Sweeper microword. -/
structure SwpWord where
  seq : Nat
  ways : Nat
  c : List Nat
  target : Nat
  alu : AluSlot
  mem : MemSlot
  del : Bool
  imm : Nat

/-- The fields of a Sweeper microword (R234). -/
def SwpWord.of (w : Nat) : SwpWord where
  seq := bitsOf w 0 3
  ways := bitsOf w 3 2
  c := [bitsOf w 5 5, bitsOf w 10 5, bitsOf w 15 5, bitsOf w 20 5]
  target := bitsOf w 25 12
  alu := ⟨bitsOf w 37 4, bitsOf w 41 5, bitsOf w 46 5, bitsOf w 51 5, bitOf w 56, bitOf w 57, bitOf w 58⟩
  mem := ⟨bitsOf w 59 4, bitsOf w 63 5, bitsOf w 68 3, bitsOf w 71 12, bitsOf w 83 3 + 1, bitOf w 86, bitsOf w 87 5⟩
  del := bitOf w 92
  imm := bitsOf w 96 32

/-- Even parity over each `n`-bit group of a word with its four parity bits. -/
def parityOk (w parity n : Nat) : Bool :=
  (List.range 4).all (fun i => ((List.range n).countP (fun j => bitOf w (n * i + j)) + bit (bitOf parity i)) % 2 == 0)

/-- A control-store entry and its parity bits: words 0–2 hold the microword, with the parity bits at bit `at_` of
word 2, and word 3 is 1 where a word was loaded; elsewhere the store reads as a word with seq 5, ABORT or END_VISIT
(R248). -/
def Dev.storeWord (d : Dev) (t : TableId) (inst addr at_ : Nat) : Nat × Nat :=
  if d.tw t inst addr 3 == 0 then (5, 0)
  else
    let w2 := d.tw t inst addr 2
    (d.tw t inst addr 0 + d.tw t inst addr 1 * 2 ^ 64 + w2 % 2 ^ at_ * 2 ^ 128, bitsOf w2 at_ 4)

/-! ### The ALU (R224) -/

/-- The bytes of an `n`-bit number reversed. -/
def bswap (n v : Nat) : Nat := ofBeBytes (leBytes (n / 8) v)

/-- The folded ones' complement sum of the 16-bit parts of two words. -/
def csum (a b : Nat) : Nat := onesSum (beBytes 8 a ++ beBytes 8 b)

/-- An ALU operation on `n`-bit operands: result and carry or borrow (R224). -/
def aluOp (n op a b : Nat) : Nat × Bool :=
  let m := 2 ^ n
  match op with
  | 1 => ((a + b) % m, m ≤ a + b)
  | 2 => ((a + m - b) % m, a < b)
  | 3 => (a &&& b, false)
  | 4 => (a ||| b, false)
  | 5 => (a ^^^ b, false)
  | 6 => (a * 2 ^ (b % 64) % m, false)
  | 7 => (a / 2 ^ (b % 64), false)
  | 8 => (unsigned n (signed n a / ((2 ^ (b % 64) : Nat) : Int)), false)
  | 9 => (b, false)
  | 10 => ((a + m - b) % m, a < b)
  | 11 => (min a b, false)
  | 12 => (max a b, false)
  | 13 => (csum a b % m, false)
  | 14 => (bswap n a, false)
  | 15 => (unsigned n (tsDiff a b), false)
  | _ => (0, false)

/-- The flags of an `n`-bit result. -/
def flagsOf (n v : Nat) (c : Bool) : Flags := ⟨v == 0, bitOf v (n - 1), c⟩

/-- A general register: g0 reads zero (R221). -/
def gReg (regs : Tbl Word) (n : Nat) : Word := if n % 32 == 0 then 0 else regs.get (fun _ => 0) ⟨n % 32, 0, 0⟩

/-- A general register written: writes to g0 are discarded. -/
def gSet (regs : Tbl Word) (n : Nat) (v : Word) : Tbl Word :=
  if n % 32 == 0 then regs else regs.set (fun _ => 0) ⟨n % 32, 0, 0⟩ v

/-- An immediate: sign-extended to 64 bits, or taken as 32 bits. -/
def immOf (imm : Nat) (w32 : Bool) : Nat := if w32 then imm else unsigned 64 (signed 32 imm)

/-- The ALU slot executed on the registers at the word's start: what it will write. -/
def aluRun (regs : Tbl Word) (s : Slots) (a : AluSlot) (imm : Nat) : Slots :=
  let n := if a.w32 then 32 else 64
  let x := (gReg regs a.a).toNat % 2 ^ n
  let y := (if a.useImm then immOf imm a.w32 else (gReg regs a.b).toNat) % 2 ^ n
  let (r, carry) := aluOp n a.op x y
  let s := { s with aluDone := true }
  let s := if a.op == 0 || a.op == 10 then s else { s with aluW := some (a.dst, BitVec.ofNat 64 r) }
  if a.op == 10 || (a.setFlags && a.op != 0) then { s with flags := some (flagsOf n r carry) } else s

/-- Registers that an ALU slot reads. -/
def AluSlot.reads (a : AluSlot) : List Nat :=
  if a.op == 0 then []
  else (if a.op == 9 then [] else [a.a]) ++ (if a.useImm || a.op == 14 then [] else [a.b])

/-- Whether a register awaits a unit result (R226). -/
def awaited (calls : List Call) (n : Nat) : Bool :=
  n != 0 && calls.any (fun k => k.reg % 32 == n || (k.reg + 1) % 32 == n)

/-- Effective offset of a memory slot (R225). -/
def MemSlot.at (m : MemSlot) (regs : Tbl Word) : Nat :=
  m.off + if m.idx then (gReg regs m.base).toNat % 4096 else 0

/-- Bytes loaded from a space: zero for those beyond it (R225). -/
def loadBytes (space : List Byte) (off n : Nat) : List Byte := (List.range n).map (fun i => space[off + i]?.getD 0)

/-- Bytes written into a table of byte writes. -/
def putBytes (t : Tbl Nat) (off : Nat) (bs : List Byte) : Tbl Nat :=
  (bs.zipIdx).foldl (fun t x => t.put ⟨off + x.2, 0, 0⟩ x.1.toNat) t

/-! ### Runs -/

/-- The routine in progress on an engine. -/
def Dev.run (d : Dev) (inst e : Nat) : Option Run := d.eng.runs.find? ⟨inst, e, 0⟩

/-- A routine's state set. -/
def Dev.setRun (d : Dev) (inst e : Nat) (r : Run) : Dev :=
  { d with eng := { d.eng with runs := d.eng.runs.put ⟨inst, e, 0⟩ r } }

/-- An engine without a routine. -/
def Dev.dropRun (d : Dev) (inst e : Nat) : Dev := { d with eng := { d.eng with runs := d.eng.runs.erase ⟨inst, e, 0⟩ } }

/-- An engine counter of a pipeline. -/
def Dev.engCnt (d : Dev) (p k : Nat) (n : Nat := 1) : Dev := d.bump F.ENG_CNT_count (10 * p + k) n

/-- The word an engine is at: none when its parity is bad, the fetch being a machine check then (R243). -/
def Dev.actWord (d : Dev) (inst : Nat) (r : Run) : Option ActWord :=
  let (w, parity) := d.storeWord .ENG_CSTORE inst r.pc 32
  if parityOk w parity 40 then some (ActWord.of w) else none

/-- Registers that a memory slot reads (R225, R226). -/
def MemSlot.reads (m : MemSlot) : List Nat :=
  let base := if m.idx && (m.op == 1 || m.op == 2 || m.op == 3 || m.op == 4) then [m.base] else []
  base ++ (match m.op with
    | 3 => [m.reg]
    | 4 => [m.reg]
    | 6 => [m.reg]
    | 7 => (List.range 4).map (fun i => (m.reg + i) % 32)
    | _ => [])

/-- Whether a word may issue (R226, R227): no register it reads awaits a result, nor condition 20, the wait bit or a
fifth call. -/
def Run.ready (r : Run) (w : ActWord) : Bool :=
  let regs := w.alu.reads ++ w.mem.reads ++ (if 24 ≤ w.cond then [31] else [])
  !regs.any (awaited r.calls) && !(w.wait && !r.calls.isEmpty) && !(w.cond == 20 && r.calls.any Call.latest) &&
    !(w.mem.op == 7 && 4 ≤ r.calls.length)

/-- Cycles a routine has run (R232). -/
def Run.cycles (r : Run) (c : Clock) : Nat := max (c.core - r.startAt) r.words

/-- The routine of an engine with the word it may work on now: no slot of it executed and the word ready, or in
progress; never past the cycle limit. -/
def Dev.current (d : Dev) (c : Clock) (inst e : Nat) : Option (Run × ActWord) :=
  match d.run inst e with
  | none => none
  | some r =>
    match d.actWord inst r with
    | none => none
    | some w =>
      if r.limit ≤ r.cycles c then none
      else if r.slots.aluDone || r.slots.memDone || r.ready w then some (r, w) else none

/-- Whether both slots of a word have executed. -/
def Slots.complete (s : Slots) (a : AluSlot) (m : MemSlot) : Bool := (s.aluDone || a.op == 0) && (s.memDone || m.op == 0)

/-- The writes of a word's slots applied: the ALU's, then a load's (log entry 47). -/
def Slots.regs (s : Slots) (regs : Tbl Word) : Tbl Word :=
  let put := fun (t : Tbl Word) (w : Option (Nat × Word)) => match w with
    | .some (n, v) => gSet t n v
    | .none => t
  put (put regs s.aluW) s.memW

/-- Outstanding calls after a word: the one it issued is the latest. -/
def Slots.calls (s : Slots) (calls : List Call) : List Call :=
  match s.call with
  | .some k => calls.map (fun x => { x with latest := false }) ++ [k]
  | .none => calls

/-- A word ends with the next address. -/
def Run.advance (r : Run) (next : Nat) : Run :=
  { r with pc := next % 8192, regs := r.slots.regs r.regs, flags := r.slots.flags.getD r.flags,
           calls := r.slots.calls r.calls, slots := Slots.none, words := r.words + 1 }

/-! ### What a routine reads -/

/-- Word 4 of an entry as granted, H fields included (R186). -/
def HEntry.word4 (e : HEntry) : Nat :=
  e.img.word4 + bit e.lock * 2 ^ 189 + bit e.dirty * 2 ^ 190 + bit e.ref * 2 ^ 191 + bit e.pinned * 2 ^ 235 +
    bit e.homeDir * 2 ^ 237 + (match e.aliasAt with
      | some (s, w, i) => 2 ^ 238 + i * 2 ^ 239 + w * 2 ^ 241 + s * 2 ^ 243
      | none => 0)

/-- Space 2: words 4 and 5 of the entry copy with the H fields of the entry, zero without a flow entry (R225, R231). -/
def Dev.flowSpace (d : Dev) (x : Pkt) : List Byte :=
  match x.copy with
  | none => List.replicate 64 (0 : Byte)
  | some i =>
    let w4 := match x.entryAt.bind (fun a => d.entry a.1 a.2.1 a.2.2) with
      | some e => { e with img := i }.word4
      | none => i.word4
    leBytes 32 w4 ++ leBytes 32 i.word5

/-- Space 4: the packet metadata (R225). -/
def Pkt.metaSpace (x : Pkt) : List Byte :=
  let rev := match x.flow with | some f => f.2.2 | none => false
  let bits := bit rev + 2 * bit x.locked + 4 * bit x.counter + 8 * bit x.creating + 16 * bit x.copy.isNone
  let w0 := x.cls.action.getD 0 0
  padTo 64 (leBytes 6 x.stamp.ts48 ++ x.stamp.bytes ++ leBytes 2 x.gen ++ leBytes 1 x.pass ++ leBytes 1 bits ++
    leBytes 2 x.port ++ leBytes 2 x.rxLen ++ leBytes 3 x.cls.rule ++ leBytes 3 (x.cls.handle.getD 0) ++
    leBytes 1 x.tc ++ leBytes 1 x.colour ++ leBytes 2 (bitsOf w0 20 12))

/-- Space 3: the action entry (R161). -/
def Pkt.actionSpace (x : Pkt) : List Byte := ((List.range 4).map (fun i => leBytes 8 (x.cls.action.getD i 0))).flatten

/-- The bytes of a space as an action engine loads them (R225). -/
def Dev.actSpace (d : Dev) (x : Pkt) (r : Run) (space : Nat) : List Byte :=
  match space with
  | 0 => x.bytes.take 512
  | 1 => x.parse.bytes
  | 2 => d.flowSpace x
  | 3 => x.actionSpace
  | 4 => x.metaSpace
  | 5 => r.scratch
  | _ => []

/-- Conditions of R223. -/
def condHolds (x : Pkt) (r : Run) (code : Nat) : Bool :=
  let tcp := x.tcpFlags
  match code with
  | 0 => true
  | 1 => r.flags.z
  | 2 => !r.flags.z
  | 3 => r.flags.n
  | 4 => !r.flags.n
  | 5 => r.flags.c
  | 6 => !r.flags.c
  | 7 => (match x.flow with | some f => f.2.2 | none => false)
  | 8 => x.copy.isSome
  | 9 => x.locked
  | 10 => x.counter
  | 11 => x.creating
  | 12 => bitOf tcp 1
  | 13 => bitOf tcp 0
  | 14 => bitOf tcp 2
  | 15 => bitOf tcp 4
  | 16 => x.parse.has .fragFirst || x.parse.has .fragLater
  | 17 => x.parse.has .outerOnly
  | 18 => keyV6 x.parse.key
  | 19 => x.parse.has .tunnel
  | 20 => r.lastOk
  | 21 => !r.calls.isEmpty
  | 22 => x.pass != 0
  | 23 => (match x.copy with | some i => i.pickup | none => false)
  | k => bitOf (gReg r.regs 31).toNat (k - 24)

/-! ### Reservations and endings (R229, R230) -/

/-- A reservation released (R229). -/
def Dev.resvRelease (d : Dev) (c : Clock) (v : Resv) : Dev :=
  match v with
  | .snat die addr pclass port sub _ _ =>
    let d := d.markPort die addr pclass port false
    (match d.sub sub with | some s => d.subHold sub s.addr false | none => d)
  | .meter die n tc te _ => d.meterReturn c die n tc te
  | _ => d

/-- The reservations of a routine, and of its calls whose results have not arrived, released. -/
def Dev.resvReleaseAll (d : Dev) (c : Clock) (r : Run) : Dev := r.resv.foldl (fun d v => d.resvRelease c v) d

/-- A provisional entry removed, its waiters looking up again (R198, R256). -/
def Dev.provisionalOut (d : Dev) (c : Clock) (b s w : Nat) : Dev :=
  match d.entry b s w with
  | some e => e.waiters.foldl (fun d x => d.relookup c x) (d.dropEntry b s w)
  | none => d

/-- What a packet holds of the flow table given up, the entry as before its lock (R192, R256). -/
def Dev.flowRelease (d : Dev) (c : Clock) (x : Pkt) : Dev :=
  match x.entryAt with
  | none => d
  | some (b, s, w) =>
    let d := d.modPkt x.id (fun y => { y with locked := false, creating := false })
    if x.creating then d.provisionalOut c b s w else if x.locked then d.unlock c b s w else d

/-- Engines out of service in a cluster instance. -/
def Dev.enginesOut (d : Dev) (inst : Nat) : Nat :=
  if inst % 8 < 6 then d.fld F.ENG_CLUSTER_STATUS_engines_out (6 * (inst / 8) + inst % 8) else d.eng.spareOut.num inst

/-- What a routine's end leaves in the engine counters and in the sampler (R217, R303). -/
def Dev.runEnd (d : Dev) (c : Clock) (inst e : Nat) (x : Pkt) (r : Run) (aborted : Bool) : Dev :=
  let n := max r.words (c.core - r.startAt + 1)
  let d := ((d.engCnt r.pipe 0).engCnt r.pipe 1 (n + 2)).engCnt r.pipe 2 (n - r.words)
  let smp : Sample := ⟨r.pc, false, r.pipe, inst % 8 * 8 + e, r.opcode, x.counter, x.locked, aborted, x.port,
    x.stamp.ts48, n - 1, n - r.words, x.flow.map (fun f => (f.1, f.2.1))⟩
  (d.dropRun inst e).sampleEvent c (r.pipe / 16) 0 smp

/-- A routine ends as ABORT (R230). -/
def Dev.abortRun (d : Dev) (c : Clock) (inst e : Nat) : Dev :=
  match d.run inst e with
  | none => d
  | some r =>
    match d.pkt r.pkt with
    | none => d.dropRun inst e
    | some x =>
      let d := (d.resvReleaseAll c r).runEnd c inst e x { r with words := r.words + 1 } true
      ((d.engCnt r.pipe 3).flowRelease c x).flowDrop c x.id

/-- An ABORT with an event of the pipeline at most once per 1 ms. -/
def Dev.abortWith (d : Dev) (c : Clock) (inst e : Nat) (ev : Ev) : Dev :=
  match d.run inst e with
  | none => d
  | some r => (d.abortRun c inst e).raiseLim c ev 2 r.pipe

/-- A word that would exceed a capacity ends the routine (R228). -/
def Dev.overflow (d : Dev) (c : Clock) (inst e : Nat) : Dev :=
  match d.run inst e with
  | none => d
  | some r => (d.engCnt r.pipe 7).abortWith c inst e .ENG_TXN_OVERFLOW

/-! ### Slots of an action word -/

/-- A memory slot of one operation executed: `f` gives the routine after it. -/
def Dev.memSlot (d : Dev) (c : Clock) (inst e op : Nat) (f : Dev → Pkt → Run → ActWord → Dev) : Dev :=
  match d.current c inst e with
  | some (r, w) =>
    (match d.pkt r.pkt with
    | some x => if w.mem.op == op && !r.slots.memDone then f d x r w else d
    | none => d)
  | none => d

/-- A routine whose memory slot is done. -/
def Run.memDone (r : Run) : Run := { r with slots := { r.slots with memDone := true } }

/-- A routine whose memory slot loads a register. -/
def Run.loads (r : Run) (reg : Nat) (v : Word) : Run :=
  { r with slots := { r.slots with memDone := true, memW := some (reg, v) } }

/-- LD and LDN (R225). -/
def Dev.actLoad (d : Dev) (c : Clock) (inst e : Nat) (network : Bool) : Dev :=
  d.memSlot c inst e (if network then 2 else 1) (fun d x r w =>
    let bs := loadBytes (d.actSpace x r w.mem.space) (w.mem.at r.regs) w.mem.bytes
    d.setRun inst e (r.loads w.mem.reg (BitVec.ofNat 64 (if network then ofBeBytes bs else ofLeBytes bs))))

/-- Whether a store to space 6 is ignored whole under R258: it touches op_a, op_b or state [31:8] of a flow with a
binding. -/
def boundStore (x : Pkt) (off n : Nat) : Bool :=
  match x.copy with
  | some i => (i.snatValid || i.lbValid) && 39 < off + n
  | none => false

/-- ST (R225, R228, R258). -/
def Dev.actStore (d : Dev) (c : Clock) (inst e : Nat) : Dev :=
  d.memSlot c inst e 3 (fun d x r w =>
    let off := w.mem.at r.regs
    let n := w.mem.bytes
    let bs := leBytes n (gReg r.regs w.mem.reg).toNat
    let done := r.memDone
    match w.mem.space with
    | 4 => if 29 ≤ off && off + n ≤ 36 then d.setRun inst e { done with metaW := putBytes r.metaW off bs }
      else (d.engCnt r.pipe 9).setRun inst e done
    | 5 => if off + n ≤ 256 then d.setRun inst e { done with scratch := splice r.scratch off bs }
      else (d.engCnt r.pipe 9).setRun inst e done
    | 6 => if 38 ≤ off && off + n ≤ 52 && !boundStore x off n then
        d.setRun inst e { done with flowW := putBytes r.flowW off bs }
      else (d.engCnt r.pipe 9).setRun inst e done
    | _ => (d.engCnt r.pipe 9).setRun inst e done)

/-- Edits appended to the edit buffer of 24, or the routine ends (R228). -/
def Dev.bufferEdits (d : Dev) (c : Clock) (inst e : Nat) (r : Run) (es : List Edit) : Dev :=
  if 24 < r.edits.length + es.length then d.overflow c inst e else d.setRun inst e { r with edits := r.edits ++ es }

/-- EDIT_RW (R225). -/
def Dev.editRw (d : Dev) (c : Clock) (inst e : Nat) : Dev :=
  d.memSlot c inst e 4 (fun d _ r w =>
    d.bufferEdits c inst e r.memDone [.rw (w.mem.at r.regs) (beBytes w.mem.bytes (gReg r.regs w.mem.reg).toNat)])

/-- EDIT_OP (R225). -/
def Dev.editOp (d : Dev) (c : Clock) (inst e : Nat) : Dev :=
  d.memSlot c inst e 5 (fun d _ r w => d.bufferEdits c inst e r.memDone [.op w.imm])

/-- CNT_ADD (R225, R228, R285). -/
def Dev.cntAdd (d : Dev) (c : Clock) (inst e : Nat) : Dev :=
  d.memSlot c inst e 6 (fun d _ r w =>
    if 8 ≤ r.counters.length then d.overflow c inst e
    else d.setRun inst e { r.memDone with counters := r.counters ++ [(w.imm, gReg r.regs w.mem.reg)] })

/-- The call that a UNIT operation issues (R226). -/
def callOf (regs : Tbl Word) (reg unit fn : Nat) : Call :=
  ⟨reg, unit, fn, (List.range 4).map (fun i => gReg regs (reg + i)), none, true⟩

/-- UNIT (R226). -/
def Dev.actUnit (d : Dev) (c : Clock) (inst e : Nat) : Dev :=
  d.memSlot c inst e 7 (fun d _ r w =>
    let k := callOf r.regs w.mem.reg w.unit w.fn
    d.setRun inst e { r.memDone with slots := { r.memDone.slots with call := some k } })

/-- TS (R225). -/
def Dev.actTs (d : Dev) (c : Clock) (inst e : Nat) : Dev :=
  d.memSlot c inst e 8 (fun d _ r w => d.setRun inst e (r.loads w.mem.reg (BitVec.ofNat 64 c.stamp.ts48)))

/-! ### The sequencer (R222, R253) -/

/-- The sequencer of a word with code `seq`, once both slots have executed. -/
def Dev.seqSlot (d : Dev) (c : Clock) (inst e seq : Nat) (f : Dev → Pkt → Run → ActWord → Dev) : Dev :=
  match d.current c inst e with
  | some (r, w) =>
    (match d.pkt r.pkt with
    | some x => if w.seq == seq && r.slots.complete w.alu w.mem then f d x r w else d
    | none => d)
  | none => d

/-- A word issued under trigger 1 of the sampler (R303). -/
def Dev.wordSample (d : Dev) (c : Clock) (inst e : Nat) (x : Pkt) (r : Run) : Dev :=
  let n := max r.words (c.core - r.startAt)
  d.sampleEvent c (r.pipe / 16) 1 ⟨r.pc, false, r.pipe, inst % 8 * 8 + e, r.opcode, x.counter, x.locked, false, x.port,
    x.stamp.ts48, n, n - r.words, x.flow.map (fun f => (f.1, f.2.1))⟩

/-- The next word of a routine: a customer routine that leaves its region by a jump or branch ends there (R253). -/
def Dev.goTo (d : Dev) (c : Clock) (inst e : Nat) (x : Pkt) (r : Run) (next : Nat) (jumped : Bool) : Dev :=
  let d := d.wordSample c inst e x r
  if jumped && r.customer && next < 0x1800 then d.abortWith c inst e .ENG_REGION
  else d.setRun inst e (r.advance next)

/-- NEXT. -/
def Dev.seqNext (d : Dev) (c : Clock) (inst e : Nat) : Dev :=
  d.seqSlot c inst e 0 (fun d x r _ => d.goTo c inst e x r (r.pc + 1) false)

/-- JUMP. -/
def Dev.seqJump (d : Dev) (c : Clock) (inst e : Nat) : Dev :=
  d.seqSlot c inst e 1 (fun d x r w => d.goTo c inst e x r w.target true)

/-- BR_T and BR_F, on the flags before the word's own ALU operation. -/
def Dev.seqBranch (d : Dev) (c : Clock) (inst e : Nat) (sense : Bool) : Dev :=
  d.seqSlot c inst e (if sense then 2 else 3) (fun d x r w =>
    let taken := condHolds x r w.cond == sense
    d.goTo c inst e x r (if taken then w.target else r.pc + 1) taken)

/-- ABORT. -/
def Dev.seqAbort (d : Dev) (c : Clock) (inst e : Nat) : Dev := d.seqSlot c inst e 5 (fun d _ _ _ => d.abortRun c inst e)

/-- Codes 6 and 7, executed as ABORT. -/
def Dev.seqIllegal (d : Dev) (c : Clock) (inst e : Nat) : Dev :=
  (d.seqSlot c inst e 6 (fun d _ _ _ => d.abortWith c inst e .ENG_ILLEGAL)).seqSlot c inst e 7
    (fun d _ _ _ => d.abortWith c inst e .ENG_ILLEGAL)

/-- Memory operations 9–15, executed as sequencer code 6. -/
def Dev.memIllegal (d : Dev) (c : Clock) (inst e : Nat) : Dev :=
  match d.current c inst e with
  | some (_, w) => if 9 ≤ w.mem.op then d.abortWith c inst e .ENG_ILLEGAL else d
  | none => d

/-- A routine that has reached its cycle limit (R232). -/
def Dev.watchdog (d : Dev) (c : Clock) (inst e : Nat) : Dev :=
  match d.run inst e with
  | some r =>
    if r.limit ≤ r.cycles c then (d.engCnt r.pipe 4).abortWith c inst e .ENG_WATCHDOG else d
  | none => d

/-! ### Dispatch (R218–R220) -/

/-- Whether the dispatch entry of an instance is valid for an opcode. -/
def Dev.hasRoutine (d : Dev) (inst opcode : Nat) : Bool := bitOf (d.dispatchEntry inst opcode) 13

/-- The free engine of an instance with the lowest number. -/
def Dev.freeEngine (d : Dev) (inst : Nat) : Option Nat :=
  (List.range 8).find? (fun e => !bitOf (d.enginesOut inst) e && (d.run inst e).isNone)

/-- The edits a routine starts with: the rule's edits of R163. -/
def Pkt.ruleEdits (x : Pkt) : List Edit :=
  ((List.range 4).map (fun i => bitsOf (x.cls.action.getD (1 + i / 2) 0) (32 * (i % 2)) 32)).filterMap (fun w =>
    if 1 ≤ bitsOf w 0 3 && bitsOf w 0 3 ≤ 3 then some (.op w) else none)

/-- A routine at its first microword (R219, R221). -/
def Dev.runOf (d : Dev) (c : Clock) (p inst : Nat) (x : Pkt) (opcode : Nat) : Run :=
  let e := d.dispatchEntry inst opcode
  let own := bitsOf e 16 12
  let dflt := d.fld F.ENG_CTRL_max_cycles p
  { pkt := x.id, pipe := p, opcode, customer := bitOf e 15,
    limit := if own != 0 then own else if dflt == 0 then 4095 else dflt,
    pc := bitsOf e 0 13, regs := ⟨[]⟩, flags := Flags.zero, scratch := List.replicate 256 0, slots := Slots.none,
    edits := x.ruleEdits, counters := [], flowW := ⟨[]⟩, metaW := ⟨[]⟩, resv := [], calls := [], lastOk := false, xdrop := false, exhausted := none,
    startAt := c.core, words := 0 }

/-- Clusters of a pipeline in rotation order, from the one after the last served. -/
def Dev.rotation (d : Dev) (p : Nat) : List Nat := (List.range 6).map (fun i => (d.eng.rotate.num p + i) % 6)

/-- The dispatcher serves the packet at the head of its queue (R218). -/
def Dev.dispatch (d : Dev) (c : Clock) (p : Nat) : Dev :=
  if d.flag F.ENG_HOLD_ack p then d
  else match (d.pipe p).dispatchQ with
  | [] => d
  | id :: rest =>
    match d.pkt id with
    | none => d.setPipe p { d.pipe p with dispatchQ := rest }
    | some x =>
      let opcode := bitsOf (x.cls.action.getD 0 0) 0 8
      let able := (d.rotation p).filterMap (fun k => match d.clusterStore p k with
        | some inst => if d.hasRoutine inst opcode then some (k, inst) else none
        | none => none)
      let d := d.setPipe p { d.pipe p with dispatchQ := rest }
      if able.isEmpty then
        (((d.engCnt p 8).raiseLim c .ENG_NO_ROUTINE 2 p).flowRelease c x).flowDrop c id
      else
        let others := able.filter (fun k => some k.2 != x.avoid)
        let go := if others.isEmpty then able else others
        match go.findSome? (fun k => (d.freeEngine k.2).map (fun e => (k.1, k.2, e))) with
        | none => d.setPipe p { d.pipe p with dispatchQ := id :: rest }
        | some (k, inst, e) =>
          let d := { d with eng := { d.eng with rotate := d.eng.rotate.setNum ⟨p, 0, 0⟩ ((k + 1) % 6) } }
          let d := (d.perf (p / 16) 0x040 (some (p % 16)) (some opcode)).setRun inst e (d.runOf c p inst x opcode)
          d.modPkt id (fun y => { y with loc := .running k e })

end Sys2Proof.Machine
end

