-- ==== Sys2Proof/Machine/Units.lean ====
section
/-! DEFINITION. The units of R226: hash, NAT, load balancer, meter, fragment bindings, telemetry, exact lookup, next
hop (R134–R138, R257–R269, R271, R274–R276, R283, R286, R344). -/
namespace Sys2Proof.Machine

/-! ### Calls -/

/-- Die of an issuer. -/
def Proc.die : Proc → Nat
  | .engine inst _ => inst / 128
  | .sweeper die _ => die

/-- A call that failed with a status code (R138, R275). -/
def CallRes.failed (status : Nat) : CallRes := ⟨(0, 0), (status, 8), false⟩

/-- A call that succeeded with the low `n` bits of g[n] named. -/
def CallRes.one (v n : Nat) : CallRes := ⟨(v, n), (0, 0), true⟩

/-- A call that succeeded with a 128-bit result in two words. -/
def CallRes.wide (v : Nat) : CallRes := ⟨(v % 2 ^ 64, 64), (v / 2 ^ 64, 64), true⟩

/-- A Sweeper. -/
def Dev.sweep (d : Dev) (die n : Nat) : Sweep := d.swp.sweeps.get (fun _ => Sweep.init) ⟨die, n, 0⟩

/-- A Sweeper's state set. -/
def Dev.setSweep (d : Dev) (die n : Nat) (s : Sweep) : Dev :=
  { d with swp := { d.swp with sweeps := d.swp.sweeps.set (fun _ => Sweep.init) ⟨die, n, 0⟩ s } }

/-- The first outstanding call of a function without a result, with its place. -/
def callIdx (calls : List Call) (unit fn : Nat) : Option (Call × Nat) :=
  (calls.zipIdx).find? (fun x => x.1.unit == unit && x.1.fn == fn && x.1.res.isNone)

/-- A call's result set. -/
def setRes (calls : List Call) (i : Nat) (res : CallRes) : List Call :=
  (calls.zipIdx).map (fun x => if x.2 == i then { x.1 with res := some res } else x.1)

/-- A unit serves a call of an engine: `f` gives the device, the routine and the result. More than 4 reservations or
24 edits end the routine (R228). A Sweeper's call of such a function fails with NOT_FOUND (log entry 51). -/
def Dev.unitRun (d : Dev) (c : Clock) (p : Proc) (unit fn : Nat) (f : Dev → Pkt → Run → Call → Dev × Run × CallRes) :
    Dev :=
  match p with
  | .engine inst e =>
    (match d.run inst e with
    | none => d
    | some r =>
      match callIdx r.calls unit fn, d.pkt r.pkt with
      | some (k, i), some x =>
        let (d, r, res) := f d x r k
        let d := d.setRun inst e { r with calls := setRes r.calls i res }
        if 4 < r.resv.length || 24 < r.edits.length then d.overflow c inst e else d
      | _, _ => d)
  | .sweeper die n =>
    let s := d.sweep die n
    (match callIdx s.calls unit fn with
    | some (_, i) => d.setSweep die n { s with calls := setRes s.calls i (.failed 1) }
    | none => d)

/-- A unit serves a call that changes nothing: `f` of the device, the generation and the call. -/
def Dev.unitRead (d : Dev) (p : Proc) (unit fn : Nat) (f : Dev → Nat → Call → CallRes) : Dev :=
  match p with
  | .engine inst e =>
    (match d.run inst e with
    | none => d
    | some r =>
      match callIdx r.calls unit fn, d.pkt r.pkt with
      | some (k, i), some x => d.setRun inst e { r with calls := setRes r.calls i (f d x.gen k) }
      | _, _ => d)
  | .sweeper die n =>
    let s := d.sweep die n
    (match callIdx s.calls unit fn with
    | some (k, i) => d.setSweep die n { s with calls := setRes s.calls i (f d d.liveGen.1 k) }
    | none => d)

/-- Operand `i` of a call. -/
def Call.op (k : Call) (i : Nat) : Nat := (k.ops.getD i 0).toNat

/-- The functions the units have (R138, R226, R275, R286, R344). -/
def knownFn (unit fn : Nat) : Bool :=
  match unit with
  | 0 => 1 ≤ fn && fn ≤ 3
  | 1 => 1 ≤ fn && fn ≤ 3
  | 2 => fn == 1 || fn == 2
  | 3 => fn == 1
  | 4 => 1 ≤ fn && fn ≤ 3
  | 5 => fn == 1 || fn == 2
  | 6 => fn == 1
  | 7 => fn == 1 || fn == 2
  | _ => true

/-- A result word: its named low bits, the others free (log entry 44). -/
def Dev.resultWord (d : Dev) (v : Nat × Nat) : Word × Dev :=
  if 64 ≤ v.2 then (BitVec.ofNat 64 v.1, d)
  else
    let (w, d) := d.draw Config.unitRest
    (BitVec.ofNat 64 (v.1 % 2 ^ v.2 + w.toNat / 2 ^ v.2 * 2 ^ v.2), d)

/-- The result of call `i` of a list arrives in g[n] and g[n+1] (R226); a call of a function its unit does not have
answers status 1. None while the unit still works. -/
def Dev.deliver (d : Dev) (calls : List Call) (regs : Tbl Word) (lastOk : Bool) (i : Nat) :
    Option (Dev × List Call × Tbl Word × Bool) :=
  match calls[i]? with
  | none => none
  | some k =>
    match (match k.res with
      | some v => some v
      | none => if knownFn k.unit k.fn then none else some (.failed 1)) with
    | none => none
    | some v =>
      let (w0, d) := d.resultWord v.r0
      let (w1, d) := d.resultWord v.r1
      some (d, calls.eraseIdx i, gSet (gSet regs k.reg w0) (k.reg + 1) w1, if k.latest then v.ok else lastOk)

/-- A unit result and its status arrive in the registers of the engine or Sweeper that called. -/
def Dev.unitResult (d : Dev) (p : Proc) (i : Nat) : Dev :=
  match p with
  | .engine inst e =>
    (match d.run inst e with
    | none => d
    | some r =>
      match d.deliver r.calls r.regs r.lastOk i with
      | some (d, calls, regs, ok) => d.setRun inst e { r with calls, regs, lastOk := ok }
      | none => d)
  | .sweeper die n =>
    let s := d.sweep die n
    (match d.deliver s.calls s.ctx.regs s.lastOk i with
    | some (d, calls, regs, ok) => d.setSweep die n { s with calls, ctx := { s.ctx with regs }, lastOk := ok }
    | none => d)

/-- A call of a reserved unit 8–15 answers a status that is not OK, its words free. -/
def Dev.unitReserved (d : Dev) (p : Proc) : Dev :=
  let answer := fun (calls : List Call) =>
    calls.map (fun k => if 8 ≤ k.unit && k.res.isNone then { k with res := some ⟨(0, 0), (0, 0), false⟩ } else k)
  match p with
  | .engine inst e =>
    (match d.run inst e with
    | some r => d.setRun inst e { r with calls := answer r.calls }
    | none => d)
  | .sweeper die n =>
    let s := d.sweep die n
    d.setSweep die n { s with calls := answer s.calls }

/-! ### Unit 0, hash -/

/-- HASH64: SipHash of 32 bytes under LBL_HASH_KEY. -/
def Dev.unitHash (d : Dev) (p : Proc) : Dev :=
  d.unitRead p 0 1 (fun d _ k => .one (d.hash64 (((List.range 4).map (fun i => leBytes 8 (k.op i))).flatten)).toNat 64)

/-- PI and PI_INV: π or its inverse of a port (R178). -/
def Dev.unitPi (d : Dev) (p : Proc) (inverse : Bool) : Dev :=
  d.unitRead p 0 (if inverse then 3 else 2) (fun d _ k =>
    let f := if inverse then Config.portPermInv else Config.portPerm
    .one (f d.bankKey.1 d.bankKey.2 (k.op 0 % 65536)).val 16)

/-! ### Unit 1, NAT -/

/-- SipHash under NAT_HASH_KEY. -/
def Dev.natHash (d : Dev) (m : List Byte) : Nat := (sipHash (d.reg .NAT_HASH_KEY 0) (d.reg .NAT_HASH_KEY 1) m).toNat

/-- A translated address (R260): the 128-bit number of NAT_ADDR_TBL, most significant byte first. -/
def Dev.natAddr (d : Dev) (i : Nat) : List Byte := beBytes 16 (d.tw .NAT_ADDR_TBL 0 i 0 + d.tw .NAT_ADDR_TBL 0 i 1 * 2 ^ 64)

/-- Whether a 16-byte address is IPv4-mapped. -/
def v4Mapped (a : List Byte) : Bool := a.take 12 == List.replicate 10 (0 : Byte) ++ [0xFF, 0xFF]

/-- Type byte of a packet's L4 header. -/
def Pkt.l4Type (x : Pkt) : Nat := match x.parse.l4Off with | some o => byteAt x.bytes o | none => 0

/-- Whether a packet is an ICMP or ICMPv6 echo request or reply. -/
def Pkt.echo (x : Pkt) : Bool :=
  (keyProto x.parse.key == 1 && (x.l4Type == 8 || x.l4Type == 0)) ||
  (keyProto x.parse.key == 58 && (x.l4Type == 128 || x.l4Type == 129))

/-- Protocol class of a packet (R257): 0 TCP, 1 UDP, 2 ICMP echo. -/
def Pkt.pclass (x : Pkt) : Option Nat :=
  if keyProto x.parse.key == 6 then some 0 else if keyProto x.parse.key == 17 then some 1
  else if x.echo then some 2 else none

/-- Address and port of a backend; port 0 keeps `port`. -/
def Dev.backendEnd (d : Dev) (b port : Nat) : List Byte × Nat :=
  let q := d.backend b 2 0 16
  (beBytes 16 (d.tw .LBL_BACKEND_TBL 0 b 0 + d.tw .LBL_BACKEND_TBL 0 b 1 * 2 ^ 64), if q == 0 then port else q)

/-- The backend a routine has reserved. -/
def Run.picked (r : Run) : Option (Nat × Nat) := r.resv.findSome? (fun v => match v with | .pick s b => some (s, b) | _ => none)

/-- Service of a backend, and whether the service encapsulates (R274). -/
def Dev.svcOf (d : Dev) (b : Nat) : Nat := d.backend b 2 48 14
/-- Whether a service runs in encapsulation mode. -/
def Dev.svcEncap (d : Dev) (s : Nat) : Bool := d.svc s 2 24 1 == 1

/-- The reverse key of a translated forward key (R259, R133). -/
def revKeyOf (fwd remote : List Byte) (remotePort : Nat) (addr : List Byte) (port zone : Nat) (echo : Bool) : List Byte :=
  mkKey remote addr (if echo then port else remotePort) (if echo then 0 else port) (keyProto fwd)
    (byteAt fwd 37) zone ((fwd.drop 40).take 4)

/-- The required class t of a candidate address (R262). -/
def Dev.natClass (d : Dev) (fwd remote : List Byte) (remotePort : Nat) (addr : List Byte) (zone : Nat) (echo : Bool) : Nat :=
  let basis := d.basis zone
  let key := revKeyOf fwd remote remotePort addr 0 zone echo
  let rp := if echo then 0 else remotePort
  let term := if basis == 0 then d.portTerm rp else 0
  d.bankOf fwd ^^^ d.a8 (addrPart key basis) ^^^ term

/-- The first free candidate port of an address in the scan order of R263. -/
def Dev.natPort (d : Dev) (die pool addr pclass t start : Nat) : Option Nat :=
  (List.range 256).findSome? (fun i =>
    let h := (start + i) % 256
    let p := (Config.portPermInv d.bankKey.1 d.bankKey.2 (h * 256 + t)).val
    let inRange := pclass == 2 || (d.fld F.NAT_POOL_CFG_port_lo pool ≤ p && p ≤ d.fld F.NAT_POOL_CFG_port_hi pool)
    if h / 128 == die && d.natHalfOk (h % 2) && inRange && !d.portUsed die addr pclass p then some p else none)

/-- Up to four addresses of a pool tried in turn (R263): address index and port, and the fallbacks counted. -/
def Dev.natScan (d : Dev) (die pool : Nat) (f : Nat → Option Nat) (first : Nat) : Nat → Nat → Dev × Option (Nat × Nat)
  | 0, _ => (d, none)
  | n + 1, j =>
    let count := d.fld F.NAT_POOL_CFG_count pool
    if 4 ≤ j || count ≤ j then (d, none)
    else
      let a := (d.fld F.NAT_POOL_CFG_first pool + (first + j) % count) % 1024
      let d := if j == 0 then d else d.natCnt die 3
      match f a with
      | some p => (d, some (a, p))
      | none => d.natScan die pool f first n (j + 1)

/-- EXHAUSTED, counted and evented once per second and pool (R263). -/
def Dev.natExhausted (d : Dev) (c : Clock) (die pool : Nat) : Dev :=
  (d.natCnt die 2).raiseLim c .NAT_EXHAUSTED 10 pool [(8, pool)] 1000

/-- SNAT (R260–R266): a translated address and port reserved. -/
def Dev.unitSnat (d : Dev) (c : Clock) (p : Proc) : Dev :=
  if d.flag F.NAT_HOLD_ack p.die then d
  else d.unitRun c p 1 1 (fun d x r k =>
    let pool := k.op 0 % 256
    let fwd := x.parse.key
    let die := d.bankOf fwd / 128
    let count := d.fld F.NAT_POOL_CFG_count pool
    let zone := d.fld F.NAT_POOL_CFG2_rev_zone pool
    let (remote, rport) := match r.picked with
      | some (_, b) => d.backendEnd b (keyDport fwd)
      | none => (keyDst fwd, keyDport fwd)
    if r.resv.any (fun v => match v with | .snat _ _ _ _ _ _ _ => true | _ => false) then (d, r, .failed 8)
    else if d.flag F.NAT_CTRL_alloc_host then (d.natCnt die 15, r, .failed 7)
    else match x.pclass with
      | none => (d, r, .failed 5)
      | some pc =>
        if count == 0 || d.basis zone == 1 then (d.natExhausted c die pool, { r with exhausted := some pool }, .failed 2)
        else if v4Mapped (d.natAddr (d.fld F.NAT_POOL_CFG_first pool)) == keyV6 fwd then (d, r, .failed 4)
        else
          let first := d.natHash (keySrc fwd) % count
          let start := d.natHash fwd % 256
          let at_ := fun (a : Nat) => d.natPort die pool a pc (d.natClass fwd remote rport (d.natAddr a) zone (pc == 2)) start
          match d.natScan die pool at_ first 4 0 with
          | (d, none) => (d.natExhausted c die pool, { r with exhausted := some pool }, .failed 2)
          | (d, some (a, port)) =>
            match d.intern c die (keySrc fwd) with
            | (d, none) => (d, r, .failed 6)
            | (d, some sub) =>
              let d := (d.markPort die a pc port true).subHold sub (keySrc fwd) true
              let r := { r with resv := r.resv ++ [.snat die a pc port sub (keySport fwd) pool] }
              (d, r, .one (port + a * 65536) 26))

/-- The routine's view of its flow's bindings: the entry copy, and over it the reservations of this routine. -/
def Run.view (r : Run) (x : Pkt) : Img :=
  r.resv.foldl (fun i v => match v with
    | .snat _ a pc port sub orig _ =>
      { i with opA := port + a * 2 ^ 16 + pc * 2 ^ 26 + 2 ^ 39, opB := orig + sub * 2 ^ 16 }
    | .pick _ b => { i with state := i.state % 16 + 2 ^ 8 + b * 2 ^ 12 }
    | _ => i) (x.copy.getD Img.empty)

/-- An incremental checksum update (RFC 1624) over changed 16-bit words: old and new bytes of even length. -/
def csumUpdate (old : Nat) (before after : List Byte) : Nat :=
  let inv := before.map (fun b => 255 - b)
  65535 - onesSum (beBytes 2 (65535 - old) ++ inv ++ after)

/-- New endpoints of a packet under R276: source address and port, destination address and port. -/
abbrev Ends := Option (List Byte) × Option Nat × Option (List Byte) × Option Nat

/-- What XLATE rewrites for bindings `i` in a direction, with backend `b` (R276). -/
def Dev.xlateEnds (d : Dev) (i : Img) (rev : Bool) (b : Option Nat) : Ends :=
  let svc := b.map d.svcOf
  let unless0 := fun (n : Nat) => if n == 0 then none else some n
  let lb := b.isSome && !(svc.map d.svcEncap).getD false
  let b' := b.getD 0
  let s' := svc.getD 0
  if !rev then
    (if i.snatValid then some (d.natAddr i.addrIdx) else none, if i.snatValid then some i.xport else none,
     if lb then some (d.backendEnd b' 0).1 else none, if lb then unless0 (d.backend b' 2 0 16) else none)
  else
    let vip := beBytes 16 (d.tw .LBL_SVC_TBL 0 s' 0 + d.tw .LBL_SVC_TBL 0 s' 1 * 2 ^ 64)
    (if lb then some vip else none, if lb then unless0 (d.svc s' 2 0 16) else none,
     if i.snatValid then (d.sub i.subIdx).map Sub.addr else none, if i.snatValid then some i.origPort else none)

/-- Place of a transport checksum of a packet, when it has one to update (R276). -/
def Pkt.csumAt (x : Pkt) (o : Nat) : Option Nat :=
  match keyProto x.parse.key with
  | 6 => some (o + 16)
  | 17 => if !keyV6 x.parse.key && win16 x.bytes (o + 6) == 0 then none else some (o + 6)
  | 58 => some (o + 2)
  | 1 => some (o + 2)
  | _ => none

/-- The rewrites of R276: each changed field and the transport checksum. `l4` false rewrites addresses only. -/
def Pkt.xlateEdits (x : Pkt) (n : Ends) (l4 : Bool) : List Edit :=
  match x.parse.ipOff with
  | none => []
  | some (off, v6) =>
    let (sa, sp, da, dp) := n
    let len := if v6 then 16 else 4
    let addr := fun (a : List Byte) => a.drop (16 - len)
    let field := fun (o : Nat) (new : Option (List Byte)) => match new with
      | some b => [(o, (x.bytes.drop o).take b.length, b)]
      | none => []
    let adr := field (if v6 then off + 8 else off + 12) (sa.map addr) ++ field (if v6 then off + 24 else off + 16) (da.map addr)
    match x.parse.l4Off with
    | none => adr.map (fun f => .rw f.1 f.2.2)
    | some o =>
      if !l4 then adr.map (fun f => .rw f.1 f.2.2)
      else
        let ports := if x.echo then field (o + 4) ((sp.orElse (fun _ => dp)).map (beBytes 2))
          else field o (sp.map (beBytes 2)) ++ field (o + 2) (dp.map (beBytes 2))
        let words := if keyProto x.parse.key == 1 then ports else adr ++ ports
        let fix := match x.csumAt o with
          | some at_ => [Edit.rw at_ (beBytes 2 (csumUpdate (win16 x.bytes at_) (words.map (fun f => f.2.1)).flatten
              (words.map (fun f => f.2.2)).flatten))]
          | none => []
        let all := (adr ++ ports).map (fun f => Edit.rw f.1 f.2.2)
        if all.isEmpty then [] else all ++ fix

/-! ### Unit 2, load balancing -/

/-- The slot hash of a service and key (R269). -/
def Dev.slotHash (d : Dev) (s : Nat) (k : List Byte) : Nat :=
  (d.hash64 (if d.svc s 2 25 1 == 1 then keySrc k else k.take 37)).toNat

/-- Slot count M of a service: values of log2_m outside 8–16 act as 8. -/
def Dev.svcSlots (d : Dev) (s : Nat) : Nat :=
  let n := d.svc s 2 26 4
  2 ^ (if 8 ≤ n && n ≤ 16 then n else 8)

/-- A slot of a service's bank: the backend when valid. -/
def Dev.slotAt (d : Dev) (s bank j : Nat) : Option Nat :=
  let m := d.svcSlots s
  let e := d.tw .LBL_SLOT_TBL 0 (d.svc s 2 32 22 + bank * m + j % m) 0
  if bitOf e 31 then some (e % 2 ^ 20) else none

/-- Whether a backend is eligible (R269). -/
def Dev.eligibleBackend (d : Dev) (b : Nat) : Bool :=
  d.backend b 2 47 1 == 1 && d.backend b 2 44 2 == 0 && d.backend b 2 46 1 == 1 &&
    (d.backend b 3 0 32 == 0 || d.conns b < d.backend b 3 0 32)

/-- The backend that PICK takes for a key: the backend and how many slots past the first it lies. -/
def Dev.pickFor (d : Dev) (s : Nat) (k : List Byte) : Option (Nat × Nat) :=
  let m := d.svcSlots s
  let slot := d.slotHash s k * m / 2 ^ 64
  (List.range 8).findSome? (fun j => match d.slotAt s (d.svc s 2 30 1) (slot + j) with
    | some b => if d.eligibleBackend b then some (b, j) else none
    | none => none)

/-- PICK (R269). -/
def Dev.unitPick (d : Dev) (c : Clock) (p : Proc) : Dev :=
  if d.flag F.LBL_HOLD_ack p.die then d
  else d.unitRun c p 2 1 (fun d x r k =>
    let s := k.op 0 % 2 ^ 14
    let die := r.pipe / 16
    if r.picked.isSome then (d, r, .failed 8)
    else if d.svc s 2 31 1 == 0 then (d, r, .failed 1)
    else match d.pickFor s x.parse.key with
      | none => ((d.lblCnt die 2).raiseLim c .LBL_NONE_ELIGIBLE 10 s [(14, s)] 1000, r, .failed 3)
      | some (b, j) =>
        let d := d.lblCnt die 0
        let d := if j == 0 then d else d.lblCnt die 1
        (d, { r with resv := r.resv ++ [.pick s b] }, .one b 20))

/-- BACKEND_READ: a backend's address halves; NOT_FOUND for an entry that is not valid. -/
def Dev.unitBackend (d : Dev) (p : Proc) : Dev :=
  d.unitRead p 2 2 (fun d _ k =>
    let b := k.op 0 % 2 ^ 20
    if d.backend b 2 47 1 == 0 then .failed 1
    else .wide (d.tw .LBL_BACKEND_TBL 0 b 0 + d.tw .LBL_BACKEND_TBL 0 b 1 * 2 ^ 64))

/-- SUB_READ: a subscriber address. -/
def Dev.unitSub (d : Dev) (p : Proc) : Dev :=
  d.unitRead p 1 3 (fun d _ k => match d.sub (k.op 0 % 2 ^ 18) with
    | some s => .wide (ofBeBytes s.addr)
    | none => .failed 1)

/-- What a flow's backend is for this packet (R271): kept, picked again, or the packet dropped. -/
inductive BackendNow where
  | keep (b : Option Nat)
  | again
  | drop

/-- The state of a bound backend under its service's down_act. -/
def Dev.backendNow (d : Dev) (i : Img) : BackendNow :=
  if !i.lbValid then .keep none
  else
    let b := i.backend
    let s := d.svcOf b
    let down := d.backend b 2 46 1 == 0 || 2 ≤ d.backend b 2 44 2
    let act := d.svc s 2 54 2
    if !down || act == 0 then .keep (some b)
    else if act == 2 || d.svc s 3 24 1 == 1 then .drop
    else .again

/-- XLATE of unit 1 (R271, R274, R276). -/
def Dev.unitXlate (d : Dev) (c : Clock) (p : Proc) : Dev :=
  d.unitRun c p 1 2 (fun d x r _ =>
    let i := r.view x
    let rev := match x.flow with | some f => f.2.2 | none => false
    let later := x.parse.has .fragLater
    let done : CallRes := ⟨(0, 0), (0, 0), true⟩
    let go := fun (d : Dev) (b : Option Nat) =>
      let es := x.xlateEdits (d.xlateEnds i rev b) (!later)
      let encap := match b with
        | some b =>
          if !d.svcEncap (d.svcOf b) || rev then []
          else (match d.template (d.backend b 2 32 12) x.gen with
            | some (data, flags) =>
              [Edit.push x.parse.flowHeader (Config.encapTemplate flags (d.backendEnd b 0).1 data) flags]
            | none => [])
        | none => []
      (d, { r with edits := r.edits ++ es ++ encap }, done)
    match d.backendNow i with
    | .keep b => go d b
    | .drop => (d, { r with xdrop := true }, done)
    | .again =>
      let fwd := match x.flow with
        | some (die, n, _) => ((d.frec die n).map FlowRec.fwd).getD x.parse.key
        | none => x.parse.key
      match d.pickFor (d.svcOf i.backend) fwd with
      | some (b, _) => go (d.lblCnt (r.pipe / 16) 3) (some b)
      | none => (d.lblCnt (r.pipe / 16) 2, { r with xdrop := true }, done))

/-! ### Unit 3, meter -/

/-- METER (R344–R346): tokens are taken at the call and held. -/
def Dev.unitMeter (d : Dev) (c : Clock) (p : Proc) : Dev :=
  d.unitRun c p 3 1 (fun d x r k =>
    if r.resv.any (fun v => match v with | .meter _ _ _ _ _ => true | _ => false) then (d, r, .failed 8)
    else
      let die := r.pipe / 16
      let n := k.op 0 % 65536
      let (d, col, tc, te) := d.meter c die n (min (k.op 1 % 4) 2) x.rxLen
      (d, { r with resv := r.resv ++ [.meter die n tc te col] }, .one col 2))

/-! ### Unit 4, fragment bindings -/

/-- Key of a packet's binding (R138). -/
def Pkt.fragKey (x : Pkt) : List Byte := x.parse.key.take 32 ++ (x.parse.key.drop 36).take 1 ++ leBytes 4 x.parse.fragId

/-- Whether a binding is live (R136): 64 µs from its creation stamp. -/
def Binding.live (b : Binding) (c : Clock) : Bool := tsDiff c.stamp.ts48 b.ts48 < 64000 * 65536

/-- The live binding of a key on a die. -/
def Dev.binding (d : Dev) (c : Clock) (die : Nat) (key : List Byte) : Option Binding :=
  d.nat.binds.find? (fun b => b.die == die && b.key == key && b.live c)

/-- A binding's record, die and direction in the layout BIND takes. -/
def Binding.word (b : Binding) : Nat := b.record + b.recDie * 2 ^ 28 + bit b.dir * 2 ^ 29

/-- BIND. -/
def Dev.unitBind (d : Dev) (c : Clock) (p : Proc) : Dev :=
  d.unitRun c p 4 1 (fun d x r k =>
    let die := r.pipe / 16
    if d.flag F.NAT_CTRL_frag_host then (d.natCnt die 13, r, .failed 1)
    else if r.resv.any (fun v => match v with | .bind _ _ _ => true | _ => false) then (d, r, .failed 8)
    else if (d.binding c die x.fragKey).isSome then (d.natCnt die 12, r, .failed 9)
    else if 65536 ≤ d.nat.binds.countP (fun b => b.die == die && b.live c) then (d.natCnt die 12, r, .failed 2)
    else
      let w := k.op 0
      (d, { r with resv := r.resv ++ [.bind (bitsOf w 28 1) (bitsOf w 0 28) (bitOf w 29)] }, ⟨(0, 0), (0, 0), true⟩))

/-- XLATE of unit 4: the address rewrites of the bound record. -/
def Dev.unitFragXlate (d : Dev) (c : Clock) (p : Proc) : Dev :=
  d.unitRun c p 4 2 (fun d x r _ =>
    let die := r.pipe / 16
    if d.flag F.NAT_CTRL_frag_host then (d.natCnt die 13, r, .failed 1)
    else match d.binding c die x.fragKey with
      | none => (d.natCnt die 11, r, .failed 1)
      | some b =>
        let i := (d.imgNow b.recDie b.record).getD Img.empty
        let bk := if i.lbValid then some i.backend else none
        let es := x.xlateEdits (d.xlateEnds i b.dir bk) false
        (d.natCnt die 10, { r with edits := r.edits ++ es }, .one b.word 30))

/-- READ of unit 4: a live binding and its creation TS48. -/
def Dev.unitFragRead (d : Dev) (c : Clock) (p : Proc) : Dev :=
  d.unitRun c p 4 3 (fun d x r _ =>
    let die := r.pipe / 16
    if d.flag F.NAT_CTRL_frag_host then (d.natCnt die 13, r, .failed 1)
    else match d.binding c die x.fragKey with
      | none => (d, r, .failed 1)
      | some b => (d, r, ⟨(b.word, 30), (b.ts48, 48), true⟩))

/-- Bindings of a die past their 64 µs removed (R136). -/
def Dev.bindExpire (d : Dev) (c : Clock) (die : Nat) : Dev :=
  { d with nat := { d.nat with binds := d.nat.binds.filter (fun b => b.die != die || b.live c) } }

/-! ### Units 5, 6 and 7 -/

/-- HIST (R286). -/
def Dev.unitHist (d : Dev) (c : Clock) (p : Proc) : Dev :=
  d.unitRun c p 5 1 (fun d _ r k =>
    if r.resv.any (fun v => match v with | .hist _ => true | _ => false) then (d, r, .failed 8)
    else (d, { r with resv := r.resv ++ [.hist (k.op 0 % 32768)] }, ⟨(0, 0), (0, 0), true⟩))

/-- IOAM (R286). -/
def Dev.unitIoam (d : Dev) (c : Clock) (p : Proc) : Dev :=
  d.unitRun c p 5 2 (fun d _ r k =>
    if r.resv.any (fun v => match v with | .ioam _ => true | _ => false) then (d, r, .failed 8)
    else (d, { r with resv := r.resv ++ [.ioam (k.op 0 % 32)] }, ⟨(0, 0), (0, 0), true⟩))

/-- LOOKUP of unit 6: the exact-match result of a table and key (R146). -/
def Dev.unitLookup (d : Dev) (p : Proc) : Dev :=
  d.unitRead p 6 1 (fun d g k =>
    let t := k.op 0 % 16
    let key := k.op 1 + k.op 2 * 2 ^ 64 + k.op 3 * 2 ^ 128
    match d.ventry .CLS_EXM_TBL [t, key % 2 ^ d.exmWidth t] g with
    | some e => .one (e.data.getD 0 0 % 2 ^ 32) 32
    | none => .failed 1)

/-- READ of unit 7: a next-hop entry. -/
def Dev.unitNhRead (d : Dev) (p : Proc) : Dev :=
  d.unitRead p 7 1 (fun d g k => match d.nhEntry (k.op 0 % 2 ^ 20) g with
    | some v => .wide v
    | none => .failed 1)

/-- RESOLVE of unit 7: the unicast handle after group selection. -/
def Dev.unitResolve (d : Dev) (c : Clock) (p : Proc) : Dev :=
  d.unitRun c p 7 2 (fun d x r k => match d.nhResolve (k.op 0 % 2 ^ 20) x.gen x.hash with
    | some h => (d, r, .one h 20)
    | none => (d, r, .failed 1))

end Sys2Proof.Machine
end

