-- ==== Sys2Proof/Machine/Commit.lean ====
section
/-! DEFINITION. COMMIT: the flow shadow, creation, tracking, reservations and disposition (R198, R199, R228–R231,
R255–R259, R277–R283, R395). -/
namespace Sys2Proof.Machine

/-! ### Tracking by the Frealrex routines (R255, R277–R282; log entry 43) -/

/-- What tracking decides of a packet: its new state bits [4:0], whether it is dropped as invalid or for want of a
binding, whether a record may be made and is a pickup, and whether it is punted. -/
structure Track where
  state : Option Nat
  invalid : Bool
  unbound : Bool
  noRecord : Bool
  pickup : Bool
  punt : Bool

/-- Nothing decided: the packet passes. -/
def Track.pass : Track := ⟨none, false, false, false, false, false⟩
/-- The next tcp_state, fin_dir kept from the present state. -/
def Track.next (cur s : Nat) : Track := { Track.pass with state := some (cur / 16 % 2 * 16 + s) }
/-- The packet is dropped as invalid. -/
def Track.bad : Track := { Track.pass with invalid := true }

/-- The TCP table of R277 for a lock-mode packet of an existing flow, with R278 for one without SYN, FIN or RST. -/
def trackTcp (cur flags : Nat) (rev : Bool) : Track :=
  let s := cur % 16
  let finDir := bitOf cur 4
  let syn := bitOf flags 1 && !bitOf flags 4
  let synAck := bitOf flags 1 && bitOf flags 4
  let fin := bitOf flags 0
  if bitOf flags 2 then .next cur 5
  else if s == 1 && !rev && syn then .next cur 1
  else if s == 1 && rev && synAck then .next cur 2
  else if (s == 2 || s == 6) && fin then { Track.pass with state := some (16 * bit rev + 3) }
  else if s == 3 && fin then .next cur (if rev != finDir then 4 else 3)
  else if (s == 4 || s == 5) && !rev && syn then .next cur 1
  else if !fin && !bitOf flags 1 then (if s == 1 && rev then .bad else .pass)
  else .bad

/-- Whether an instance runs Frealrex code of family 0x03. -/
def Dev.frealrex (d : Dev) (inst : Nat) : Bool :=
  let v := if inst % 8 < 6 then d.fld F.ENG_CLUSTER_STATUS_compat (6 * (inst / 8) + inst % 8)
    else d.fld F.ENG_SPARE_STATUS_compat (2 * (inst / 128) + (inst % 8 - 6))
  v / 2 ^ 24 == 3

/-- Tracking of a packet at its routine's COMMIT: none for routines other than 0x10–0x14 (R255). -/
def Dev.track (d : Dev) (inst : Nat) (x : Pkt) (r : Run) : Track :=
  let param := x.cls.action.getD 3 0 % 2 ^ 32
  let flags := x.tcpFlags
  let tcp := keyProto x.parse.key == 6
  let rev := match x.flow with | some f => f.2.2 | none => false
  let icmp := (keyProto x.parse.key == 1 || keyProto x.parse.key == 58) && !x.echo
  if r.customer || !d.frealrex inst || r.opcode < 0x10 || 0x14 < r.opcode then .pass
  else if r.opcode == 0x14 then { Track.pass with punt := true, noRecord := true }
  else if x.creating then
    if r.opcode == 0x13 then { Track.pass with unbound := true, noRecord := true }
    else if !tcp then (if icmp && r.opcode != 0x10 then { Track.pass with noRecord := true } else .pass)
    else if bitOf flags 1 && !bitOf flags 4 then { Track.pass with state := some 1 }
    else
      let lbOk := r.opcode == 0x12 && (match r.picked with | some (s, _) => d.svc s 3 24 1 == 0 | none => false)
      if !bitOf flags 1 && bitOf param 14 && (r.opcode == 0x10 || lbOk) then
        { Track.pass with state := some 6, pickup := true }
      else { Track.bad with noRecord := true }
  else match x.copy with
    | none => .pass
    | some i =>
      if !tcp then .pass
      else if x.locked then trackTcp (i.state % 32) flags rev
      else if i.state % 16 == 1 && rev then .bad
      else .pass

/-! ### The flow shadow (R228, R230, R258, R269) -/

/-- Bytes of a space with buffered byte writes over them. -/
def overlay (space : List Byte) (w : Tbl Nat) : List Byte :=
  w.cells.foldl (fun bs x => splice bs x.1.a [BitVec.ofNat 8 x.2]) space

/-- The routine-owned fields of an image after the flow shadow. -/
def Run.shadow (r : Run) (i : Img) : Img :=
  let bs := overlay (leBytes 32 i.word4 ++ leBytes 32 i.word5) r.flowW
  { i with state := leAt bs 38 4, opA := leAt bs 42 5, opB := leAt bs 47 5 }

/-- A confirmed reservation written into an image (R257): a port's binding, and a backend. -/
def Img.confirm (i : Img) (v : Resv) : Img :=
  match v with
  | .snat _ a pc port sub orig _ => { i with opA := port + a * 2 ^ 16 + pc * 2 ^ 26 + 2 ^ 39, opB := orig + sub * 2 ^ 16 }
  | .pick _ b => { i with state := i.state % 16 + i.state / 16 % 2 * 16 + 2 ^ 8 + b * 2 ^ 12 }
  | _ => i

/-- Tracking's state written into an image. -/
def Img.tracked (i : Img) (t : Track) : Img :=
  match t.state with
  | some s => { i with state := putBits i.state 0 5 s, pickup := i.pickup || t.pickup }
  | none => i

/-- What a confirmed NAT or LBL reservation counts (R265, R269). -/
def Dev.confirmFlow (d : Dev) (v : Resv) : Dev :=
  match v with
  | .snat die _ _ _ sub _ _ =>
    (match d.sub sub with
    | some s => ((d.subCount sub s.addr true).subHold sub s.addr false).natCnt die 0
    | none => d)
  | .pick _ b => d.setConns b (d.conns b + 1)
  | _ => d

/-- Whether a reservation writes the flow. -/
def Resv.ofFlow : Resv → Bool
  | .snat _ _ _ _ _ _ _ => true
  | .pick _ _ => true
  | _ => false

/-- The reservations outside the flow confirmed (R135, R229, R346). -/
def Dev.confirmOther (d : Dev) (x : Pkt) (r : Run) : Dev :=
  r.resv.foldl (fun d v => match v with
    | .bind recDie record dir =>
      let die := r.pipe / 16
      let b : Binding := ⟨die, x.fragKey, recDie, record, dir, x.stamp.ts48⟩
      { d.natCnt die 9 with nat := { d.nat with binds := d.nat.binds ++ [b] } }
    | .meter die n _ _ col => d.bumpTw .SCH_POL_CNT die n col
    | _ => d) d

/-- The flow reservations confirmed or, where the routine has no entry to write, released. -/
def Dev.settleFlow (d : Dev) (c : Clock) (r : Run) (keep : Bool) : Dev :=
  (r.resv.filter Resv.ofFlow).foldl (fun d v => if keep then d.confirmFlow v else d.resvRelease c v) d

/-- Counter additions applied (R285): an index beyond 18 bits is ignored and counted. -/
def Dev.addCounters (d : Dev) (r : Run) : Dev :=
  r.counters.foldl (fun d x =>
    if x.1 / 2 ^ 18 != 0 then d.engCnt r.pipe 9 else d.bumpTw .TEL_ACT_CNT (r.pipe / 16) x.1 0 x.2.toNat) d

/-- The reverse key of a flow under creation (R259). -/
def Dev.reverseKey (d : Dev) (x : Pkt) (r : Run) : List Byte :=
  let k := x.parse.key
  let snat := r.resv.findSome? (fun v => match v with | .snat _ a _ port _ _ pool => some (a, port, pool) | _ => none)
  let pick := r.picked
  let dnat := pick.filter (fun y => !d.svcEncap y.1)
  let (src, sport) := match dnat with
    | some (_, b) => d.backendEnd b (keyDport k)
    | none => (keyDst k, keyDport k)
  let (dst, dport) := match snat with
    | some (a, port, _) => (d.natAddr a, port)
    | none => (keySrc k, keySport k)
  let zone := match snat, pick with
    | some (_, _, pool), _ => d.fld F.NAT_POOL_CFG2_rev_zone pool
    | none, some (s, _) => d.svc s 3 0 16
    | none, none => keyZone k
  revKeyOf k src sport dst dport zone x.echo

/-! ### Creation (R198 step 4, R199, R395) -/

/-- What became of the flow part of a COMMIT: the packet goes on; it was shed or runs again; or it is a class 2
creation, with the record and the sequence of its INSERT. -/
inductive FlowEnd where
  | goOn
  | taken
  | mirrored (die record seq : Nat)

/-- The record a creating COMMIT writes. -/
def newRecord (x : Pkt) (fwd rev : List Byte) (i : Img) : FlowRec where
  fwd := fwd
  rev := rev
  pktsF := 0
  pktsR := 0
  bytesF := 0
  bytesR := 0
  firstSeen := x.stamp.sec % 2 ^ 32
  birthGen := x.gen
  lastSeenS := x.stamp.sec % 65536
  timeoutSel := Config.newTimeoutSel.val
  flowClass := x.actionClass
  hostMade := false
  img := i

/-- A creating COMMIT (R198, R199, R256). -/
def Dev.commitCreate (d : Dev) (c : Clock) (x : Pkt) (r : Run) (t : Track) (fdel : Bool) : Dev × FlowEnd :=
  match x.entryAt with
  | none => (d.settleFlow c r false, .goOn)
  | some (b, s, w) =>
    let die := b / 128
    let free := fun (y : Pkt) => { y with creating := false, locked := false, copy := none, entryAt := none }
    let out := fun (d : Dev) => (d.modPkt x.id free).provisionalOut c b s w
    if fdel || t.noRecord then (out (d.settleFlow c r false), .goOn)
    else
      let fwd := x.parse.key
      let rev := d.reverseKey x r
      if !d.oneBank fwd rev then
        ((out (d.resvReleaseAll c r)).shed c x.id die x.actionClass 5, .taken)
      else
        let merged := match d.earlier fwd rev (some (b, s, w)) with
          | some (b', h) => (match d.entry b' h.set h.way with
            | some e => e.isRecord
            | none => false)
          | none => false
        if merged then
          let d := out ((d.flwCnt die 6).resvReleaseAll c r)
          ((match d.pkt x.id with | some y => d.bankAccess c y | none => d), .taken)
        else
          match d.entry b s w with
          | none => (d.settleFlow c r false, .goOn)
          | some e =>
            let i := ((r.resv.foldl Img.confirm (r.shadow e.img)).tracked t)
            match d.storeRecord die (newRecord x fwd rev i) with
            | none => ((out (d.resvReleaseAll c r)).shed c x.id die x.actionClass 4, .taken)
            | some (d, n) =>
              let i := { i with record := n, fpFwd := d.fpOf fwd, fpRev := d.fpOf rev }
              let d := (d.settleFlow c r true).flwCnt die 4
              let d := d.setEntry b s w { e with kind := .record, img := i, dirty := false,
                                                 finSent := (i.finF, i.finR) }
              let (d, seq) := d.journalInsert c die n
              let d := d.modPkt x.id (fun y => { y with creating := false, locked := false, flow := some (die, n, false) })
              let d := if t.pickup then d.natCnt die 8 else d
              let d := if t.pickup && r.picked.isSome then d.lblCnt die 4 else d
              let d := d.unlock c b s w
              (d, if i.mirrorClass == 2 && d.journals then .mirrored die n seq else .goOn)

/-- A lock-mode COMMIT on a record (R192, R203, R230, R389). -/
def Dev.commitLocked (d : Dev) (c : Clock) (x : Pkt) (r : Run) (t : Track) (fdel : Bool) : Dev :=
  match x.entryAt with
  | none => d.settleFlow c r false
  | some (b, s, w) =>
    match d.entry b s w with
    | none => d.settleFlow c r false
    | some e =>
      let die := b / 128
      let keep := !(e.img.snatValid || e.img.lbValid)
      let i := r.shadow e.img
      let i := if keep then r.resv.foldl Img.confirm i else i
      let i := i.tracked t
      let changed := i.state != e.img.state || i.opA != e.img.opA || i.opB != e.img.opB ||
        e.finSent != (i.finF, i.finR)
      let d := d.settleFlow c r keep
      let d := d.setEntry b s w { e with img := i, dirty := true, finSent := (i.finF, i.finR) }
      let d := d.modPkt x.id (fun y => { y with locked := false })
      if fdel then d.deleteFlow c die i.record false true
      else
        let d := match changed, d.frec die i.record with
          | true, some rec' => (d.journal c die 1 i (i.updateBody rec'.fwd)).1
          | _, _ => d
        d.unlock c b s w

/-- The flow part of a COMMIT: what an entry that is locked or under creation takes; without one the flow writes and
fdel are discarded (R231). -/
def Dev.commitFlow (d : Dev) (c : Clock) (x : Pkt) (r : Run) (t : Track) (fdel : Bool) : Dev × FlowEnd :=
  if x.creating then d.commitCreate c x r t fdel
  else if x.locked then (d.commitLocked c x r t fdel, .goOn)
  else (d.settleFlow c r false, .goOn)

/-! ### Disposition (R230, R283) -/

/-- The metadata after the metadata shadow. -/
def Run.meta (r : Run) (x : Pkt) : List Byte := overlay x.metaSpace r.metaW

/-- Where a frame goes after COMMIT: 0 to the egress reorder, 1 dropped, 2 punted to a group with a reason, 3
recirculated. -/
structure Leave where
  disp : Nat
  group : Nat
  reason : Nat
  bytes : List Byte
  frames : List EFrame

/-- A frame ready for a queue (R283, R297, R311, R362): `n` bytes are pushed after byte 12 by its next hop. -/
def Dev.egressFrame (d : Dev) (x : Pkt) (r : Run) (bs : List Byte) (e : EditSt) (nh : Nat × Option Nat × Nat × Nat × Option Nat)
    (tc colour : Nat) : Dev × EFrame :=
  let (port, vlan, smac, dmac, remote) := nh
  let shift := if vlan.isSome then 4 else 0
  let place := fun (o : Nat) => if 12 ≤ o then o + shift else o
  let bs := d.l2Rewrite bs vlan smac dmac
  let blocks := (e.pushes.zipIdx).map (fun y => walkBlock y.1 (e.pushPos x.parse y.2 y.1))
  let ips := (blocks.flatten ++ e.parsedHdrs x.parse).filter (fun h => h.1 == 4 || h.1 == 6)
  let ip := ips.foldl (fun (m : Option FoundHdr) h => match m with
    | none => some h
    | some g => if h.2.1 < g.2.1 then some h else some g) none
  let stack := x.parse.stack.zipIdx
  let ptp := stack.find? (fun y => y.1.id == d.fld F.TIM_CTRL_ptp_hdr_id && !e.popped.contains y.2)
  let udp := ptp.bind (fun y => if y.2 == 0 then none else match x.parse.stack[y.2 - 1]? with
    | some h => if h.role == 9 then some (place (e.newPos x.parse h.off)) else none
    | none => none)
  let ioam := r.resv.findSome? (fun v => match v with | .ioam h => some h | _ => none)
  let (d, bs, ioam) := match ioam with
    | none => (d, bs, none)
    | some h => (match x.parse.stack[h]? with
      | some hd =>
        if hd.role != 13 || e.popped.contains h then (d.telCnt (r.pipe / 16) 10, bs, none)
        else
          let v6 := ((x.parse.stack.take h).filter (fun (y : Hdr) => y.role == 5)).getLast?
          let hop := match v6 with | some y => byteAt x.bytes (y.off + 7) | none => 0
          let (bs, at_, k) := d.ioamFill x bs (place (e.newPos x.parse hd.off)) hop
          (d.telCnt (r.pipe / 16) k, bs, at_)
      | none => (d.telCnt (r.pipe / 16) 10, bs, none))
  let hist := r.resv.findSome? (fun (v : Resv) => match v with | .hist h => some h | _ => none)
  (d, { pkt := some x.id, bytes := bs, port, tc, colour, seg := x.seg, ingress := some x.stamp, ingressPort := x.port,
        stepEpoch := x.stepEpoch, enqTs48 := 0, ptpOff := ptp.map (fun (y : Hdr × Nat) => place (e.newPos x.parse y.1.off)),
        ipOff := ip.map (fun (h : FoundHdr) => (place h.2.1, h.1 == 6)), udpOff := udp, hist, ioam, oneStep := .none,
        native := false, compat := none, txRing := none, remote })

/-- Longest frame a port sends: max_frame within 1,518–9,216. -/
def Dev.maxFrame (d : Dev) (p : Nat) : Nat := min (max (d.fld F.MAC_PORT_CFG_max_frame p) 1518) 9216

/-- The disposition of a COMMIT with its frame: `disp` after tracking. -/
def Dev.leaveOf (d : Dev) (x : Pkt) (r : Run) (disp : Nat) (colour : Nat) : Dev × Leave :=
  let m := r.meta x
  let group := leAt m 34 2 % 4096
  let (bs, e) := d.editFrame x r.edits
  let d := if e.discards == 0 then d else d.clsCnt x.pipe 6 e.discards
  match disp with
  | 0 =>
    (match d.nextHop (leAt m 29 3 % 2 ^ 20) x.gen x.hash with
    | .drop => (d.clsCnt x.pipe 8, ⟨1, 0, 0, bs, []⟩)
    | .punt => (d, ⟨2, bitsOf (x.cls.action.getD 0 0) 20 12, 5, bs, []⟩)
    | .unicast port vlan smac dmac remote =>
      let (d, f) := d.egressFrame x r bs e (port, vlan, smac, dmac, remote) (byteAt m 32 % 8) colour
      if d.maxFrame port < f.len then (d.clsCnt x.pipe 6, ⟨1, 0, 0, bs, []⟩) else (d, ⟨0, 0, 0, bs, [f]⟩))
  | 2 => (d, ⟨2, group, 1, bs, []⟩)
  | 3 => (d, ⟨3, 0, 0, bs, []⟩)
  | _ => (d, ⟨1, 0, 0, bs, []⟩)

/-- A recirculated pass written to a new segment, charged to the cluster that asked for it (R311); refused, the
packet is dropped. -/
def Dev.recircSeg (d : Dev) (c : Clock) (x : Pkt) (k : Nat) (bytes : List Byte) : Dev :=
  if 4 ≤ x.pass then d.recirculate c x.id bytes
  else
    let pool := poolOf (bytes.length + 4)
    let requester := 16 + 6 * (x.pipe % 16) + k
    let from_ := (x.seg.bind (fun s => d.seg s.1)).bind (fun (s : Seg) => if s.units == 0 then none else some (s.pipe, s.prio))
    match d.segRequest c x.die requester pool from_ with
    | (d, .granted h) =>
      let d := d.segRelease c x.seg
      (d.setPkt { x with seg := some (h, requester) }).recirculate c x.id bytes
    | (d, .retry) =>
      let wait : SegRetry := ⟨x.die, requester, pool, 0, some x.id, 0⟩
      let d := d.setPkt { x with bytes, loc := .segWait }
      { d with bpm := { d.bpm with retries := d.bpm.retries ++ [wait] } }
    | (d, _) => (d.clsCnt x.pipe 3).flowDrop c x.id

/-- A packet takes its disposition. -/
def Dev.takeLeave (d : Dev) (c : Clock) (id k : Nat) (l : Leave) : Dev :=
  match d.pkt id with
  | none => d
  | some x =>
    match l.disp with
    | 0 => ((d.setPkt { x with frames := l.frames, loc := .egress }).freeHold c id).leaveDomain id
    | 2 => d.punt c id l.group l.reason 0xFF (some l.bytes)
    | 3 => d.recircSeg c x k l.bytes
    | _ => d.flowDrop c id

/-! ### The Ember hold (R316, R395, R399) -/

/-- Packets in a die's hold. -/
def Dev.holdCount (d : Dev) (die : Nat) : Nat := d.twn.held.countP (fun h => h.die == die)

/-- TWN_HOLD_OCC follows the hold. -/
def Dev.holdOcc (d : Dev) (die : Nat) : Dev :=
  (d.put F.TWN_HOLD_OCC_occupancy die (d.holdCount die)).peak F.TWN_HOLD_OCC_peak die (d.holdCount die)

/-- A class 2 first packet that is not admitted (R395): its record is deleted unjournaled, its INSERT withdrawn or
cancelled, and it is shed by its class policy. -/
def Dev.holdRefused (d : Dev) (c : Clock) (x : Pkt) (die n seq : Nat) : Dev :=
  let fwd := match d.frec die n with | some r => r.fwd | none => x.parse.key
  let d := d.deleteFlow c die n false false
  let waiting := (d.backlog die).any (fun m => m.seq == seq)
  let d := if waiting then d.setBacklog die ((d.backlog die).filter (fun m => m.seq != seq))
    else (d.emberEntry c die 2 (deleteBody fwd)).1
  d.shedPolicy c x.id die x.actionClass 0xFF true

/-- A class 2 first packet after its COMMIT: held, released unmirrored, or shed (R395, R399, R400). -/
def Dev.holdFirst (d : Dev) (c : Clock) (x : Pkt) (die n seq k : Nat) (l : Leave) : Dev :=
  if d.twn.holdsOn.num die == 0 then
    if d.flag F.TWN_CTRL_sync_down then d.holdRefused c x die n seq
    else (d.twnCnt die 6).takeLeave c x.id k l
  else
    let room := d.holdCount die < min (max 1 (d.fld F.TWN_SYNC_CTRL_hold_max)) 16384
    let (d, ok) := if !room then (d, false) else match x.seg with
      | some (h, _) => d.segToHold c h
      | none => (d, true)
    if !ok then ((d.twnCnt die 5).raiseLim c .TWN_HOLD_FULL 1 die).holdRefused c x die n seq
    else
      let hold := fun (y : Pkt) =>
        { y with loc := .emberHold, unordered := true, frames := l.frames, seg := y.seg.map (fun s => (s.1, 112)) }
      let d := d.modPkt x.id hold
      let h : EmberHeld := ⟨die, x.id, seq, n, c.phys, l.disp, l.group, l.bytes⟩
      let d := d.twnCnt die 3
      { d with twn := { d.twn with held := d.twn.held ++ [h] } }.holdOcc die

/-! ### COMMIT -/

/-- COMMIT of the routine of an engine (R230). -/
def Dev.commitRun (d : Dev) (c : Clock) (inst e : Nat) (x : Pkt) (r : Run) (w : ActWord) : Dev :=
  let t := d.track inst x r
  let met := r.resv.findSome? (fun v => match v with | .meter die n _ _ col => some (die, n, col) | _ => none)
  let mine := !r.customer && d.frealrex inst && 0x10 ≤ r.opcode && r.opcode ≤ 0x14
  let red := match met with
    | some (die, n, col) => mine && col == 2 && d.pol die n 1 59 1 == 1
    | none => false
  let colour := match met with
    | some (_, _, col) => if mine then col else byteAt (r.meta x) 33 % 4
    | none => byteAt (r.meta x) 33 % 4
  let full := if mine then r.exhausted else none
  let punt := t.punt || full.isSome
  let fdel := w.fdel || full.isSome
  let disp := if t.invalid || t.unbound || r.xdrop || red then 1 else if punt then 2 else if 4 ≤ w.disp then 1 else w.disp
  let die := r.pipe / 16
  let d := if t.invalid then d.natCnt die 6 else if t.unbound then d.natCnt die 7 else d
  let d := if t.punt then d.natCnt die 14 else d
  let k := match x.loc with | .running k _ => k | _ => 0
  let d := (d.wordSample c inst e x r).runEnd c inst e x { r with words := r.words + 1 } false
  let d := d.modPkt x.id (fun y => { y with loc := .dispatch, tc := byteAt (r.meta x) 32 % 8, colour })
  match d.commitFlow c x r t fdel with
  | (d, .taken) => d
  | (d, .goOn) =>
    let d := (d.addCounters r).confirmOther x r
    let (d, l) := d.leaveOf x r disp colour
    d.takeLeave c x.id k l
  | (d, .mirrored die n seq) =>
    let d := (d.addCounters r).confirmOther x r
    let (d, l) := d.leaveOf x r disp colour
    match d.pkt x.id with
    | some y => d.holdFirst c y die n seq k l
    | none => d

/-- The COMMIT word of an engine. A Frealrex routine whose SNAT was exhausted ends by ABORT instead where its pool's
exhaust_act is 0 (R263). -/
def Dev.seqCommit (d : Dev) (c : Clock) (inst e : Nat) : Dev :=
  d.seqSlot c inst e 4 (fun d x r w =>
    let mine := !r.customer && d.frealrex inst && 0x10 ≤ r.opcode && r.opcode ≤ 0x14
    match mine, r.exhausted with
    | true, some pool =>
      if d.flag F.NAT_POOL_CFG2_exhaust_act pool then d.commitRun c inst e x r w else d.abortRun c inst e
    | _, _ => d.commitRun c inst e x r w)

end Sys2Proof.Machine
end

