-- ==== Sys2Proof/Machine/Sweeper.lean ====
section
/-! DEFINITION. Sweepers: visits, microwords, checkpoints and scans (R173, R175, R183, R207–R209, R234–R242, R247,
R271, R280, R289). -/
namespace Sys2Proof.Machine

/-- A counter of a die's Sweepers. -/
def Dev.swpCnt (d : Dev) (die k : Nat) : Dev := d.bump F.SWP_CNT_count (6 * die + k)

/-- SWP_STATUS.state: 0 running, 1 paused, 2 reloading, 3 retired, 4 waiting for a record. -/
def Dev.swpState (d : Dev) (die n : Nat) : Nat := d.fld F.SWP_STATUS_state (32 * die + n)

/-- A Sweeper's state register set. -/
def Dev.setSwpState (d : Dev) (die n s : Nat) : Dev := d.put F.SWP_STATUS_state (32 * die + n) s

/-- SWP_STATUS.pc follows the Sweeper. -/
def Dev.swpPc (d : Dev) (die n : Nat) : Dev := d.put F.SWP_STATUS_pc (32 * die + n) (d.sweep die n).ctx.pc

/-- Sweepers of a die in service, rising. -/
def Dev.swpServing (d : Dev) (die : Nat) : List Nat := (List.range 32).filter (fun n => d.swpState die n != 3)

/-! ### Scans (R175, R207, R247) -/

/-- A scan begins: the die's records are divided equally among the Sweepers in service. -/
def Dev.scanBegin (d : Dev) (c : Clock) (die : Nat) : Dev :=
  let ns := d.swpServing die
  let total := d.recCount
  let d := (ns.zipIdx).foldl (fun d x =>
    let s := d.sweep die x.1
    d.setSweep die x.1 { s with next := x.2 * total / ns.length, stop := (x.2 + 1) * total / ns.length, extra := [] }) d
  let k : Key := ⟨die, 0, 0⟩
  let older := fun (a b : Nat) (t : Tbl Nat) => t.map (fun key v => if key.a == die && v == a then b else v)
  let d := { d with flw := { d.flw with quar := older 1 4 d.flw.quar, lost := older 1 3 d.flw.lost } }
  let free := fun (g : Nat) => d.rel.lostFree.get (fun _ => []) ⟨die, g, 0⟩
  let ring := (d.rel.lostFree.set (fun _ => []) ⟨die, 1, 0⟩ (free 1 ++ free 0)).set (fun _ => []) ⟨die, 0, 0⟩ []
  let d := { d with rel := { d.rel with lostFree := ring } }
  let swp := { d.swp with scanAt := d.swp.scanAt.setNum k (c.phys + 1), prevAt := d.swp.prevAt.setNum k (d.swp.scanAt.num die),
                          prevAband := d.swp.prevAband.setNum k (d.swp.abandoned.num die),
                          abandoned := d.swp.abandoned.setNum k 0, scanning := d.swp.scanning.setNum k 1,
                          badBuckets := older 1 2 d.swp.badBuckets }
  { d with swp := swp }.sweepBegin die

/-- The next record in use of a range, and the range after it. -/
def Dev.nextIn (d : Dev) (die a b : Nat) : Option Nat :=
  (d.flw.recs.cells.find? (fun x => x.1.a == die && a ≤ x.1.b && x.1.b < b && !d.recOut die x.1.b)).map (fun x => x.1.b)

/-- The next record a Sweeper visits: of its range, then of the ranges it took over. -/
def Dev.nextRecord (d : Dev) (die : Nat) (s : Sweep) : Option Nat :=
  match d.nextIn die s.next s.stop with
  | some n => some n
  | none => s.extra.findSome? (fun r => d.nextIn die r.1 r.2)

/-- A Sweeper past a record. -/
def Sweep.past (s : Sweep) (n : Nat) : Sweep :=
  if s.next ≤ n && n < s.stop then { s with next := n + 1 }
  else { s with extra := s.extra.map (fun r => if r.1 ≤ n && n < r.2 then (n + 1, r.2) else r) }

/-! ### Visits (R207, R237, R240) -/

/-- The rule entry of a record, if it is sweeping (R173, R175). -/
def Dev.deadRule (d : Dev) (i : Img) : Option RuleEntry :=
  if i.rule == 0xFFFFF then none else (d.cls.rules.find? ⟨i.rule, 0, 0⟩).filter (fun r => r.state == 2)

/-- A visit's record now held: steps 1 and 2 of R207, and the visit buffer loaded. -/
def Dev.visitLoad (d : Dev) (c : Clock) (die n : Nat) (v : Visit) (corrected : Bool) : Dev :=
  let d := (d.perf die 0x060 none none).hbmAccess die 0x050 (d.recChannels v.record)
  match d.imgNow die v.record with
  | none =>
    let s := d.sweep die n
    ({ d with flw := { d.flw with tags := d.flw.tags.setNum ⟨die, v.record, 0⟩ 0 } }).setSweep die n
      { (s.past v.record) with visit := none }
  | some i =>
    let rule := d.deadRule i
    let d := if corrected then (d.flwCnt die 15).hbmCe die (3 * v.record) else d
    if (match rule with | some r => r.revoke | none => false) then
      let s := d.sweep die n
      let d := { d with flw := { d.flw with tags := d.flw.tags.setNum ⟨die, v.record, 0⟩ 0 } }
      (((d.setSweep die n { (s.past v.record) with visit := none }).flwCnt die 9).deleteFlow c die v.record false true).swpCnt die 0
    else
      let orphan := rule.isSome
      let d := if orphan then d.flwCnt die 10 else d
      let i0 := if orphan then { i with rule := 0xFFFFF } else i
      let d := if i0.hasDeltas then d.flushDeltas c die i0 else d
      let i' := i0.zeroDeltas
      let d := if v.resident then (match d.resident die v.record with
          | some (b, s, w) => (match d.entry b s w with
            | some e => d.setEntry b s w { e with img := i', dirty := true }
            | none => d)
          | none => d)
        else (match d.frec die v.record with
          | some r => d.setRec die v.record { r with img := i' }
          | none => d)
      match d.frec die v.record with
      | none => d
      | some r =>
        let buf := { r with img := i' }.bytes
        let spill := [r.fwd, r.rev].any (fun k => d.flw.spill.num die (d.bucketsOf k).1 == 1)
        let v := { v with touched := i.touched, corrected, ruleDead := rule.isSome, revoke := false, spill, loaded := true,
                          orig := buf }
        let s := d.sweep die n
        let ctx := { s.ctx with pc := 0, buf }
        let s := { s with visit := some v, ctx, ckpt := ctx, slots := Slots.none, since := c.phys, slow := false, words := 0 }
        ((d.setSweep die n s).setSwpState die n 0).swpPc die n

/-- A Sweeper takes the next record of its range by lock or sweep tag, or loads the one it was granted (R207). -/
def Dev.sweeperVisit (d : Dev) (c : Clock) (die n : Nat) (corrected : Bool) : Dev :=
  let st := d.swpState die n
  let d := if d.swp.scanning.num die == 0 then d.scanBegin c die else d
  let s := d.sweep die n
  if st != 0 && st != 4 then d
  else match s.visit, s.waiting with
    | some v, _ => if v.loaded then d else d.visitLoad c die n v corrected
    | none, some _ => d
    | none, none =>
      match d.nextRecord die s with
      | none => d
      | some rec =>
        let v : Visit := ⟨rec, true, false, false, false, false, false, false, []⟩
        match d.resident die rec with
        | some (b, st', w) =>
          (match d.entry b st' w with
          | some e =>
            if e.lock || !e.waiters.isEmpty then
              let d := d.setEntry b st' w { e with waiters := e.waiters ++ [.sweep (32 * die + n)] }
              (d.setSweep die n { s with waiting := some rec }).setSwpState die n 4
            else ((d.setEntry b st' w { e with lock := true }).setSweep die n { s with visit := some v }).visitLoad c die n v corrected
          | none => d)
        | none =>
          let v := { v with resident := false }
          let d := { d with flw := { d.flw with tags := d.flw.tags.setNum ⟨die, rec, 0⟩ 1 } }
          (d.setSweep die n { s with visit := some v }).visitLoad c die n v corrected

/-- A visit ends: its lock or tag is released and the Sweeper goes on past the record. -/
def Dev.visitRelease (d : Dev) (c : Clock) (die n : Nat) (v : Visit) : Dev :=
  let s := d.sweep die n
  let s := { (s.past v.record) with visit := none, slots := Slots.none, calls := [], pausedAt := none }
  let d := (d.setSweep die n s).setSwpState die n (if d.swpState die n == 1 then 1 else 0)
  if v.resident then (match d.resident die v.record with
    | some (b, st, w) => d.unlock c b st w
    | none => d)
  else { d with flw := { d.flw with tags := d.flw.tags.setNum ⟨die, v.record, 0⟩ 0 } }

/-- A visit abandoned: its buffer discarded, the record as it was (R235, R242). -/
def Dev.abandon (d : Dev) (c : Clock) (die n : Nat) : Dev :=
  match (d.sweep die n).visit with
  | none => d
  | some v =>
    let d := (d.swpCnt die 3).visitRelease c die n v
    { d with swp := { d.swp with abandoned := d.swp.abandoned.setNum ⟨die, 0, 0⟩ 1 } }

/-! ### Sweeper microwords (R234–R237) -/

/-- Registers that a Sweeper's memory slot reads. -/
def MemSlot.swpReads (m : MemSlot) : List Nat :=
  (if m.idx && 1 ≤ m.op && m.op ≤ 3 then [m.base] else []) ++ (match m.op with
    | 2 => [m.reg]
    | 4 => [m.reg]
    | 5 => (List.range 4).map (fun i => (m.reg + i) % 32)
    | _ => [])

/-- Condition selectors that a word uses: c0 to c_ways for MWAY, c0 for BR_T. -/
def SwpWord.used (w : SwpWord) : List Nat := if w.seq == 2 then w.c.take (w.ways + 1) else if w.seq == 3 then w.c.take 1 else []

/-- Registers that conditions read. -/
def condRegs (cs : List Nat) : List Nat :=
  cs.filterMap (fun k => if k == 13 then some 30 else if 24 ≤ k then some 31 else if 16 ≤ k then some 30 else none)

/-- The Sweeper of a die that may work on its word now, and the word. -/
def Dev.swpCurrent (d : Dev) (die n : Nat) : Option (Sweep × Visit × SwpWord) :=
  let s := d.sweep die n
  match s.visit with
  | none => none
  | some v =>
    let (x, parity) := d.storeWord .SWP_CSTORE (32 * die + n) s.ctx.pc 0
    if d.swpState die n != 0 || !v.loaded || !parityOk x parity 32 then none
    else
      let w := SwpWord.of x
      let started := s.slots.aluDone || s.slots.memDone
      let regs := w.alu.reads ++ w.mem.swpReads ++ condRegs w.used
      let stalled := regs.any (awaited s.calls) || (w.used.contains 14 && s.calls.any Call.latest) ||
        (w.mem.op == 5 && 4 ≤ s.calls.length)
      if !started && stalled then none else some (s, v, w)

/-- Conditions of R236. -/
def Dev.swpCond (d : Dev) (die n : Nat) (s : Sweep) (v : Visit) (k : Nat) : Bool :=
  match k with
  | 0 => true
  | 1 => s.ctx.flags.z
  | 2 => !s.ctx.flags.z
  | 3 => s.ctx.flags.n
  | 4 => !s.ctx.flags.n
  | 5 => s.ctx.flags.c
  | 6 => !s.ctx.flags.c
  | 7 => v.resident
  | 8 => d.flag F.FLW_CTRL_age_host die
  | 9 => v.corrected
  | 10 => v.ruleDead
  | 11 => v.revoke
  | 12 => v.spill
  | 13 =>
    let f := (gReg s.ctx.regs 30).toNat % 1024
    (match d.fifSlot f (32 * die + n) with
    | some slot => 0 < d.credits f slot
    | none => false)
  | 14 => s.lastOk
  | 15 => !s.calls.isEmpty
  | k => if k < 24 then bitOf (gReg s.ctx.regs 30).toNat (k - 16) else bitOf (gReg s.ctx.regs 31).toNat (k - 24)

/-- Space 1: the visit information (R237). -/
def Dev.visitInfo (d : Dev) (c : Clock) (die : Nat) (v : Visit) : List Byte :=
  let flags := bit v.resident + 2 * bit (d.flag F.FLW_CTRL_age_host die) + 4 * bit v.corrected + 8 * bit v.ruleDead +
    16 * bit v.revoke + 32 * bit v.spill
  leBytes 4 v.record ++ leBytes 4 flags ++ leBytes 8 c.stamp.ts48 ++ c.stamp.bytes ++ leBytes 4 (d.fld F.SWP_SCAN_scans die)

/-- A memory slot of one operation of a Sweeper executed. -/
def Dev.swpMem (d : Dev) (die n op : Nat) (f : Dev → Sweep → Visit → SwpWord → Dev × Sweep) : Dev :=
  match d.swpCurrent die n with
  | some (s, v, w) =>
    if w.mem.op == op && !s.slots.memDone then
      let (d, s) := f d s v w
      d.setSweep die n { s with slots := { s.slots with memDone := true } }
    else d
  | none => d

/-- A Sweeper whose memory slot loads a register. -/
def Sweep.loads (s : Sweep) (reg : Nat) (v : Word) : Sweep := { s with slots := { s.slots with memW := some (reg, v) } }

/-- SWP_LD. -/
def Dev.swpLd (d : Dev) (c : Clock) (die n : Nat) : Dev :=
  d.swpMem die n 1 (fun d s v w =>
    let space := match w.mem.space with
      | 0 => s.ctx.buf
      | 1 => d.visitInfo c die v
      | 2 => s.ctx.scratch
      | _ => []
    (d, s.loads w.mem.reg (BitVec.ofNat 64 (ofLeBytes (loadBytes space (w.mem.at s.ctx.regs) w.mem.bytes)))))

/-- SWP_ST: the visit buffer and scratch take stores, the other spaces ignore them. -/
def Dev.swpSt (d : Dev) (die n : Nat) : Dev :=
  d.swpMem die n 2 (fun d s _ w =>
    let off := w.mem.at s.ctx.regs
    let bs := leBytes w.mem.bytes (gReg s.ctx.regs w.mem.reg).toNat
    match w.mem.space with
    | 0 => (d, { s with ctx := { s.ctx with buf := splice s.ctx.buf off bs } })
    | 2 => (d, { s with ctx := { s.ctx with scratch := splice s.ctx.scratch off bs } })
    | _ => (d, s))

/-- PUSH: words of scratch to a FIFO as one item, dropped and counted without a credit. -/
def Dev.swpPush (d : Dev) (c : Clock) (die n : Nat) : Dev :=
  d.swpMem die n 3 (fun d s _ w =>
    let off := w.mem.at s.ctx.regs
    let words := (List.range w.mem.bytes).map (fun i => BitVec.ofNat 64 (ofLeBytes (loadBytes s.ctx.scratch (off + 8 * i) 8)))
    let (d, ok) := d.fifPush c (w.imm % 1024) (32 * die + n) words
    (if ok then d else d.swpCnt die 4, s))

/-- SWP_CNT_ADD: an addition to an action counter of the die, at once. -/
def Dev.swpCntAdd (d : Dev) (die n : Nat) : Dev :=
  d.swpMem die n 4 (fun d s _ w =>
    if w.imm / 2 ^ 18 != 0 then (d, s)
    else (d.bumpTw .TEL_ACT_CNT die w.imm 0 (gReg s.ctx.regs w.mem.reg).toNat, s))

/-- SWP_UNIT: a unit call, its unit and function in imm[15:0] (log entry 51). -/
def Dev.swpUnit (d : Dev) (die n : Nat) : Dev :=
  d.swpMem die n 5 (fun d s _ w =>
    let k := callOf s.ctx.regs w.mem.reg (bitsOf w.imm 12 4) (bitsOf w.imm 0 12)
    (d, { s with slots := { s.slots with call := some k } }))

/-- SWP_TS. -/
def Dev.swpTs (d : Dev) (c : Clock) (die n : Nat) : Dev :=
  d.swpMem die n 6 (fun d s _ w => (d, s.loads w.mem.reg (BitVec.ofNat 64 c.stamp.ts48)))

/-- A word ends with the next address. -/
def Sweep.advance (s : Sweep) (next : Nat) : Sweep :=
  { s with ctx := { s.ctx with pc := next % 4096, regs := s.slots.regs s.ctx.regs, flags := s.slots.flags.getD s.ctx.flags },
           calls := s.slots.calls s.calls, slots := Slots.none, words := s.words + 1 }

/-- The sequencer of a Sweeper word with code `seq`, once both slots have executed. -/
def Dev.swpSeq (d : Dev) (c : Clock) (die n seq : Nat) (f : Dev → Sweep → Visit → SwpWord → Dev) : Dev :=
  match d.swpCurrent die n with
  | some (s, v, w) =>
    if w.seq == seq && s.slots.complete w.alu w.mem && w.mem.op < 7 then
      let d := d.sampleEvent c die 1 ⟨s.ctx.pc, true, 0, n, 0, false, false, false, 0, 0, s.words, 0, some (die, v.record)⟩
      f d s v w
    else d
  | none => d

/-- A Sweeper goes on to an address. -/
def Dev.swpGo (d : Dev) (die n : Nat) (s : Sweep) (next : Nat) : Dev := (d.setSweep die n (s.advance next)).swpPc die n

/-- SWP_NEXT. -/
def Dev.swpNext (d : Dev) (c : Clock) (die n : Nat) : Dev :=
  d.swpSeq c die n 0 (fun d s _ _ => d.swpGo die n s (s.ctx.pc + 1))

/-- SWP_JUMP. -/
def Dev.swpJump (d : Dev) (c : Clock) (die n : Nat) : Dev := d.swpSeq c die n 1 (fun d s _ w => d.swpGo die n s w.target)

/-- MWAY: the target's low 4 bits ORed with the conditions. -/
def Dev.swpMway (d : Dev) (c : Clock) (die n : Nat) : Dev :=
  d.swpSeq c die n 2 (fun d s v w =>
    let m := ((w.used).zipIdx).foldl (fun m x => m + bit (d.swpCond die n s v x.1) * 2 ^ x.2) 0
    d.swpGo die n s (w.target / 16 * 16 + (w.target % 16 ||| m)))

/-- SWP_BR_T. -/
def Dev.swpBrT (d : Dev) (c : Clock) (die n : Nat) : Dev :=
  d.swpSeq c die n 3 (fun d s v w =>
    d.swpGo die n s (if d.swpCond die n s v (w.c.getD 0 0) then w.target else s.ctx.pc + 1))

/-- CKPT: the restart state saved after the word. -/
def Dev.swpCkpt (d : Dev) (c : Clock) (die n : Nat) : Dev :=
  d.swpSeq c die n 4 (fun d s _ _ =>
    let s := s.advance (s.ctx.pc + 1)
    (d.setSweep die n { s with ckpt := s.ctx }).swpPc die n)

/-- Sequencer codes 6 and 7 and memory operations 7–15: the visit is abandoned (R235, R237). -/
def Dev.swpIllegal (d : Dev) (c : Clock) (die n : Nat) : Dev :=
  match d.swpCurrent die n with
  | some (s, _, w) =>
    if 7 ≤ w.mem.op || (6 ≤ w.seq && s.slots.complete w.alu w.mem) then
      (d.abandon c die n).raiseLim c .SWP_ILLEGAL 1 die
    else d
  | none => d

/-! ### END_VISIT (R208, R209, R238, R271, R280, R289) -/

/-- The bytes of words 3 to 5 that a routine changed, over the record's present bytes. -/
def mergeVisit (now orig buf : List Byte) : List Byte :=
  (List.range 192).map (fun i =>
    let o := orig[i]?.getD 0
    let b := buf[i]?.getD 0
    if 96 ≤ i && o != b then b else now[i]?.getD 0)

/-- The changed bytes of a visit buffer written back (R238). -/
def Dev.visitWrite (d : Dev) (die : Nat) (v : Visit) (buf : List Byte) : Dev :=
  match d.frec die v.record, d.imgNow die v.record with
  | some r, some i =>
    let m := recOf (mergeVisit ({ r with img := i }.bytes) v.orig buf)
    let keep := { m with fwd := r.fwd, rev := r.rev }
    let was := { r with img := i }.bytes
    let changed := fun (j : Nat) => (keep.bytes.drop (64 * j)).take 64 != (was.drop (64 * j)).take 64
    let chs := (if changed 1 then [(3 * v.record + 1) % d.channels] else []) ++
      if changed 2 && !v.resident then [(3 * v.record + 2) % d.channels] else []
    let d := d.hbmAccess die 0x051 chs
    if v.resident then
      let d := d.setRec die v.record { keep with img := r.img }
      (match d.resident die v.record with
      | some (b, s, w) => (match d.entry b s w with
        | some e => d.setEntry b s w { e with img := m.img, dirty := e.dirty || decide (m.img ≠ e.img) }
        | none => d)
      | none => d)
    else d.setRec die v.record keep
  | _, _ => d

/-- timeout_sel of a record under R280; a record of no row of NAT_TMO_MAP keeps its own. -/
def Dev.timeoutSel (d : Dev) (r : FlowRec) (i : Img) : Nat :=
  let sel := fun (k : Nat) => bitsOf (d.fld F.NAT_TMO_MAP_sel) (4 * k) 4
  match keyProto r.fwd with
  | 6 => let s := i.state % 16; if 1 ≤ s && s ≤ 6 then sel (s - 1) else r.timeoutSel
  | 17 => if r.pktsR + i.dpR == 0 then sel 6 else sel 7
  | 1 => sel 8
  | 58 => sel 8
  | _ => r.timeoutSel

/-- Seconds [15:0] of a touched record's last activity as a visit takes it (R208). -/
def Dev.visitSeconds (d : Dev) (c : Clock) (die : Nat) (i : Img) : Nat :=
  let from_ := if d.swp.prevAband.num die == 1 then d.swp.prevAt.num die else d.swp.scanAt.num die
  if c.phys + 1 - from_ < edgesMs 4280 then lastSecond c i else c.sec % 65536

/-- An aging notice (R209): the forward key, then the record number with last_seen_s. -/
def agingWords (r : FlowRec) (n lastS : Nat) : List Word :=
  (List.range 6).map (fun w => BitVec.ofNat 64 (leAt r.fwd (8 * w) 8)) ++ [BitVec.ofNat 64 (n + lastS * 2 ^ 32)]

/-- Whether a bound backend's down_act asks for the record's deletion (R271). -/
def Dev.repick (d : Dev) (i : Img) : Bool := match d.backendNow i with | .again => true | _ => false

/-- Steps 3 to 6 of R207 on a visited record; answers whether the record was deleted. -/
def Dev.visitAge (d : Dev) (c : Clock) (die n : Nat) (v : Visit) : Dev × Bool :=
  match d.frec die v.record, d.imgNow die v.record with
  | some r, some i =>
    let sel := d.timeoutSel r i
    let lastS := if v.touched then d.visitSeconds c die i else r.lastSeenS
    let r := { r with timeoutSel := sel, lastSeenS := lastS }
    let i' := { i with touched := false }
    let d := if v.resident then (match d.resident die v.record with
        | some (b, s, w) => (match d.entry b s w with
          | some e => (d.setRec die v.record r).setEntry b s w { e with img := i', dirty := true }
          | none => d)
        | none => d)
      else d.setRec die v.record { r with img := i' }
    let t := min (d.fld F.FLW_TIMEOUT_seconds (16 * die + sel)) 65000
    let old := t != 0 && t ≤ (c.sec % 65536 + 65536 - lastS) % 65536
    let host := d.flag F.FLW_CTRL_age_host die
    if old && !host then ((d.flwCnt die 8).deleteFlow c die v.record true true, true)
    else if d.repick i then (d.deleteFlow c die v.record false true, true)
    else
      let d := if old then (d.fifPush c (512 * die) (32 * die + n) (agingWords r v.record lastS)).1 else d
      let every := d.fld F.TEL_CLASS_CFG_every r.flowClass
      let due := d.flag F.TEL_CLASS_CFG_export_en r.flowClass && v.touched &&
        (every == 0 || d.fld F.SWP_SCAN_scans die % every == 0)
      let d := if !due then d
        else match d.exportPush c die (32 * die + n) r { i' with touched := true } 2 with
          | (d, true) => d
          | (d, false) => d.telCnt die 5
      ((d.spillClear die (d.bucketsOf r.fwd).1).spillClear die (d.bucketsOf r.rev).1, false)
  | _, _ => (d, false)

/-- END_VISIT. -/
def Dev.endVisit (d : Dev) (c : Clock) (die n : Nat) : Dev :=
  d.swpSeq c die n 5 (fun d s v w =>
    let smp : Sample := ⟨s.ctx.pc, true, 0, n, 0, false, false, false, 0, 0, s.words, 0, some (die, v.record)⟩
    let s := s.advance 0
    let d := ((d.sampleEvent c die 0 smp).setSweep die n { s with ckpt := s.ctx }).swpCnt die 0
    let d :=
      if w.del then d.deleteFlow c die v.record false true
      else ((d.visitWrite die v s.ctx.buf).visitAge c die n v).1
    (d.visitRelease c die n v).swpPc die n)

/-! ### Pauses, machine checks and scan ends (R239, R242, R247) -/

/-- A visit that has held its record for more than 10 µs. -/
def Dev.visitSlow (d : Dev) (c : Clock) (die n : Nat) : Dev :=
  let s := d.sweep die n
  if s.visit.isSome && !s.slow && s.since + edgesUs 10 < c.phys then
    (d.setSweep die n { s with slow := true }).raise c .SWP_VISIT_SLOW 1 die
  else d

/-- A write of SWP_CTRL.pause (R242): Sweepers named are interrupted after their word, the others resume. -/
def Dev.swpPause (d : Dev) (c : Clock) (die mask : Nat) : Dev :=
  let d := d.put F.SWP_CTRL_pause die mask
  (List.range 32).foldl (fun d n =>
    let s := d.sweep die n
    let st := d.swpState die n
    if bitOf mask n && (st == 0 || st == 4) && s.slots == Slots.none && s.calls.isEmpty then
      ((d.setSweep die n { s with pausedAt := some c.phys }).setSwpState die n 1).swpCnt die 5
    else if !bitOf mask n && st == 1 then
      (d.setSweep die n { s with pausedAt := none }).setSwpState die n (if s.waiting.isSome then 4 else 0)
    else d) d

/-- A pause that waited for a word or for unit results takes effect. -/
def Dev.pauseDue (d : Dev) (c : Clock) (die : Nat) : Dev := d.swpPause c die (d.fld F.SWP_CTRL_pause die)

/-- A paused visit not resumed within 10 µs is abandoned (R242). -/
def Dev.pauseAbandon (d : Dev) (c : Clock) (die n : Nat) : Dev :=
  match (d.sweep die n).pausedAt with
  | some t => if d.swpState die n == 1 && t + edgesUs 10 < c.phys then d.abandon c die n else d
  | none => d

/-- A Sweeper's remaining ranges given to the others in service, in turn. -/
def Dev.shareRanges (d : Dev) (die n : Nat) : Dev :=
  let s := d.sweep die n
  let ranges := ((s.next, s.stop) :: s.extra).filter (fun r => r.1 < r.2)
  let ns := (d.swpServing die).filter (fun m => m != n)
  let d := d.setSweep die n { s with next := 0, stop := 0, extra := [] }
  if ns.isEmpty then d
  else
    let pieces := (ranges.map (fun r =>
      (List.range ns.length).map (fun j => (j, r.1 + j * (r.2 - r.1) / ns.length, r.1 + (j + 1) * (r.2 - r.1) / ns.length)))).flatten
    pieces.foldl (fun d p =>
      let m := ns.getD p.1 0
      let t := d.sweep die m
      d.setSweep die m { t with extra := t.extra ++ [p.2] }) d

/-- A Sweeper retired (R247): its visit is given up, and the others share its records. -/
def Dev.swpRetire (d : Dev) (c : Clock) (die n : Nat) : Dev :=
  let d := match (d.sweep die n).visit with
    | some v =>
      let s := d.sweep die n
      let d := d.visitRelease c die n v
      d.setSweep die n { d.sweep die n with next := s.next, extra := s.extra }
    | none => d
  ((d.setSwpState die n 3).shareRanges die n).raise c .SWP_RETIRED 1 die [(8, n)]

/-- A machine check of a Sweeper (R243, R247): it stops for a reload with its visit held; the second within 1 s
retires it. `datapath` false: its control store. -/
def Dev.swpMchk (d : Dev) (c : Clock) (die n : Nat) (datapath : Bool) : Dev :=
  let st := d.swpState die n
  if st == 2 || st == 3 then d
  else
    let s := d.sweep die n
    let d := d.swpCnt die 1
    let d := if d.flag F.SWP_MCHK_CAPTURE_valid die then d.bumpSat F.SWP_MCHK_CAPTURE_count die
      else ((((d.put F.SWP_MCHK_CAPTURE_valid die 1).put F.SWP_MCHK_CAPTURE_kind die (bit datapath)).put
        F.SWP_MCHK_CAPTURE_sweeper die n).put F.SWP_MCHK_CAPTURE_address die s.ctx.pc).put F.SWP_MCHK_CAPTURE_count die 1
    let d := (if datapath then d else d.ue 4 7 die n).raise c .SWP_MCHK 1 die [(8, n)]
    let again := s.mchkAt != 0 && c.phys + 1 - s.mchkAt < edgesS 1
    let d := d.setSweep die n { s with mchkAt := c.phys + 1, slots := Slots.none, calls := [] }
    if again then d.swpRetire c die n else d.setSwpState die n 2

/-- A reload ends: the Sweeper restarts from its last checkpoint (R241), or is retired (R247). -/
def Dev.swpReloaded (d : Dev) (c : Clock) (die n : Nat) (pass : Bool) : Dev :=
  if d.swpState die n != 2 || d.fld F.GLB_CORE_STATUS_in_service == 0 then d
  else if !pass then d.swpRetire c die n
  else
    let s := d.sweep die n
    let d := (d.setSweep die n { s with ctx := s.ckpt, slots := Slots.none, calls := [], lastOk := false }).swpCnt die 2
    ((d.setSwpState die n (if s.waiting.isSome then 4 else 0)).swpPc die n)

/-- A released record number (R469): its index and Hearth entries are invalidated, its record zeroed and read back;
`bad` retires it. -/
def Dev.quarFree (d : Dev) (c : Clock) (die n : Nat) (bad : Bool) : Dev :=
  let lost := (d.recChannels n).any (fun ch => d.flw.lost.num die ch != 0)
  let d := d.indexDrop die n
  let d := match d.resident die n with
    | some (b, s, w) =>
      let ws := ((d.entry b s w).map HEntry.waiters).getD []
      ws.foldl (fun (d : Dev) x => d.relookup c x) (d.dropEntry b s w)
    | none => d
  let d := match d.frec die n with
    | some r => ({ d with flw := { d.flw with recs := d.flw.recs.erase ⟨die, n, 0⟩ } }).releaseBinding c die r.img
    | none => d
  let d := { d with flw := { d.flw with quar := d.flw.quar.setNum ⟨die, n, 0⟩ (if bad then 3 else if lost then 5 else 0) } }
  ((if bad then d else d.freeRecord die n).recLive die).quarStatus die

/-- Numbers of records that had a chunk in a channel whose loss the scan has now passed. -/
def Dev.lostRecords (d : Dev) (die : Nat) : List Nat :=
  (d.flw.recs.cells.filter (fun x => x.1.a == die && d.flw.quar.num die x.1.b == 0 &&
    (d.recChannels x.1.b).any (fun ch => d.flw.lost.num die ch == 3))).map
    (fun x => x.1.b)

/-- A die completes a scan of every record (R175, R207, R212, R247, R469). `bad` names the released numbers whose
read-back is uncorrectable. -/
def Dev.scanEnd (d : Dev) (c : Clock) (die : Nat) (bad : List Nat) : Dev :=
  let open_ := (d.swpServing die).any (fun n =>
    let s := d.sweep die n
    s.visit.isSome || s.waiting.isSome || (d.nextRecord die s).isSome)
  if d.swp.scanning.num die == 0 || open_ then d
  else
    let whole := d.swp.abandoned.num die == 0
    let took := c.phys + 1 - d.swp.scanAt.num die
    let d := (d.bumpWrap F.SWP_SCAN_scans die F.SWP_CNT_WRAP_wrap die 0).put F.SWP_SCAN_last_ms die (took / edgesMs 1)
    let d := if (d.swpServing die).length < 22 then d.raise c .SWP_SCAN_SLOW 1 die else d
    let d := d.sweepEnd c die whole
    let held := fun (n : Nat) => d.flag F.FLW_QUAR_CTRL_hold die && d.flw.quar.num die n != 2
    let due := (d.flw.quar.cells.filter (fun x => x.1.a == die &&
      (x.2 == 2 || (x.2 == 4 && whole && !held x.1.b)))).map (fun x => x.1.b)
    let beyond := whole && !d.flag F.FLW_QUAR_CTRL_hold die
    let gone := if beyond then d.lostRecords die else []
    let back := fun (k : Key) => k.a == die && (d.recChannels k.b).all (fun ch => d.flw.lost.num die ch == 0 || d.flw.lost.num die ch == 3)
    let d := if beyond then
        { d with flw := { d.flw with lost := d.flw.lost.filter (fun k v => !(k.a == die && v == 3)),
                                     quar := d.flw.quar.filter (fun k v => !(v == 5 && back k)) } }
      else d
    let d := if whole then
        { d with rel := { d.rel with lostFree := d.rel.lostFree.set (fun _ => []) ⟨die, 1, 0⟩ [] } }
      else d
    let d := { d with swp := { d.swp with
      badBuckets := if whole then d.swp.badBuckets.filter (fun k v => !(k.a == die && v == 2)) else d.swp.badBuckets,
      scanning := d.swp.scanning.setNum ⟨die, 0, 0⟩ 0 } }
    ((due ++ gone).foldl (fun (d : Dev) n => d.quarFree c die n (bad.contains n)) d).quarStatus die

/-- FLW_QUAR_CTRL.release: a number is released at the end of the next scan (R469). -/
def Dev.quarRequest (d : Dev) (die n : Nat) : Dev :=
  let v := d.flw.quar.num die n
  let lost := v == 0 && (d.recChannels n).any (fun ch => d.flw.lost.num die ch == 1 || d.flw.lost.num die ch == 3)
  if v == 1 || v == 4 || lost then { d with flw := { d.flw with quar := d.flw.quar.setNum ⟨die, n, 0⟩ 2 } } else d

/-! ### The ALU rows of both kinds of processor -/

/-- An ALU slot of one operation executed on an engine or a Sweeper (R224). -/
def Dev.aluStep (d : Dev) (c : Clock) (p : Proc) (op : Nat) : Dev :=
  match p with
  | .engine inst e =>
    (match d.current c inst e with
    | some (r, w) =>
      if w.alu.op == op && !r.slots.aluDone then d.setRun inst e { r with slots := aluRun r.regs r.slots w.alu w.imm } else d
    | none => d)
  | .sweeper die n =>
    (match d.swpCurrent die n with
    | some (s, _, w) =>
      if w.alu.op == op && !s.slots.aluDone then
        d.setSweep die n { s with slots := aluRun s.ctx.regs s.slots w.alu w.imm }
      else d
    | none => d)

end Sys2Proof.Machine
end

