-- ==== Sys2Proof/Machine/Cycles.lean ====
section
/-! DEFINITION. The performance events that the spec counts per CLK_CORE cycle (R301), which the passing of time counts. -/
namespace Sys2Proof.Machine

/-- Whether an action engine's routine waits for a load or a unit (R227). -/
def Dev.stalled (d : Dev) (inst : Nat) (r : Run) : Bool :=
  match d.actWord inst r with
  | some w => !(r.slots.aluDone || r.slots.memDone || r.ready w)
  | none => false

/-- The occurrences of a cycle event of R301 in one CLK_CORE cycle of a die, among the instances of `mask`; `opc` filters
engine events by opcode. `none`: not such an event. -/
def Dev.cycleCount (d : Dev) (die sel mask : Nat) (opc : Option Nat) : Option Nat :=
  let pipes := (List.range 16).filter (bitOf mask)
  let sum := fun (f : Nat → Nat) => some ((pipes.map (fun i => f (16 * die + i))).sum)
  let one := fun (b : Bool) => if b then 1 else 0
  let runs := fun (p : Nat) => d.eng.runs.cells.filter (fun x =>
    x.2.pipe == p && (match opc with | some o => x.2.opcode == o | none => true))
  match sel with
  | 0x000 => some 1
  | 0x010 => sum (fun p => (List.range 12).countP (fun e => !((d.pipe p).queue e).isEmpty))
  | 0x011 => sum (fun p => one (32 ≤ d.fld F.PRS_REORDER_OCC_occupancy p))
  | 0x021 => sum (fun p => one (d.fld F.TCM_THERM_STATUS_state p == 1 || d.fld F.TCM_THERM_STATUS_state p == 2))
  | 0x034 => some (d.holdUse die)
  | 0x041 => sum (fun p => (runs p).length)
  | 0x042 => sum (fun p => (runs p).countP (fun x => d.stalled x.1.a x.2))
  | 0x071 => some ((List.range 3).countP (d.poolWarn die))
  | _ => none

/-- `n` CLK_CORE cycles pass: every performance counter of a cycle event counts them while run is 1 (R301, R302). -/
def Dev.prfCycles (d : Dev) (n : Nat) : Dev :=
  if !d.flag F.PRF_CTRL_run then d
  else
    (List.range 512).foldl (fun (e : Dev) ix =>
      let opc := if d.flag F.PRF_CNT_CFG_opc_en ix then some (d.fld F.PRF_CNT_CFG_opc ix) else none
      match d.cycleCount (ix / 256) (d.fld F.PRF_CNT_CFG_event ix) (d.fld F.PRF_CNT_CFG_inst_mask ix) opc with
      | none => e
      | some v =>
        if d.flag F.PRF_CNT_CFG_mode ix then (if d.fld F.PRF_CNT_CFG_thresh ix ≤ v then e.bump F.PRF_CNT_count ix n else e)
        else e.bump F.PRF_CNT_count ix (v * n)) d

end Sys2Proof.Machine
end

