-- ==== Sys2Proof/Machine/Time.lean ====
section
/-! DEFINITION. The time subsystem (13_time.md): steering, the timing pins, Peal time transfer, calibration and
the ledger. -/
namespace Sys2Proof.Machine

/-! ### Lane path delays (R360, R377, R378) -/

/-- Chiplet of a lane (R10). -/
def chipletOf (lane : Nat) : Nat := lane / 64

/-- One direction's path of a lane in picoseconds: fused constant, temperature term, board delay, half of the loop
errors found so far, and the frame's variable term (R360). -/
def Dev.rxPath (d : Dev) (lane : Nat) (var : Int) : Int :=
  Config.fusedRx lane + Config.tempCoefRx lane (d.tim.chipTemp.get (fun _ => 0) ⟨chipletOf lane, 0, 0⟩) +
  d.sfld F.TIM_LANE_CAL_board_rx lane + d.tim.loopAdj.get (fun _ => 0) ⟨lane, 0, 0⟩ + var

/-- The transmit path of a lane in picoseconds (R360). -/
def Dev.txPath (d : Dev) (lane : Nat) (var : Int) : Int :=
  Config.fusedTx lane + Config.tempCoefTx lane (d.tim.chipTemp.get (fun _ => 0) ⟨chipletOf lane, 0, 0⟩) +
  d.sfld F.TIM_LANE_CAL_board_tx lane + d.tim.loopAdj.get (fun _ => 0) ⟨lane, 0, 0⟩ + var

/-- Ingress stamp: capture − rx_path(lane) (R360). -/
def Dev.rxStamp (d : Dev) (c : Clock) (lane : Nat) (var : Int) : Stamp := c.stamp.addPs (-(d.rxPath lane var))

/-- Egress stamp: capture + tx_path(lane) (R360). -/
def Dev.txStamp (d : Dev) (c : Clock) (lane : Nat) (var : Int) : Stamp := c.stamp.addPs (d.txPath lane var)

/-! ### The ledger (R380, R381) -/

/-- The block of the records since the last close is signed and appended; with debug opened, unsigned (R381). -/
def Dev.closeBlock (d : Dev) (c : Clock) : Dev :=
  if d.tim.openRecs.isEmpty then d
  else
    let recs := d.tim.openRecs
    let seq := d.fld F.TIM_LEDGER_STATUS_blocks
    let prev := match d.tim.blocks.getLast? with
      | some b => sha512 (b.drop 128)
      | none => List.replicate 64 0
    let head := leBytes 8 0x313047444C4B5843 ++ (recs.head?.getD []).take 6 ++ leBytes 2 recs.length ++
      leBytes 4 seq ++ List.replicate 44 0 ++ prev
    let opened := d.flag F.SEC_STATUS_debug_opened
    let sig := if opened then List.replicate 512 0 else Config.identitySign (recs.flatten ++ head)
    let blocks := d.tim.blocks ++ [head ++ sig]
    let d := { d with tim := { d.tim with blocks := blocks.drop (blocks.length - 1440), openRecs := [] } }
    let d := d.bump F.TIM_LEDGER_STATUS_blocks 0
    if opened then d else d.raise c .TIM_LEDGER_SIGNED 0 0

/-- Whether some lane of the ledger's source port has timing_valid = 0 (R380, byte 10 bit 5). -/
def Dev.sourceUntimed (d : Dev) (info : LedgerInfo) : Bool :=
  info.source.val == 1 &&
  (List.range (2 ^ d.fld F.MAC_PORT_CFG_lanes info.sourceIdx)).any
    (fun i => !d.flag F.TIM_LANE_CAL_STATUS_timing_valid (info.sourceIdx + i))

/-- The 64 bytes of the record of the second that ends (R380). -/
def Dev.ledgerRecord (d : Dev) (info : LedgerInfo) : List Byte :=
  let host := d.flag F.TIM_CTRL_servo_host
  let lost := d.flag F.CLK_REF_STATUS_lost
  let silent := host && !d.tim.hostLedger
  let state := if lost then 3 else if silent then 4 else if host then d.fld F.TIM_LEDGER_HOST_state
    else d.tim.servo.code
  let source := if host then d.fld F.TIM_LEDGER_HOST_source else info.source.val
  let idx := if host then d.fld F.TIM_LEDGER_HOST_source_idx else info.sourceIdx.val
  let off : Nat := if host then unsigned 64 (d.sfld F.TIM_LEDGER_HOST_offset * 256) else info.meanOffset.toNat
  let flags := bit d.tim.steppedIn + 2 * bit lost + 4 * bit host + 8 * bit d.tim.calChangedIn +
    16 * bit (d.flag F.SEC_STATUS_debug_opened) + 32 * bit (d.sourceUntimed info)
  leBytes 6 d.tim.ledgerSec ++ leBytes 1 state ++ leBytes 1 source ++ leBytes 2 idx ++ leBytes 1 flags ++
    leBytes 1 (min info.stepsRemoved 255) ++ leBytes 8 info.grandmaster.toNat ++
    leBytes 1 info.clockClass.toNat ++ leBytes 1 info.clockAccuracy.toNat ++ leBytes 2 0 ++ leBytes 8 off ++
    leBytes 5 (d.fld F.TIM_FREQ_adj) ++ leBytes 3 0 ++ leBytes 8 (unsigned 64 d.tim.stepSum) ++
    leBytes 4 info.meanDelay.toNat ++ leBytes 4 d.tim.calEpoch ++ leBytes 1 info.chipTemp.toNat ++ leBytes 7 0

/-- A ledger record appended; every 60 records the block closes (R380, R381). -/
def Dev.ledgerAppend (d : Dev) (c : Clock) (info : LedgerInfo) : Dev :=
  let r := d.ledgerRecord info
  let ledger := d.tim.ledger ++ [r]
  let d := { d with tim := { d.tim with
    ledger := ledger.drop (ledger.length - 86400), openRecs := d.tim.openRecs ++ [r], ledgerSec := c.sec,
    steppedIn := false, stepSum := 0, calChangedIn := false, hostLedger := false } }
  let d := d.bump F.TIM_LEDGER_STATUS_records 0
  if 60 ≤ d.tim.openRecs.length then d.closeBlock c else d

/-! ### Steps, sets and slews (R370, R371) -/

/-- What follows a step or set of `s` units of 2^-16 ns, on the clock after it: the slew's remainder is gone, the
consumers of R371 see the new time, the event is raised and counted. -/
def Dev.stepped (d : Dev) (c : Clock) (s : Int) : Dev :=
  let d := d.put F.TIM_ADJ_STATUS_remaining 0 0
  let d := { d with tim := { d.tim with
    stepEpoch := d.tim.stepEpoch + 1, steppedIn := true, stepSum := d.tim.stepSum + s } }
  let d := (d.gatesRecompute c).windowsRestart c
  ((d.bump F.TIM_CNT_count 5).closeBlock c).raise c .TIM_STEP 0 0

/-- A step: TIM_STEP.amount added to the clock at one edge (R370). -/
def stepClock (s : State) : State :=
  let amount := s.dev.sfld F.TIM_STEP_amount
  let c := { s.clk with slew := none }.add (amount * 2 ^ 32)
  { s with clk := c, dev := s.dev.stepped c amount }

/-- The time TIM_SET_LO and TIM_SET_HI spell, nanoseconds of 10^9 or more taken as 999,999,999 (R370, R383). -/
def Dev.setTime (d : Dev) : Stamp :=
  let lo := d.fld F.TIM_SET_LO_time
  let hi := d.fld F.TIM_SET_HI_time
  ⟨bitsOf lo 48 16 + bitsOf hi 0 32 * 2 ^ 16, min (bitsOf lo 16 32) 999999999, bitsOf lo 0 16⟩

/-- A set: the clock loaded, the fraction below 2^-16 ns cleared (R370). -/
def setClock (s : State) : State :=
  let t := s.dev.setTime
  let old := s.clk.stamp.units
  let c := { s.clk with sec := t.sec % 2 ^ 48, ns := t.ns, frac := t.frac * 2 ^ 32, slew := none }
  { s with clk := c, dev := s.dev.stepped c ((t.units : Int) - old) }

/-- A slew starts (R370): refused as busy while one is in progress. -/
def slewStart (s : State) : State :=
  match s.clk.slew with
  | some _ => { s with dev := s.dev.triggerBusy s.clk .TIM_ADJ_CTRL }
  | none =>
    let rate := min (max (s.dev.fld F.TIM_SLEW_rate_ppm) 1) 1000
    let w : Slew := ⟨rate, s.dev.sfld F.TIM_SLEW_amount * 2 ^ 32, 0⟩
    { s with clk := { s.clk with slew := some w }, dev := s.dev.bump F.TIM_CNT_count 6 }

/-- A slew stops at once; its remainder stays readable (R370). -/
def slewStop (s : State) : State :=
  match s.clk.slew with
  | none => s
  | some w =>
    { s with clk := { s.clk with slew := none },
             dev := s.dev.put F.TIM_ADJ_STATUS_remaining 0 (unsigned 48 w.remaining) }

/-- One CLK_TIME edge (R355): the clock advances; a slew that ends at this edge raises EV_TIM_SLEW_DONE. -/
def tickClock (s : State) : State :=
  let (c, fin) := s.clk.tick (s.dev.sfld F.TIM_FREQ_adj)
  let d := if fin then (s.dev.put F.TIM_ADJ_STATUS_remaining 0 0).raise c .TIM_SLEW_DONE 0 0 else s.dev
  { s with clk := c, dev := d }

/-- Whether the next tick ends the slew in progress. -/
def Clock.slewDue (c : Clock) : Bool :=
  match c.slew with
  | none => false
  | some w => w.tick.2.2

/-! ### The compatibility queue (R368) -/

/-- An entry enters the compatibility queue at its egress capture point, or is lost when 64 are waiting. -/
def Dev.txqPush (d : Dev) (c : Clock) (e : TxqEntry) : Dev :=
  if d.tim.txq.length < 64 then { d with tim := { d.tim with txq := d.tim.txq ++ [e] } }
  else
    let first := !d.flag F.TIM_TXQ_STATUS_overflow
    let d := (d.put F.TIM_TXQ_STATUS_overflow 0 1).bump F.TIM_CNT_count 4
    if first then d.raise c .TIM_TXQ_OVERFLOW 0 0 else d

/-- The head of the compatibility queue removed; a pop of an empty queue is ignored. -/
def Dev.txqPop (d : Dev) : Dev := { d with tim := { d.tim with txq := d.tim.txq.drop 1 } }

/-! ### Pins (R374) -/

/-- A rising PPS_IN edge is stamped, less in_delay, while in_en is 1; it is the servo's third choice of source
(R373). -/
def Dev.ppsEdge (d : Dev) (c : Clock) : Dev :=
  if !d.flag F.TIM_PPS_CFG_in_en then d
  else
    let s := c.stamp.addPs (-(d.sfld F.TIM_PPS_CFG_in_delay))
    let d := ((d.put F.TIM_PPS_IN_LO_time 0 s.lo).put F.TIM_PPS_IN_HI_seconds_hi 0 s.hi).put
      F.TIM_PPS_IN_HI_valid 0 1
    let d := d.bump F.TIM_CNT_count 9
    let pick := !d.flag F.TIM_CTRL_servo_host && (d.tim.source == 0 || d.tim.source == 2) &&
      (d.tim.servo == .freeRun || d.tim.servo == .holdover)
    { d with tim := { d.tim with
      ppsInAt := c.phys, ppsInLost := false,
      servo := if pick then .acquiring else d.tim.servo, source := if pick then 2 else d.tim.source } }

/-- PPS_IN has had no edge for 1.5 s while in_en is 1 (R374). -/
def Dev.ppsLost (d : Dev) (c : Clock) : Dev :=
  if d.flag F.TIM_PPS_CFG_in_en && !d.tim.ppsInLost && edgesMs 1500 ≤ c.phys - d.tim.ppsInAt then
    ({ d with tim := { d.tim with ppsInLost := true } }).raise c .TIM_PPS_IN_LOST 0 0
  else d

/-- The whole second PPS_OUT belongs to: local time less out_offset, in seconds (R374). -/
def Dev.ppsSecond (d : Dev) (c : Clock) : Nat :=
  (Stamp.ofUnits ((c.stamp.units : Int) - d.sfld F.TIM_PPS_CFG_out_offset * 256)).sec

/-- PPS_OUT rises when local time reaches a whole second plus out_offset. -/
def Dev.ppsRise (d : Dev) (c : Clock) : Dev :=
  if d.flag F.TIM_PPS_CFG_out_en && !d.tim.ppsOut && d.ppsSecond c != d.tim.ppsOutSec then
    ({ d with tim := { d.tim with ppsOut := true, ppsOutAt := c.phys, ppsOutSec := d.ppsSecond c } }).emit
      (.pin .ppsOut true)
  else d

/-- PPS_OUT falls out_width µs after it rose (0 acts as 1, at most 1,000). -/
def Dev.ppsFall (d : Dev) (c : Clock) : Dev :=
  let width := min (max (d.fld F.TIM_PPS_CFG_out_width) 1) 1000
  if d.tim.ppsOut && edgesUs width ≤ c.phys - d.tim.ppsOutAt then
    ({ d with tim := { d.tim with ppsOut := false } }).emit (.pin .ppsOut false)
  else d

/-! ### The servo and Peal time transfer (R373, R376) -/

/-- The firmware servo enters holdover from acquiring or locked. -/
def Dev.servoHoldover (d : Dev) : Dev :=
  if !d.flag F.TIM_CTRL_servo_host && (d.tim.servo == .acquiring || d.tim.servo == .locked) then
    { d with tim := { d.tim with servo := .holdover } }
  else d

/-- The firmware servo locks after 16 s within 10 ns (R373). -/
def Dev.servoLocked (d : Dev) : Dev :=
  if !d.flag F.TIM_CTRL_servo_host && d.tim.servo == .acquiring then { d with tim := { d.tim with servo := .locked } } else d

/-- The lane group a follower uses: the lowest-numbered group in state 4 or 5 whose peer_pos is source_pos
(R376). -/
def Dev.followGroup (d : Dev) : Option Nat :=
  (List.range 64).find? (fun g =>
    (d.fld F.PEL_LINK_STATUS_state g == 4 || d.fld F.PEL_LINK_STATUS_state g == 5) &&
    d.fld F.PEL_GROUP_CFG_peer_pos g == d.fld F.TIM_PEAL_CFG_source_pos)

/-- Header of a channel 4 message (R376). -/
def timeHeader (type seq sender : Nat) : Nat := type + seq % 65536 * 2 ^ 4 + sender * 2 ^ 20

/-- The lane a group's cells travel on: its first lane. -/
def groupLane (g : Nat) : Nat := 8 * g

/-- A follower sends a REQUEST, keeping its departure stamp t1. -/
def Dev.timeRequest (d : Dev) (c : Clock) : Dev :=
  if !d.flag F.TIM_PEAL_CFG_follow then d
  else match d.followGroup with
    | none => d
    | some g =>
      let seq := d.tim.pealSeq
      let t1 := d.txStamp c (groupLane g) 0
      let d := { d with tim := { d.tim with pealSeq := (seq + 1) % 65536, pealReq := some (seq, t1) } }
      d.pealSend c g ⟨4, timeHeader 0 seq d.boardPos, [], 0⟩

/-- A source answers a REQUEST with its arrival stamp t2 and its own departure stamp t3. -/
def Dev.timeAnswer (d : Dev) (c : Clock) (g seq : Nat) : Dev :=
  let t2 := d.rxStamp c (groupLane g) 0
  let t3 := d.txStamp c (groupLane g) 0
  d.pealSend c g ⟨4, timeHeader 1 seq d.boardPos, t2.bytes ++ t3.bytes, 0⟩

/-- A RESPONSE gives the offset ((t2 − t1) − (t4 − t3)) ÷ 2 less asym, or is discarded and counted on a sequence
mismatch; a completed exchange ends a Peal holdover (R376). -/
def Dev.timeResponse (d : Dev) (c : Clock) (g seq : Nat) (t2 t3 : Stamp) : Dev :=
  match d.tim.pealReq with
  | some (q, t1) =>
    if q != seq then d.bump F.TIM_CNT_count 8
    else
      let t4 := d.rxStamp c (groupLane g) 0
      let off := (((t2.units : Int) - t1.units) - ((t4.units : Int) - t3.units)) / 2 -
        d.sfld F.TIM_PEAL_CFG_asym * 256
      let enter := !d.flag F.TIM_CTRL_servo_host && (d.tim.servo == .freeRun || d.tim.servo == .holdover)
      let d := d.bump F.TIM_CNT_count 7
      { d with tim := { d.tim with
        pealReq := none, pealDoneAt := c.phys, pealLost := false, pealOffset := off,
        servo := if enter then .acquiring else d.tim.servo, source := 3,
        sourceIdx := d.fld F.TIM_PEAL_CFG_source_pos } }
  | none => d.bump F.TIM_CNT_count 8

/-- No exchange has completed for 10 ms: the follower goes to holdover (R376). -/
def Dev.pealTimeLost (d : Dev) (c : Clock) : Dev :=
  if d.flag F.TIM_PEAL_CFG_follow && !d.tim.pealLost && edgesMs 10 ≤ c.phys - d.tim.pealDoneAt then
    (({ d with tim := { d.tim with pealLost := true } }).servoHoldover).raise c .TIM_PEAL_LOST 0 0
  else d

/-! ### Calibration (R378) -/

/-- The loop-back comparison at the end of a training or recalibration: `err` picoseconds is the measured round
trip less the fused prediction. -/
def Dev.calCheck (d : Dev) (c : Clock) (lane : Nat) (err : Int) (temp : Nat) : Dev :=
  let d := ((d.put F.TIM_LANE_CAL_STATUS_loop_err lane (unsigned 16 err)).put F.TIM_LANE_CAL_STATUS_temp lane
    temp).put F.TIM_LANE_CAL_STATUS_checked lane 1
  if err.natAbs ≤ 20 then d
  else if err.natAbs ≤ 100 then
    let k : Key := ⟨lane, 0, 0⟩
    let adj := d.tim.loopAdj.get (fun _ => 0) k + err / 2
    let d := { d with tim := { d.tim with
      loopAdj := d.tim.loopAdj.set (fun _ => 0) k adj, calEpoch := d.tim.calEpoch + 1, calChangedIn := true } }
    (d.bump F.TIM_CNT_count 10).raise c .TIM_CAL_CHANGED 4 lane
  else (d.put F.TIM_LANE_CAL_STATUS_timing_valid lane 0).raise c .TIM_CAL_FAULT 4 lane

end Sys2Proof.Machine
end

