-- ==== Sys2Proof/Machine/Lane.lean ====
section
/-! DEFINITION. Lanes: recalibration, failure, spares, retraining (R111–R116). -/
namespace Sys2Proof.Machine

/-- State code of a lane (LANE_STATUS.state). -/
def Dev.laneState (d : Dev) (n : Nat) : Nat := d.fld F.LANE_STATUS_state n

/-- RCLK_OUT squelch follows its lane (R374): squelched unless enabled with the lane up; each change is evented. -/
def Dev.rclkEval (d : Dev) (c : Clock) : Dev :=
  [0, 1].foldl (fun d k =>
    let sq := !(d.flag F.TIM_RCLK_CFG_enable k && d.laneState (d.fld F.TIM_RCLK_CFG_lane k) == 2)
    if sq == d.flag F.TIM_RCLK_CFG_squelched k then d
    else
      let d := d.putB F.TIM_RCLK_CFG_squelched k sq
      (d.emit (.pin (if k == 0 then .rclkOut0 else .rclkOut1) (!sq))).raise c .TIM_RCLK_SQUELCH 10 k) d

/-- Whether a lane is of a Peal-mode group. -/
def Dev.pealLane (d : Dev) (n : Nat) : Bool := d.flag F.PEL_GROUP_CFG_peal_en (n / 8)

/-- The link of a port that owns a lane re-evaluated, with its present Remote Fault. -/
def Dev.lanePort (d : Dev) (c : Clock) (n : Nat) : Dev :=
  match d.portOfLane n with
  | none => d
  | some p => d.linkEval c p (d.flag F.MAC_PORT_STATUS_remote_fault p)

/-- LANE_CTRL.recal (R112): ignored in boot mode, failed or recalibrating. -/
def Dev.laneRecal (d : Dev) (c : Clock) (n : Nat) : Dev :=
  let s := d.laneState n
  if s == 3 || s == 4 || s == 6 then d.triggerBusy c .LANE_CTRL
  else
    let d := (d.setLane n { d.lane n with recalFrom := s }).put F.LANE_STATUS_state n 3
    let d := if d.pealLane n then (d.laneOut c (n / 8) (n % 8)).1 else d.lanePort c n
    d.rclkEval c

/-- A recalibration completes (R112, R378): `err` picoseconds of loop-back difference, `temp` the chiplet reading. -/
def Dev.recalDone (d : Dev) (c : Clock) (n : Nat) (err : Int) (temp : Nat) : Dev :=
  if d.laneState n != 3 then d
  else
    let was := (d.lane n).recalFrom
    let d := (d.put F.LANE_STATUS_state n was).bumpWrap F.LANE_STATUS_recal_count n F.LANE_CNT_WRAP_wrap n 0
    let d := d.calCheck c n err temp
    let d := if d.pealLane n then (if was == 2 then d.laneIn c (n / 8) (n % 8) else d) else d.lanePort c n
    (d.raise c .LANE_RECAL_DONE 4 n).rclkEval c

/-- A lane fails (R113–R115). `cause`: 0 signal absent, 1 PLL lock lost, 2 FEC alignment lost, 3 degrade. -/
def Dev.laneFail (d : Dev) (c : Clock) (n cause : Nat) : Dev :=
  let s := d.laneState n
  if s == 0 || s == 4 || s == 5 then d
  else
    let d := match cause with
      | 0 => d.put F.LANE_STATUS_rx_signal n 0
      | 1 => d.put F.LANE_STATUS_pll_lock n 0
      | 2 => d.put F.LANE_STATUS_fec_lock n 0
      | _ => d
    let d := d.setLane n { d.lane n with failedAt := c.phys, badWindows := 0 }
    let d := (d.put F.LANE_STATUS_state n 4).raise c .LANE_FAILED 4 n
    let g := n / 8
    let d := if d.pealLane n then
        let d := d.put F.PEL_LINK_STATUS_failed g (putBit (d.fld F.PEL_LINK_STATUS_failed g) (n % 8) true)
        if d.linkUp g then
          let (d, spare) := d.laneOut c g (n % 8)
          let d := if spare then d.raise c .PEL_SPARE_IN 4 n else d
          if d.linkState g == 0 then d.linkDown c g else d
        else d
      else d.lanePort c n
    d.rclkEval c

/-- The end of a 1 ms window (R113): corrected and uncorrectable codewords and corrected symbols counted. -/
def Dev.fecWindow (d : Dev) (c : Clock) (n corr uncorr symbols : Nat) : Dev :=
  let d := ((d.bump F.LANE_FEC_CNT_count (3 * n) corr).bump F.LANE_FEC_CNT_count (3 * n + 1) uncorr).bump
    F.LANE_FEC_CNT_count (3 * n + 2) symbols
  if symbols ≤ d.fld F.LANE_DEGRADE_CTRL_symbols n then d.setLane n { d.lane n with badWindows := 0 }
  else
    let bad := (d.lane n).badWindows + 1
    let d := (d.setLane n { d.lane n with badWindows := bad }).raise c .LANE_FEC_DEGRADE 4 n
    let limit := d.fld F.LANE_DEGRADE_CTRL_fail_windows n
    if limit != 0 && limit ≤ bad then d.laneFail c n 3 else d

/-- A lane trained: it is up; an Ethernet port's link follows, a Peal lane joins its link, and a link whose lanes are
all trained goes on through aligning to keying (R74, R108, R116). -/
def Dev.laneUp (d : Dev) (c : Clock) (n : Nat) : Dev :=
  let d := (((d.put F.LANE_STATUS_state n 2).put F.LANE_STATUS_rx_signal n 1).put F.LANE_STATUS_pll_lock n 1).put
    F.LANE_STATUS_fec_lock n 1
  let g := n / 8
  let d := if d.pealLane n then
      if d.linkUp g then d.laneIn c g (n % 8)
      else
        let d := d.put F.PEL_LINK_STATUS_failed g (putBit (d.fld F.PEL_LINK_STATUS_failed g) (n % 8) false)
        let want := maskLanes (d.fld F.PEL_GROUP_CFG_lane_mask g)
        let ready := want.all (fun i => d.laneState (8 * g + i) == 2 || d.laneState (8 * g + i) == 4) &&
          !d.pealCfgInvalid g && !d.net.keysDead
        if ready && (d.linkState g == 0 || d.linkState g == 1) then
          let mask := (want.filter (fun i => d.laneState (8 * g + i) == 2)).foldl (fun m i => putBit m i true) 0
          (d.put F.PEL_LINK_STATUS_lanes_up g mask).toKeying c g
        else d
    else d.lanePort c n
  d.rclkEval c

/-- A failed lane retries training every 1,000 ms (R114, R116); `trained` says whether it trains now. -/
def Dev.laneRetry (d : Dev) (c : Clock) (n : Nat) (trained : Bool) : Dev :=
  let wanted := d.pealLane n || (match d.portOfLane n with
    | some p => d.flag F.MAC_PORT_CFG_enable p
    | none => false)
  if d.laneState n != 4 || !wanted || c.phys - (d.lane n).failedAt < edgesMs 1000 then d
  else if trained then d.laneUp c n
  else d.setLane n { d.lane n with failedAt := c.phys }

/-- A change of alignment or of received Remote Fault (R98). `aligned` false: some lane of the port lost alignment. -/
def Dev.linkChange (d : Dev) (c : Clock) (p : Nat) (remoteFault aligned : Bool) : Dev :=
  if !d.net.configured.contains p then d
  else
    let lanes := (List.range (d.portLanes p)).map (fun i => p + i)
    let d := if aligned then d
      else lanes.foldl (fun d n => if d.laneState n == 2 then d.put F.LANE_STATUS_fec_lock n 0 else d) d
    let d := if aligned then d else lanes.foldl (fun d n => if d.laneState n == 2 then d.put F.LANE_STATUS_state n 1 else d) d
    (d.linkEval c p remoteFault).rclkEval c

end Sys2Proof.Machine
end

