-- ==== Sys2Proof/Machine/Lbl.lean ====
section
/-! DEFINITION. Load-balancer tables, slot rebuilds and health probes (R268, R270, R272). -/
namespace Sys2Proof.Machine

/-! ### The service and backend tables (R268, R511) -/

/-- Entries of a table written through WRITE_AT. -/
def writeAtSize (t : TableId) : Nat := if t == .LBL_SVC_TBL then 16384 else 1048576

/-- The four words of CLS_TBL_DATA, [31:0] of word 3 of a backend without its conns. -/
def Dev.writeWords (d : Dev) : List Nat := (List.range 4).map (fun w => leAt d.tblData (8 * w) 8)

/-- WRITE_AT of a service or backend entry: a live backend keeps its address, port and service; conns is not
written. -/
def Dev.lblWrite (d : Dev) (t : TableId) (index : Nat) : Dev :=
  let ws := d.writeWords
  let w := fun i => ws.getD i 0
  let put := fun (d : Dev) (vs : List Nat) =>
    vs.zipIdx.foldl (fun (d : Dev) v => d.setTw t 0 index v.2 v.1) d
  if writeAtSize t ≤ index then d.tblStatus 6
  else if t == .LBL_SVC_TBL then (put d ws).tblStatus 0 index
  else
    let moved := w 0 != d.tw t 0 index 0 || w 1 != d.tw t 0 index 1 ||
      bitsOf (w 2) 0 16 != d.backend index 2 0 16 || bitsOf (w 2) 48 14 != d.backend index 2 48 14
    if moved && d.conns index != 0 then d.tblStatus 5
    else (put d [w 0, w 1, w 2, w 3 % 2 ^ 32 + d.conns index * 2 ^ 32]).tblStatus 0 index

/-- READ of a service or backend entry. -/
def Dev.lblRead (d : Dev) (t : TableId) (index : Nat) : Dev :=
  if writeAtSize t ≤ index then d.tblStatus 6
  else (d.setTblData ((List.range 4).map (fun w => leBytes 8 (d.tw t 0 index w))).flatten).tblStatus 0 index

/-- Operation WRITE_AT. -/
def Dev.tblWriteAt (d : Dev) (c : Clock) (t : TableId) (index : Nat) : Dev :=
  let d := d.tblCmd t index
  if t == .TCAM then d.tcamWriteAt c index
  else if t == .LBL_SVC_TBL || t == .LBL_BACKEND_TBL then d.lblWrite t index
  else d.tblStatus 8

/-- Operation READ. -/
def Dev.tblRead (d : Dev) (t : TableId) (index : Nat) : Dev :=
  let d := d.tblCmd t index
  if t == .TCAM then d.tcamRead index
  else if t == .CLS_RULE_TBL then d.readRule index
  else if versioned t then d.readEntry t index
  else if t == .LBL_SVC_TBL || t == .LBL_BACKEND_TBL then d.lblRead t index
  else d.tblStatus 8

/-! ### Rebuild (R270) -/

/-- Indices of the backends with anything written. -/
def Dev.backendsAll (d : Dev) : List Nat :=
  (d.tbls.cells.filter (fun x => x.1.a == TableId.LBL_BACKEND_TBL.num && x.1.c % 64 == 2)).map (fun x => x.1.c / 64)

/-- The set of a rebuild: (backend, weight), ascending. -/
def Dev.rebuildSet (d : Dev) (s : Nat) : List (Nat × Nat) :=
  (d.backendsAll.filter (fun b => d.backend b 2 48 14 == s && d.backend b 2 47 1 == 1 && d.backend b 2 44 2 < 2 &&
    d.backend b 2 16 16 != 0)).map (fun b => (b, d.backend b 2 16 16))

/-- Targets of M slots over a set: the floor of each share, then one more each in ascending order. -/
def targets (m : Nat) (set : List (Nat × Nat)) : List (Nat × Nat) :=
  let w := set.foldl (fun n x => n + x.2) 0
  let base := set.map (fun x => (x.1, m * x.2 / w))
  let left := m - base.foldl (fun n x => n + x.2) 0
  base.zipIdx.map (fun x => (x.1.1, x.1.2 + bit (decide (x.2 < left))))

/-- A backend takes one of its remaining slots. -/
def takeSlotOf (b : Nat) : List (Nat × Nat) → Option (List (Nat × Nat))
  | [] => none
  | (x, n) :: t =>
    if x == b then (if n == 0 then none else some ((x, n - 1) :: t)) else (takeSlotOf b t).map (fun t => (x, n) :: t)

/-- Pass 1: slots copied while their backend is below its target, the others free. -/
def keepSlots (old : List (Option Nat)) (left : List (Nat × Nat)) : List (Option Nat) × List (Nat × Nat) :=
  old.foldl (fun (acc : List (Option Nat) × List (Nat × Nat)) o =>
    match o.bind (fun b => takeSlotOf b acc.2) with
    | some left => (acc.1 ++ [o], left)
    | none => (acc.1 ++ [none], acc.2)) ([], left)

/-- Pass 2: free slots filled in ascending order. -/
def fillSlots : List (Option Nat) → List Nat → List (Option Nat)
  | [], _ => []
  | some b :: t, fill => some b :: fillSlots t fill
  | none :: t, b :: fill => some b :: fillSlots t fill
  | none :: t, [] => none :: fillSlots t []

/-- LBL_SVC_CMD.go (R270). -/
def Dev.rebuildGo (d : Dev) (c : Clock) (s : Nat) : Dev :=
  if d.flag F.LBL_SVC_CMD_busy then d.triggerBusy c .LBL_SVC_CMD
  else
    let d := (d.put F.LBL_SVC_CMD_service 0 s).putB F.LBL_SVC_CMD_busy 0 true
    { d with nat := { d.nat with rebuild := some s } }

/-- A rebuild ends: the inactive bank is written and active flips (R270). -/
def Dev.rebuildDone (d : Dev) (c : Clock) : Dev :=
  match d.nat.rebuild with
  | none => d
  | some s =>
    let m := d.svcSlots s
    let bank := d.svc s 2 30 1
    let old := (List.range m).map (fun j => d.slotAt s bank j)
    let (kept, left) := keepSlots old (targets m (d.rebuildSet s))
    let new := fillSlots kept (left.flatMap (fun x => List.replicate x.2 x.1))
    let at_ := d.svc s 2 32 22 + (1 - bank) * m
    let d := new.zipIdx.foldl (fun (d : Dev) x =>
      d.setTw .LBL_SLOT_TBL 0 (at_ + x.2) 0 (match x.1 with | some b => b + 2 ^ 31 | none => 0)) d
    let d := d.setTw .LBL_SVC_TBL 0 s 2 (putBits (d.tw .LBL_SVC_TBL 0 s 2) 30 1 (1 - bank))
    let d := d.putB F.LBL_SVC_CMD_busy 0 false
    { d with nat := { d.nat with rebuild := none } }.raise c .LBL_REBUILD_DONE 10 s [(14, s)]

/-! ### Health probes (R272) -/

/-- Probe kind of a backend's service: 0 none, 1 ICMP echo, 2 TCP SYN. -/
def Dev.probeKind (d : Dev) (b : Nat) : Nat :=
  let s := d.svcOf b
  let k := d.svc s 3 25 2
  if d.flag F.LBL_CTRL_health_host || d.backend b 2 47 1 == 0 || d.svc s 2 31 1 == 0 || k == 3 then 0 else k

/-- Probe interval of a backend in ms. -/
def Dev.probeMs (d : Dev) (b : Nat) : Nat := max 10 (d.svc (d.svcOf b) 3 35 16)

/-- Probes asked for per 10^6 seconds. -/
def Dev.probeRate (d : Dev) : Nat :=
  (d.backendsAll.filter (fun b => d.probeKind b != 0)).foldl (fun n b => n + 1000000000 / d.probeMs b) 0

/-- Interval between a backend's probes in CLK_TIME edges, stretched in proportion above 1,000,000 probes/s. -/
def Dev.probeEdges (d : Dev) (b : Nat) : Nat := edgesMs (d.probeMs b) * max d.probeRate (10 ^ 12) / 10 ^ 12

def Dev.probe (d : Dev) (b : Nat) : Probe := d.nat.probes.get (fun _ => ⟨0, 0, 0, false⟩) ⟨b, 0, 0⟩

def Dev.setProbe (d : Dev) (b : Nat) (p : Probe) : Dev :=
  { d with nat := { d.nat with probes := d.nat.probes.set (fun _ => ⟨0, 0, 0, false⟩) ⟨b, 0, 0⟩ p } }

/-- A frame of a probe sent to a backend: `kind` as in `Out.probe`. -/
def Dev.probeOut (d : Dev) (b kind : Nat) : Dev :=
  let s := d.svcOf b
  let own := d.backend b 2 0 16
  d.emit (.probe (d.svc s 3 51 10) (d.tw .LBL_BACKEND_TBL 0 b 0 + d.tw .LBL_BACKEND_TBL 0 b 1 * 2 ^ 64)
    (if own == 0 then d.svc s 2 0 16 else own) kind)

/-- A backend's interval has passed, and firmware probes it. -/
def Dev.probeSend (d : Dev) (c : Clock) (b : Nat) : Dev :=
  let p := d.probe b
  let k := d.probeKind b
  let due := p.sentAt == 0 || d.probeEdges b ≤ c.phys + 1 - p.sentAt
  if k == 0 || p.open_ || !due then d
  else
    let d := if 10 ^ 12 < d.probeRate then d.raiseLim c .LBL_PROBE_OVERLOAD 0 0 [] 1000 else d
    ((d.setProbe b { p with sentAt := c.phys + 1, open_ := true }).lblCnt 0 5).probeOut b k

/-- The time within which a reply counts: the lower of the interval and 1,000 ms. -/
def Dev.probeLimit (d : Dev) (b : Nat) : Nat := edgesMs (min (d.probeMs b) 1000)

/-- The health of a backend set, with its event. -/
def Dev.setHealth (d : Dev) (c : Clock) (b : Nat) (up : Bool) : Dev :=
  if (d.backend b 2 46 1 == 1) == up then d
  else
    let d := d.setTw .LBL_BACKEND_TBL 0 b 2 (putBit (d.tw .LBL_BACKEND_TBL 0 b 2) 46 up)
    (d.lblCnt 0 7).raise c (if up then .LBL_BACKEND_UP else .LBL_BACKEND_DOWN) 10 b [(20, b)]

/-- A reply to a probe in time; a SYN-ACK is answered with RST. -/
def Dev.probeReply (d : Dev) (c : Clock) (b : Nat) : Dev :=
  let p := d.probe b
  if !p.open_ || d.probeLimit b ≤ c.phys + 1 - p.sentAt then d
  else
    let p := { p with goods := p.goods + 1, fails := 0, open_ := false }
    let d := d.setProbe b p
    let d := if d.probeKind b == 2 then d.probeOut b 3 else d
    if max 1 (d.svc (d.svcOf b) 3 31 4) ≤ p.goods then d.setHealth c b true else d

/-- A probe without a reply in time fails. -/
def Dev.probeTimeout (d : Dev) (c : Clock) (b : Nat) : Dev :=
  let p := d.probe b
  if !p.open_ || c.phys + 1 - p.sentAt < d.probeLimit b then d
  else
    let p := { p with fails := p.fails + 1, goods := 0, open_ := false }
    let d := (d.setProbe b p).lblCnt 0 6
    if max 1 (d.svc (d.svcOf b) 3 27 4) ≤ p.fails then d.setHealth c b false else d

end Sys2Proof.Machine
end

