-- ==== Sys2Proof/Machine/Repair.lean ====
section
/-! DEFINITION. Machine checks of action engines, engine and cluster repair (R243–R246). -/
namespace Sys2Proof.Machine

/-- Spares of a die: instance numbers (R216). -/
def spareInst (die s : Nat) : Nat := 16 * die * 8 + 6 + s

/-- Pipeline and cluster field of an instance: clusters 0–5 of a pipeline, 6 and 7 the spares of the die. -/
def instPipe (inst : Nat) : Nat := inst / 8
def instDie (inst : Nat) : Nat := inst / 128
def isSpare (inst : Nat) : Bool := decide (6 ≤ inst % 8)

/-- State of a spare, ENG_SPARE_STATUS. -/
def Dev.spareState (d : Dev) (die s : Nat) : Nat := d.fld F.ENG_SPARE_STATUS_state (2 * die + s)

def Dev.setSpareState (d : Dev) (die s st : Nat) : Dev := d.put F.ENG_SPARE_STATUS_state (2 * die + s) st

/-- The standby spare of a die with the lowest number. -/
def Dev.standby (d : Dev) (die : Nat) : Option Nat := (List.range 2).find? (fun s => d.spareState die s == 2)

/-- A spare takes the place of a cluster (R245 item 2, R250 item 4). -/
def Dev.standIn (d : Dev) (p k s : Nat) : Dev :=
  let die := p / 16
  let ix := 6 * p + k
  let d := (d.setSpareState die s 3).put F.ENG_SPARE_STATUS_pipeline (2 * die + s) p
  let d := d.put F.ENG_SPARE_STATUS_cluster (2 * die + s) k
  (d.putB F.ENG_CLUSTER_STATUS_spare_in ix true).put F.ENG_CLUSTER_STATUS_spare_id ix s

/-- The spare that stands in for a cluster gives the place back. -/
def Dev.standDown (d : Dev) (p k : Nat) : Dev :=
  let ix := 6 * p + k
  if !d.flag F.ENG_CLUSTER_STATUS_spare_in ix then d
  else
    let s := d.fld F.ENG_CLUSTER_STATUS_spare_id ix % 2
    let die := p / 16
    let d := (d.putB F.ENG_CLUSTER_STATUS_spare_in ix false).put F.ENG_CLUSTER_STATUS_spare_id ix 0
    let d := (d.put F.ENG_SPARE_STATUS_pipeline (2 * die + s) 0).put F.ENG_SPARE_STATUS_cluster (2 * die + s) 0
    if d.spareState die s == 3 then d.setSpareState die s 2 else d

/-- Sets the state of a cluster, ENG_CLUSTER_STATUS. -/
def Dev.setCluster (d : Dev) (p k st : Nat) : Dev := d.put F.ENG_CLUSTER_STATUS_state (6 * p + k) st

/-- An instance is retired (R245): the spare stays in its place. -/
def Dev.clusterRetired (d : Dev) (c : Clock) (inst : Nat) : Dev :=
  let d := if isSpare inst then d.setSpareState (instDie inst) (inst % 8 - 6) 4 else d.setCluster (instPipe inst) (inst % 8) 5
  let d := d.raise c .ENG_CLUSTER_RETIRED 7 inst
  if (d.standby (instDie inst)).isNone then d.raise c .ENG_SPARES_LOW 1 (instDie inst) else d

/-- A parity error of a control store or dispatch table (R245): the instance takes no new packet, a standby spare
takes its place, and an instance that had another in the preceding 1 s is retired. -/
def Dev.clusterParity (d : Dev) (c : Clock) (inst : Nat) : Dev :=
  let last := d.eng.parityAt.num inst
  let again := last != 0 && decide (c.phys + 1 - last < edgesS 1)
  let die := instDie inst
  let s := inst % 8 - 6
  let p := if isSpare inst then d.fld F.ENG_SPARE_STATUS_pipeline (2 * die + s) else instPipe inst
  let k := if isSpare inst then d.fld F.ENG_SPARE_STATUS_cluster (2 * die + s) else inst % 8
  let serves := if isSpare inst then d.spareState die s == 3 else d.fld F.ENG_CLUSTER_STATUS_state (6 * p + k) == 0
  let idle := isSpare inst && d.spareState die s == 2
  if !serves && !idle then d
  else
    let d := d.ue 4 7 die inst
    let d := { d with eng := { d.eng with parityAt := d.eng.parityAt.setNum ⟨inst, 0, 0⟩ (c.phys + 1) } }
    let d := if isSpare inst then ((if serves then d.standDown p k else d).setSpareState die s 1) else d.setCluster p k 1
    let d := match serves, d.standby die with
      | true, some t => d.standIn p k t
      | _, _ => d
    if again then d.clusterRetired c inst else d

/-- Firmware has reloaded an instance on which every routine has ended, and its self-test ended (R245 items 3, 4). -/
def Dev.clusterReloaded (d : Dev) (c : Clock) (inst : Nat) (pass : Bool) : Dev :=
  let die := instDie inst
  let s := inst % 8 - 6
  let out := if isSpare inst then d.spareState die s == 1 else d.fld F.ENG_CLUSTER_STATUS_state (6 * instPipe inst + inst % 8) == 1
  let rolling := d.roll.begun && (d.roll.left.head?.map (fun u => u.2) == some inst)
  if !out || rolling || d.fld F.GLB_CORE_STATUS_in_service == 0 || (List.range 8).any (fun e => (d.run inst e).isSome) then d
  else if !pass then d.clusterRetired c inst
  else if isSpare inst then d.setSpareState die s 2
  else (d.setCluster (instPipe inst) (inst % 8) 0).standDown (instPipe inst) (inst % 8)

/-- An engine leaves service after a datapath parity error (R246). -/
def Dev.engineRetire (d : Dev) (c : Clock) (inst e : Nat) : Dev :=
  let d := if isSpare inst then
      { d with eng := { d.eng with spareOut := d.eng.spareOut.setNum ⟨inst, 0, 0⟩ (putBit (d.eng.spareOut.num inst) e true) } }
    else
      let ix := 6 * instPipe inst + inst % 8
      let d := d.put F.ENG_CLUSTER_STATUS_engines_out ix (putBit (d.fld F.ENG_CLUSTER_STATUS_engines_out ix) e true)
      d.put F.ENG_ENGINE_RETIRED_retired (instPipe inst)
        (putBit (d.fld F.ENG_ENGINE_RETIRED_retired (instPipe inst)) (8 * (inst % 8) + e) true)
  d.raise c .ENG_ENGINE_RETIRED 9 (8 * inst + e)

/-- Engines of a pipeline return after their self-test (R246): bits 8 × cluster + engine of `mask`. -/
def Dev.engineReturn (d : Dev) (p mask : Nat) : Dev :=
  let back := (List.range 48).filter (fun i => bitOf mask i && bitOf (d.fld F.ENG_ENGINE_RETIRED_retired p) i)
  back.foldl (fun (d : Dev) i =>
    let ix := 6 * p + i / 8
    let d := d.put F.ENG_CLUSTER_STATUS_engines_out ix (putBit (d.fld F.ENG_CLUSTER_STATUS_engines_out ix) (i % 8) false)
    d.put F.ENG_ENGINE_RETIRED_retired p (putBit (d.fld F.ENG_ENGINE_RETIRED_retired p) i false)) d

/-- The capture of a pipeline's machine checks (R243, R40). -/
def Dev.mchkCapture (d : Dev) (p inst e pc : Nat) (datapath : Bool) : Dev :=
  if d.flag F.ENG_MCHK_CAPTURE_valid p then d.bumpSat F.ENG_MCHK_CAPTURE_count p
  else
    let d := (d.putB F.ENG_MCHK_CAPTURE_valid p true).putB F.ENG_MCHK_CAPTURE_kind p datapath
    let d := (d.put F.ENG_MCHK_CAPTURE_cluster p (inst % 8)).put F.ENG_MCHK_CAPTURE_engine p e
    (d.put F.ENG_MCHK_CAPTURE_address p pc).put F.ENG_MCHK_CAPTURE_count p 1

/-- A machine check of an action engine (R243, R244): the routine's effects are discarded and its packet is replayed
elsewhere, or dropped at its third; a datapath error retires the engine (R246). -/
def Dev.engineMchk (d : Dev) (c : Clock) (inst e : Nat) (datapath : Bool) : Dev :=
  match d.run inst e with
  | none => d
  | some r =>
    let d := (d.mchkCapture r.pipe inst e r.pc datapath).raise c .ENG_MCHK 9 (8 * inst + e)
    let d := (d.resvReleaseAll c r).dropRun inst e
    let d := match d.pkt r.pkt with
      | none => d
      | some x =>
        if 2 ≤ x.mchecks then
          (((d.engCnt r.pipe 6).raise c .ENG_REPLAY_DROP 9 (8 * inst + e) [] (some 3)).flowRelease c x).flowDrop c x.id
        else
          let again := fun (y : Pkt) => { y with mchecks := y.mchecks + 1, loc := .dispatch, avoid := some inst }
          let d := (d.engCnt r.pipe 5).modPkt x.id again
          d.setPipe r.pipe { d.pipe r.pipe with dispatchQ := x.id :: (d.pipe r.pipe).dispatchQ }
    if datapath then d.engineRetire c inst e else d

end Sys2Proof.Machine
end

