-- ==== Sys2Proof/Machine/Rsa.lean ====
section
/-! DEFINITION. RSA-4096 under PKCS #1 v2.2 with SHA-512: signature check, key transport, signature blocks (R66, R438,
R441, R446). -/
namespace Sys2Proof.Machine

/-- Big-endian bytes as a number. -/
def beNat (bs : List Byte) : Nat := bs.foldl (fun n b => 256 * n + b.toNat) 0

/-- A number as `n` big-endian bytes. -/
def beBytes (n v : Nat) : List Byte := (leBytes n v).reverse

/-- `s ^ (2 ^ k) mod n`. -/
def squares (n : Nat) : Nat → Nat → Nat
  | 0, s => s
  | k + 1, s => squares n k (s * s % n)

/-- The public operation with exponent 65,537. -/
def rsaPublic (n s : Nat) : Nat := squares n 16 s * s % n

/-- MGF1 with SHA-512: at least `64 * blocks` bytes. -/
def mgf1 (seed : List Byte) (blocks : Nat) : List Byte :=
  ((List.range blocks).map (fun i => sha512 (seed ++ beBytes 4 i))).flatten

/-- Bytewise exclusive or. -/
def xorBytes (a b : List Byte) : List Byte := List.zipWith (fun x y => x ^^^ y) a b

/-- RSASSA-PSS verification with SHA-512 and a 64-byte salt over a 4,096-bit modulus (R441). -/
def pssVerify (modulus msg sig : List Byte) : Bool :=
  let n := beNat modulus
  let s := beNat sig
  if n ≤ s then false
  else
    let em := beBytes 512 (rsaPublic n s)
    let masked := em.take 447
    let h := (em.drop 447).take 64
    let db := xorBytes masked (mgf1 h 7)
    let db := match db with
      | b :: t => (b &&& 127) :: t
      | [] => []
    let salt := db.drop 383
    (em.headD 0).toNat < 128 && em.drop 511 == [188] &&
      db.take 383 == List.replicate 382 (0 : Byte) ++ [1] &&
      sha512 (List.replicate 8 (0 : Byte) ++ sha512 msg ++ salt) == h

/-- RSAES-OAEP encryption with SHA-512 and the empty label (R446). -/
def oaepEncrypt (modulus secret seed : List Byte) : List Byte :=
  let db := sha512 [] ++ List.replicate (447 - 65 - secret.length) (0 : Byte) ++ [1] ++ secret
  let maskedDb := xorBytes db (mgf1 seed 7)
  let maskedSeed := xorBytes seed (mgf1 maskedDb 1)
  beBytes 512 (rsaPublic (beNat modulus) (beNat ((0 : Byte) :: maskedSeed ++ maskedDb)))

/-- The signature block that ends an image (R66). -/
def sigBlock (image : List Byte) : List Byte := image.drop (image.length - 1536)

/-- The anchor of a signature block (R438): SHA-512 of its modulus and exponent. -/
def anchorOf (block : List Byte) : List Byte := sha512 (block.take 516)

/-- A well-formed block (R441): modulus bit 4,095 set and exponent 65,537. -/
def blockFormed (block : List Byte) : Bool :=
  block.length == 1536 && 128 ≤ (block.headD 0).toNat && beNat ((block.drop 512).take 4) == 65537

/-- The signature over bytes 0 to length − 513 (R66). -/
def imageSigned (image : List Byte) : Bool :=
  let b := sigBlock image
  pssVerify (b.take 512) (image.take (image.length - 512)) (b.drop 1024)

end Sys2Proof.Machine
end

