-- ==== Sys2Proof/Machine/Digest.lean ====
section
/-! DEFINITION. The configuration digests of tables, block instances and the device, computed from the state they
summarise (R57–R60, R415). -/
namespace Sys2Proof.Machine

/-! ### Addresses of register copies -/

/-- Coordinates of a flat index in an array's dimensions, innermost last. -/
def unflatten : List (Nat × Nat) → Nat → List Nat
  | [], _ => []
  | (_, _) :: t, ix =>
    let inner := t.foldl (fun n x => n * x.1) 1
    (ix / inner) :: unflatten t (ix % inner)

/-- BAR0 offset of a register copy. -/
def Reg.addr (r : Reg) (ix : Nat) : Nat :=
  ((unflatten r.dims ix).zip r.dims).foldl (fun n x => n + x.1 * x.2.2) r.base

/-- Number of copies of a register. -/
def Reg.copies (r : Reg) : Nat := r.dims.foldl (fun n x => n * x.1) 1

/-! ### Register digests -/

/-- The digest function (R57). -/
def Dev.digestHash (d : Dev) (bs : List Byte) : Nat := (sipHash (d.reg .GLB_DIGEST_KEY 0) (d.reg .GLB_DIGEST_KEY 1) bs).toNat

/-- The blocks, by their digest registers. -/
def digestRegs : List Reg :=
  [.GLB_CFG_DIGEST, .EVT_CFG_DIGEST, .HST_CFG_DIGEST, .TIM_CFG_DIGEST, .TWN_CFG_DIGEST, .PEL_CFG_DIGEST,
   .LANE_CFG_DIGEST, .MAC_CFG_DIGEST, .PRS_CFG_DIGEST, .CLSD_CFG_DIGEST, .CLS_CFG_DIGEST, .TCM_CFG_DIGEST,
   .FLW_CFG_DIGEST, .HRT_CFG_DIGEST, .ENG_CFG_DIGEST, .SWP_CFG_DIGEST, .BPM_CFG_DIGEST, .FIF_CFG_DIGEST,
   .SCH_CFG_DIGEST, .TEL_CFG_DIGEST, .PRF_CFG_DIGEST, .NAT_CFG_DIGEST, .LBL_CFG_DIGEST]

/-- The block a register belongs to: the last one whose base is not above it. -/
def Reg.block (r : Reg) : Option Reg := (digestRegs.filter (fun g => g.base - 0x48 ≤ r.base)).getLast?

/-- The instance of its block that a register copy lies in. -/
def Reg.blockInst (g r : Reg) (ix : Nat) : Nat :=
  match g.dims with
  | [] => 0
  | (_, stride) :: _ => (r.addr ix - (g.base - 0x48)) / stride

/-- Value of a register copy with every bit that is not a digest input zero. -/
def Dev.configValue (d : Dev) (r : Reg) (ix : Nat) : Nat :=
  (r.fields.filter FieldInfo.config).foldl (fun n fi => n + d.fld fi.fld ix * 2 ^ fi.fld.lo) 0

/-- Register digest of a block instance. -/
def Dev.blockDigest (d : Dev) (g : Reg) (i : Nat) : Nat :=
  let regs := Reg.all.filter (fun r => r.block == some g && r.fields.any FieldInfo.config)
  (regs.foldl (fun n r => (List.range r.copies).foldl (fun n ix =>
    if Reg.blockInst g r ix == i then
      n + d.digestHash (leBytes 4 (r.addr ix) ++ leBytes (r.width / 8) (d.configValue r ix)) else n) n) 0) % 2 ^ 64

/-! ### Table digests -/

/-- The tables that keep a digest (05, 06, 09, 12, 14). -/
def digestTables : List TableId :=
  [.PRS_STATE_TBL, .PRS_TRANS_TBL, .CLS_PROFILE_TBL, .CLS_RANGE_TBL, .TCAM, .CLS_RULE_TBL, .CLS_ACTION_TBL,
   .CLS_TEMPLATE_TBL, .CLS_LPM_TBL, .CLS_EXM_TBL, .NAT_ADDR_TBL, .LBL_SVC_TBL, .LBL_BACKEND_TBL, .LBL_SLOT_TBL,
   .LBL_NH_TBL, .LBL_NH_MEMBER_TBL, .LBL_SMAC_TBL, .SCH_PORT_TBL, .SCH_PG_TBL, .SCH_CG_TBL, .SCH_LEAF_TBL,
   .SCH_LEAF_PROFILE, .SCH_ECN_PROFILE, .SCH_POL_TBL, .SCH_GATE_TBL, .PEL_DIGEST_SEL]

/-- Tables whose first key component is a die, in digest instances per die. -/
def perDie (t : TableId) : Bool :=
  t == .SCH_PORT_TBL || t == .SCH_PG_TBL || t == .SCH_CG_TBL || t == .SCH_LEAF_TBL || t == .SCH_LEAF_PROFILE ||
  t == .SCH_ECN_PROFILE || t == .SCH_POL_TBL

/-- Instances of a table: one per slice, per port's gate bank, per die, or one. -/
def tableInsts (t : TableId) : Nat :=
  if t == .TCAM then 32 else if t == .SCH_GATE_TBL then 512 else if perDie t then 2 else 1

/-- Bits of an entry word that enter no digest: health and conns of a backend (R268), counters of a node. -/
def digestWord (t : TableId) (w v : Nat) : Nat :=
  match t, w with
  | .LBL_BACKEND_TBL, 2 => putBit v 46 false
  | .LBL_BACKEND_TBL, 3 => v % 2 ^ 32
  | .SCH_POL_TBL, 2 => 0
  | .SCH_PORT_TBL, 3 => 0
  | .SCH_PG_TBL, 3 => 0
  | .SCH_CG_TBL, 3 => 0
  | .SCH_LEAF_TBL, 3 => 0
  | _, _ => v

/-- Entries of an instance of a table that are live in the newest committed generation: keys and words. -/
def Dev.liveEntries (d : Dev) (t : TableId) (i : Nat) : List (List Nat × List Nat) :=
  let (g, slot) := d.liveGen
  let seen := fun (birth : Nat) (death : Option Nat) => visible g birth death
  match t with
  | .TCAM => (d.slice i).filterMap (fun x =>
      if seen x.2.birth x.2.death then some ([x.1], [x.2.key, x.2.mask, x.2.prio, x.2.rule]) else none)
  | .CLS_RULE_TBL => d.cls.rules.cells.filterMap (fun x =>
      if seen x.2.birth x.2.death then some ([x.1.a], [x.2.action]) else none)
  | _ =>
    let staged := d.cls.entries.filterMap (fun e =>
      if e.tbl == t.num && seen e.birth e.death then some (e.key, e.data) else none)
    let banked := t == .PRS_STATE_TBL || t == .PRS_TRANS_TBL || t == .CLS_PROFILE_TBL || t == .CLS_RANGE_TBL
    let inst := if banked then slot else i
    let cells := d.tbls.cells.filter (fun x => x.1.a == t.num && x.1.b == inst)
    let ids := (cells.map (fun x => x.1.c / 64)).eraseDups
    staged ++ ids.filterMap (fun e =>
      let ws := (List.range 16).map (fun w => digestWord t w (d.tw t inst e w))
      if ws.all (fun w => w == 0) then none else some ([e], ws))

/-- Digest of an instance of a table. -/
def Dev.tableDigest (d : Dev) (t : TableId) (i : Nat) : Nat :=
  ((d.liveEntries t i).foldl (fun n e =>
    n + d.digestHash (leBytes 3 (Config.sdtIndexOf t.num).toNat ++ Config.digestEntry t.num e.1 e.2)) 0) % 2 ^ 64

/-! ### Device and group digests -/

/-- A component: SDT index, instance and digest. -/
abbrev DigestPart := Nat × Nat × Nat

/-- SDT index of a block, by its digest register. -/
def blockSdt (g : Reg) : Nat := (Config.sdtIndexOf (4096 + g.num)).toNat

/-- Every table and block instance with its digest, tables first. -/
def Dev.digestParts (d : Dev) : List DigestPart :=
  (digestTables.flatMap (fun t => (List.range (tableInsts t)).map (fun i =>
    ((Config.sdtIndexOf t.num).toNat, i, d.tableDigest t i)))) ++
  (digestRegs.flatMap (fun g => (List.range g.copies).map (fun i => (blockSdt g, i, d.blockDigest g i))))

/-- The term of a component in the device digest. -/
def Dev.partTerm (d : Dev) (p : DigestPart) : Nat :=
  d.digestHash (leBytes 3 p.1 ++ leBytes 4 p.2.1 ++ leBytes 8 p.2.2)

/-- The device configuration digest, GLB_DEV_DIGEST (R57). -/
def Dev.devDigest (d : Dev) : Nat := (d.digestParts.foldl (fun n p => n + d.partTerm p) 0) % 2 ^ 64

/-- SDT indices that PEL_DIGEST_SEL names (R415). -/
def Dev.groupSel (d : Dev) : List Nat :=
  ((List.range 256).map (fun i => d.tw .PEL_DIGEST_SEL 0 i 0)).filterMap (fun e => if bitOf e 31 then some (e % 2 ^ 24) else none)

/-- The group digest, PEL_GROUP_DIGEST (R415). -/
def Dev.groupDigest (d : Dev) : Nat :=
  let sel := d.groupSel
  ((d.digestParts.filter (fun p => sel.contains p.1)).foldl (fun n p => n + d.partTerm p) 0) % 2 ^ 64

end Sys2Proof.Machine
end

