-- ==== Sys2Proof/Machine/Intake.lean ====
section
/-! DEFINITION. Frames received by the MACs, the rows of the buffer pool, and the lifetime of a packet (R14, R97,
R171, R311–R320). -/
namespace Sys2Proof.Machine

/-- EtherType of a frame. -/
def etherType (bs : List Byte) : Nat := byteAt bs 12 * 256 + byteAt bs 13

/-- Ingress priority of a frame (R317): the PCP of its outermost tag, else untagged_prio. -/
def Dev.ingressPrio (d : Dev) (die i : Nat) (bs : List Byte) : Nat :=
  if etherType bs == 0x8100 || etherType bs == 0x88A8 then byteAt bs 14 / 32
  else d.fld F.BPM_PIPE_CFG_untagged_prio (16 * die + i)

/-- Whether frames of a priority are lossless on a port (R318). -/
def Dev.lossless (d : Dev) (p q : Nat) : Bool :=
  match d.fld F.MAC_PORT_CFG_fc_mode p with
  | 1 => true
  | 2 => bitOf (d.fld F.MAC_PORT_CFG_pfc_gen_mask p) q
  | _ => false

/-- Ingress admission (R318): whether the frame's segment is requested at all. -/
def Dev.admitFrame (d : Dev) (c : Clock) (p q k : Nat) : Dev × Bool :=
  let die := dieOf p
  let i := pipeOf p % 16
  if d.lossless p q then
    if d.chargeOf die i q + poolUnits k ≤ d.fld F.BPM_PRIO_CFG_max (prioIx die i q) then (d, true)
    else ((d.bpmCnt die 4).raiseLim c .BPM_LOSSLESS_DROP 1 die, false)
  else if d.early die i q && d.fld F.BPM_REQ_QUOTA_min (reqIx die i k) ≤ d.useOf die i k then (d.bpmCnt die 3, false)
  else (d, true)

/-- A MAC control frame's opcode and timers by priority (R99): PAUSE has one timer for every priority. -/
def macTimers (bs : List Byte) : Nat × List (Nat × Nat) :=
  let word := fun o => byteAt bs o * 256 + byteAt bs (o + 1)
  let op := word 14
  if op == 0x0101 then
    (op, ((List.range 8).filter (fun q => bitOf (word 16) q)).map (fun q => (q, word (18 + 2 * q))))
  else (op, [(0, word 16)])

/-- A good frame asks for its segment and waits for an intake slot (R14, R17, R311). -/
def Dev.frameIn (d : Dev) (c : Clock) (p : Nat) (bs : List Byte) (stamp : Stamp) : Dev :=
  let die := dieOf p
  let pipe := pipeOf p
  let i := pipe % 16
  let k := poolOf (bs.length + 4)
  let q := d.ingressPrio die i bs
  let start := d.fld F.PRS_PORT_POLICY_start_state p
  match d.admitFrame c p q k with
  | (d, false) => d
  | (d, true) =>
    match d.segRequest c die i k (some (i, q)) with
    | (d, .granted h) =>
      let (d, id) := d.newPkt p .frame bs stamp (some (h, i)) q start
      d.setPipe pipe { d.pipe pipe with waiting := (d.pipe pipe).waiting ++ [id] }
    | (d, .retry) =>
      let (d, id) := d.newPkt p .frame bs stamp none q start
      let d := d.modPkt id (fun x => { x with loc := .segWait })
      { d with bpm := { d.bpm with retries := d.bpm.retries ++ [⟨die, i, k, 0, some id, 0⟩] } }
    | (d, _) => d

/-- A frame that passes byte 2,048 holds a pool 2 segment before its FCS is checked (R311); with a bad FCS the
segment returns (R14). -/
def Dev.badLongFrame (d : Dev) (c : Clock) (p : Nat) (bs : List Byte) : Dev :=
  if bs.length + 4 ≤ 2048 then d
  else
    let die := dieOf p
    let i := pipeOf p % 16
    match d.admitFrame c p (d.ingressPrio die i bs) 2 with
    | (d, false) => d
    | (d, true) =>
      match d.segRequest c die i 2 (some (i, d.ingressPrio die i bs)) with
      | (d, .granted h) => d.segFree c h i
      | (d, _) => d

/-- The last byte of a frame on a port (R14, R97, R75, R99, R299): `bs` without the FCS, `fcsOk` its check, `lane`
and `var` the lane of the port with the delimiter's block and the variable term of its path (R360). -/
def Dev.frameReceive (d : Dev) (c : Clock) (p lane : Nat) (var : Int) (bs : List Byte) (fcsOk : Bool) : Dev :=
  if !d.net.configured.contains p then d
  else
    let len := bs.length + 4
    let d := d.bwCount p len false
    let err := fun (d : Dev) (k : Nat) => d.bump F.MAC_RX_ERR_frames (4 * p + k)
    let kindling := d.fld F.TWN_STATUS_state == 2 && d.flag F.TWN_CTRL_hold_ports
    if d.cls.live.isEmpty || d.net.r75 || kindling || !d.flag F.MAC_PORT_CFG_enable p || !d.flag F.MAC_PORT_STATUS_link_up p then err d 3
    else if len < 64 then err d 1
    else if d.maxFrame p < len then err (d.badLongFrame c p bs) 2
    else if !fcsOk then err (d.badLongFrame c p bs) 0
    else if etherType bs == 0x8808 then
      let (op, timers) := macTimers bs
      d.macControl c p op timers
    else d.frameIn c p bs (d.rxStamp c (p + lane % max 1 (d.portLanes p)) var)

/-! ### Segments (R314, R315, R320) -/

/-- A requester other than a MAC or a cluster asks for a segment; a loser below its minimum retries. -/
def Dev.segAsk (d : Dev) (c : Clock) (die r k : Nat) : Dev :=
  match d.segRequest c die r k none with
  | (d, .retry) => { d with bpm := { d.bpm with retries := d.bpm.retries ++ [⟨die, r, k, 0, none, 0⟩] } }
  | (d, _) => d

/-- A retry that won: its packet goes on (R311, R315). -/
def Dev.retryWon (d : Dev) (c : Clock) (w : SegRetry) (h : Nat) : Dev :=
  match w.pkt.bind d.pkt with
  | none => d
  | some x =>
    if x.stamped then
      let d := d.segRelease c x.seg
      (d.setPkt { x with seg := some (h, w.requester) }).recirculate c x.id x.bytes
    else
      let d := d.setPkt { x with seg := some (h, w.requester), loc := .waiting }
      let s := d.pipe x.pipe
      d.setPipe x.pipe (if x.arrival == .injected then { s with side := s.side ++ [x.id] }
        else { s with waiting := s.waiting ++ [x.id] })

/-- A retry that lost for good: its requester acts on the refusal (R315). -/
def Dev.retryLost (d : Dev) (c : Clock) (w : SegRetry) : Dev :=
  let d := if w.recs == 0 then d else (d.telCnt w.die 6 w.recs).raiseLim c .TEL_EXPORT_LOST 1 w.die [] 1000
  match w.pkt.bind d.pkt with
  | none => d
  | some x => (if x.stamped then d.clsCnt x.pipe 3 else d).flowDrop c x.id

/-- One retry of the waiting request at place `n` (R315): it wins with a free segment, and its 64th loss is final. -/
def Dev.segRetry (d : Dev) (c : Clock) (n : Nat) : Dev :=
  match d.bpm.retries[n]? with
  | none => d
  | some w =>
    let drop := fun (d : Dev) => { d with bpm := { d.bpm with retries := d.bpm.retries.eraseIdx n } }
    if d.flag F.BPM_HOLD_ack w.die then d
    else if w.tries == 0 && !d.quotaOk w.die w.requester w.pool then ((drop d).bpmCnt w.die 1).retryLost c w
    else if d.inUse w.die w.pool < d.segments w.die w.pool then
      let from_ := (w.pkt.bind d.pkt).bind (fun x => if x.stamped then
          (x.seg.bind (fun s => d.seg s.1)).bind (fun (s : Seg) => if s.units == 0 then none else some (s.pipe, s.prio))
        else if x.arrival == .frame then some (x.pipe % 16, x.prio) else none)
      match (drop d).segTake c w.die w.requester w.pool from_ with
      | (d, .granted h) => d.retryWon c w h
      | (d, _) => d
    else if 64 ≤ w.tries + 1 then ((drop d).bpmCnt w.die 2).retryLost c w
    else { d with bpm := { d.bpm with retries := d.bpm.retries.set n { w with tries := w.tries + 1 } } }

/-! ### Lifetime (R171) -/

/-- The engine that runs a packet. -/
def Dev.runOfPkt (d : Dev) (id : Nat) : Option (Nat × Nat × Run) :=
  (d.eng.runs.cells.find? (fun x => x.2.pkt == id)).map (fun x => (x.1.a, x.1.b, x.2))

/-- Whether a packet of the lookup domain has reached 10 ms. -/
def Pkt.expired (x : Pkt) (c : Clock) : Bool := x.stamped && decide (10000000 * 65536 ≤ tsDiff c.stamp.ts48 x.stamp.ts48)

/-- A packet aged 10 ms is dropped wherever it waits (R171). -/
def Dev.lifetime (d : Dev) (c : Clock) (id : Nat) : Dev :=
  match d.pkt id with
  | none => d
  | some x =>
    if !x.expired c then d
    else
      let d := match d.runOfPkt id with
        | some (inst, e, r) => (d.resvReleaseAll c r).dropRun inst e
        | none => d
      let d := { d with twn := { d.twn with held := d.twn.held.filter (fun h => h.pkt != id) },
                        bpm := { d.bpm with retries := d.bpm.retries.filter (fun w => w.pkt != some id) } }
      (((((d.holdOcc 0).holdOcc 1).flowRelease c x).flowDrop c id).clsCnt x.pipe 4).raiseLim c .CLS_LIFETIME 2 x.pipe

end Sys2Proof.Machine
end

