-- ==== Sys2Proof/Machine/Egress.lean ====
section
/-! DEFINITION. The egress reorder, the scheduler's dequeue with the egress editor's last edits, and the egress capture
point (R22–R24, R287, R298, R322, R337–R354, R359–R368). -/
namespace Sys2Proof.Machine

/-! ### The egress reorder -/

/-- Whether an earlier packet can still reach an egress queue in its place (R20, R24). -/
def Loc.before : Loc → Bool
  | .segWait | .waiting | .emberHold => false
  | _ => true

/-- Egress queue of a copy. -/
def Dev.queueOf (d : Dev) (f : EFrame) (h : Word) : Nat × Nat := (dieOf f.port, d.leafOf f.port f.tc h.toNat)

/-- Whether packet `y` holds back a copy of packet `x` for queue `q`: an earlier packet of its pair, or of its own
flow key. -/
def Dev.holdsBack (d : Dev) (x y : Pkt) (q : Nat × Nat) : Bool :=
  let same := y.pipe == x.pipe && y.parse.key == x.parse.key
  let pair := y.port == x.port && !x.unordered && !y.unordered
  decide (y.order < x.order) && y.loc.before && (same || pair) &&
    (y.loc != .egress || y.frames.any (fun f => d.queueOf f y.hash == q))

/-- Copy `n` of a packet in the egress reorder leaves it and is enqueued (R24, R298, R333). -/
def Dev.egressRelease (d : Dev) (c : Clock) (id n : Nat) : Dev :=
  match d.pkt id with
  | none => d
  | some x =>
    match (if x.loc == .egress then x.frames[n]? else none) with
    | none => d
    | some f =>
      let q := d.queueOf f x.hash
      let free := x.arrival == .heldRelease
      if !free && d.pkts.vals.any (fun y => d.holdsBack x y q) then d
      else
        let left := x.frames.eraseIdx n
        let d := if left.isEmpty then { d with pkts := d.pkts.erase ⟨id, 0, 0⟩ } else d.setPkt { x with frames := left }
        let f := match f.ioam with
          | none => f
          | some (t, at_) =>
            let cap := fun v => min v (2 ^ 32 - 1)
            let segs := (List.range 3).foldl (fun n k => n + d.inUse q.1 k) 0
            { f with bytes := ioamPut f.bytes t at_ [(1, f.ingressPort % 2 ^ 16 * 2 ^ 16 + f.port % 2 ^ 16),
                (6, cap (d.leafBytes q.1 q.2 / 64)), (9, f.ingressPort * 2 ^ 32 + f.port), (11, cap segs)] }
        d.enqueue c f x.hash.toNat

/-! ### PTP correction (R362–R365) -/

/-- A signed value added to the correctionField of the PTP header at `o`. -/
def addCorrection (bs : List Byte) (o : Nat) (v : Int) : List Byte :=
  let old := signed 64 (ofBeBytes ((bs.drop (o + 8)).take 8))
  splice bs (o + 8) (beBytes 8 (unsigned 64 (old + v)))

/-- The one's complement sum of a byte list with the two octets at `o` left out. -/
def sumWithout (bs : List Byte) (o : Nat) : Nat := onesSum (splice bs o [0, 0])

/-- The two octets at `o` of a UDP datagram rewritten so that its sum is `want`; at an odd place they straddle two
words. -/
def balance (dg : List Byte) (o want : Nat) : List Byte :=
  let part := sumWithout dg o
  let v := want + (65535 - part)
  let v := v % 65536 + v / 65536
  let b := beBytes 2 v
  splice dg o (if o % 2 == 0 then b else b.reverse)

/-- Checksums kept valid after a correction (R365); `none` when an IPv6 message lacks its two octets. -/
def EFrame.fixUdp (f : EFrame) (o : Nat) (old : List Byte) : Option EFrame :=
  match f.udpOff, f.ipOff with
  | some u, some (_, v6) =>
    if !v6 then some { f with bytes := splice f.bytes (u + 6) [0, 0] }
    else
      let len := byteAt f.bytes (u + 4) * 256 + byteAt f.bytes (u + 5)
      let msg := byteAt f.bytes (o + 2) * 256 + byteAt f.bytes (o + 3)
      let at_ := o + msg
      if u + len < at_ + 2 then none
      else
        let dg := fun (bs : List Byte) => (bs.drop u).take len
        some { f with bytes := splice f.bytes u (balance (dg f.bytes) (at_ - u) (onesSum (dg old))) }
  | _, _ => some f

/-- The treatment of a PTP message: none, a correction in units of 2^-16 ns from two stamps, or an origin stamp. -/
inductive PtpAct where
  | none
  | correct (v : Int)
  | turnaround (v : Int)
  | origin
  deriving DecidableEq, Repr

/-- What the editor does to a frame with egress stamp `t` (R362–R364). -/
def Dev.ptpAct (d : Dev) (f : EFrame) (o : Nat) (t : Stamp) : PtpAct :=
  let mode := d.fld F.TIM_PORT_CFG_ptp_mode f.port
  let kind := byteAt f.bytes o % 16
  let delay : Int := if mode == 3 then d.fld F.TIM_PORT_CFG_link_delay f.ingressPort else 0
  if mode == 0 then .none
  else match f.oneStep, f.ingress with
    | .origin, _ => if kind < 4 then .origin else .none
    | .turnaround s, _ => if kind < 4 then .turnaround ((t.units : Int) - s.units) else .none
    | .none, some s =>
      if (mode == 2 && kind < 2) || (mode == 3 && kind == 0) then .correct ((t.units : Int) - s.units + delay) else .none
    | .none, .none => .none

/-- A frame with its stamp-dependent edits: the frame, unless it is dropped, and whether PTP treatment used the
stamp. -/
def Dev.ptpEdit (d : Dev) (c : Clock) (f : EFrame) (t : Stamp) : Dev × Option EFrame × Bool :=
  match f.ptpOff with
  | none => (d, some f, false)
  | some o =>
    let straddles := f.stepEpoch != d.tim.stepEpoch
    let dropped := fun (d : Dev) (k : Nat) => (d.bump F.TIM_CNT_count k).raiseLim c .TIM_ONESTEP_DROP 8 f.port
    let done := fun (d : Dev) (g : EFrame) (k : Nat) => match g.fixUdp o f.bytes with
      | some g => (d.bump F.TIM_CNT_count k, some g, true)
      | none => (dropped d 2, none, false)
    match d.ptpAct f o t with
    | .none => (d, some f, false)
    | .correct v => if straddles then (dropped d 3, none, false) else done d { f with bytes := addCorrection f.bytes o v } 0
    | .turnaround v => if straddles then (dropped d 3, none, false) else done d { f with bytes := addCorrection f.bytes o v } 1
    | .origin =>
      let bs := splice f.bytes (o + 34) (beBytes 6 t.sec ++ beBytes 4 t.ns)
      done d { f with bytes := addCorrection bs o t.frac } 1

/-! ### Dequeue -/

/-- Whether a Peal port sends: its link is up and its peer admitted and not lost (R84, R387, R410). -/
def Dev.pealReady (d : Dev) (p : Nat) : Bool :=
  let q := d.linkPeer (p / 8)
  d.linkUp (p / 8) && d.flag F.PEL_PEER_STATUS_admitted q && !d.flag F.PEL_PEER_STATUS_lost q

/-- The channel 0 message that carries a frame to a peer's port (R103, R410). -/
def Dev.packetMessage (d : Dev) (f : EFrame) : PealMsg :=
  ⟨0, f.remote.getD 0 % 512 + f.tc % 8 * 2 ^ 9 + d.boardPos % 4 * 2 ^ 12 + f.ingressPort % 512 * 2 ^ 14 +
    f.colour % 4 * 2 ^ 23, f.bytes, 0⟩

/-- The scheduler of a port makes a decision (R337, R348, R353, R354): discards first, then one frame is picked,
charged, edited and started. `ahead` is the time in picoseconds from now to its capture point, `lane` and `var` the
lane of its delimiter and its variable term (R360). -/
def Dev.dequeue (d : Dev) (c : Clock) (p lane ahead : Nat) (var : Int) (rd : BufRead) : Dev :=
  let die := dieOf p
  let far := d.pealPort p
  if d.flag F.SCH_HOLD_ack die then d
  else if !far && !d.flag F.MAC_PORT_CFG_enable p then d.discardAll c p
  else if !(if far then d.pealReady p else d.flag F.MAC_PORT_STATUS_link_up p) then
    if d.flag F.SCH_PORT_CFG_linkdown_drop p then d.discardAll c p
    else (d.portLeaves p).foldl (fun d l => d.discardHead c p l (d.leafQ die l)) d
  else
    let d := (d.portLeaves p).foldl (fun d l => d.discardHead c p l (d.leafQ die l)) d
    let d := d.gateWaits c p
    match d.eligible c p with
    | [] => d
    | ls =>
      let (d, leaf) := d.pick c p ls
      match d.leafQ die leaf with
      | [] => d
      | f :: rest =>
        let d := ((d.serve c p leaf f rest).schCnt p 0).schCnt p 1 f.len
        let d := { d with sch := { d.sch with gateWait := d.sch.gateWait.erase ⟨die, leaf, 0⟩ } }
        let d := d.perf die 0x080 none none
        let d := if rd == .good then d else match f.seg with
          | some (h, _) => d.segUe c h
          | none => d
        if rd == .badBefore then d.frameGone c f
        else
          let t := (d.txStamp c (p + lane % max 1 (d.portLanes p)) var).addPs ahead
          match (if far then (d, some f, false) else d.ptpEdit c f t) with
          | (d, none, _) => d.frameGone c f
          | (d, some g, ptp) =>
            let w : TxFrame := ⟨g, t, d.tim.stepEpoch, ptp, rd == .badAfter⟩
            let started := d.sch.wire.get (fun _ => []) ⟨p, 0, 0⟩
            { d with sch := { d.sch with wire := d.sch.wire.set (fun _ => []) ⟨p, 0, 0⟩ (started ++ [w]) } }

/-- The transit delay of IOAM bit 4 (R298). -/
def transitDelay (l : Int) : Nat :=
  if l < 0 then 2 ^ 31
  else
    let q := l.toNat / 2 ^ 16
    if 2 ^ 31 ≤ q then 2 ^ 31 else q

/-- A frame has left: its segment is freed and its descriptor completes. -/
def Dev.frameSent (d : Dev) (c : Clock) (f : EFrame) (stamp : Option Stamp) : Dev :=
  let d := d.segRelease c f.seg
  match f.txRing with
  | some (r, slot) => d.txComplete c r slot 0 stamp
  | none => d

/-- The oldest frame started on a port crosses its capture point and leaves (R287, R298, R299, R359, R367, R368). -/
def Dev.egressCapture (d : Dev) (c : Clock) (p : Nat) : Dev :=
  match d.sch.wire.get (fun _ => []) ⟨p, 0, 0⟩ with
  | [] => d
  | w :: rest =>
    let f := w.frame
    let d := { d with sch := { d.sch with wire := d.sch.wire.set (fun _ => []) ⟨p, 0, 0⟩ rest } }
    if d.pealPort p then (d.pealSend c (p / 8) (d.packetMessage f)).frameSent c f none
    else
    let l := f.ingress.map (fun s => tsDiff w.stamp.ts48 s.ts48)
    let bs := match f.ioam, l with
      | some (t, at_), some l => ioamPut f.bytes t at_ [(4, transitDelay l)]
      | _, _ => f.bytes
    let sum := if w.badFcs then (fcs bs).map (fun b => ~~~b) else fcs bs
    let d := (d.emit (.frame p (bs ++ sum) w.stamp)).bwCount p (bs.length + 4) true
    let d := match f.hist, l with
      | some h, some l => d.histUpdate (dieOf p) h l
      | _, _ => d
    let d := match f.compat with
      | some i => d.txqPush c ⟨i, p, w.stamp⟩
      | none => d
    d.frameSent c f (if f.native then some w.stamp else none)

end Sys2Proof.Machine
end

