-- ==== Sys2Proof/Machine/Twin.lean ====
section
/-! DEFINITION. Twins: Toll, formation, the receiving side of the Ember stream, its ups and downs, failover, Kindling,
and frames between members of a Peal group (R84, R86, R384–R411, R414). -/
namespace Sys2Proof.Machine

/-! ### Small facts -/

/-- Sequence `a` later than `b` by 32-bit signed difference (R391). -/
def seqNewer (a b : Nat) : Bool :=
  let d := (a + 2 ^ 32 - b % 2 ^ 32) % 2 ^ 32
  d != 0 && decide (d < 2 ^ 31)

/-- The compatibility rule between two words (R249, R388): same family, each at least the other's min_peer. -/
def compatOk (a b : Nat) : Bool :=
  bitsOf a 24 8 == bitsOf b 24 8 && decide (bitsOf a 8 8 ≤ bitsOf b 16 8) && decide (bitsOf b 8 8 ≤ bitsOf a 16 8)

/-- Compatibility word of the running Frealrex microcode of a kind: 2 action, 3 Sweeper. -/
def Dev.compatWord (d : Dev) (kind : Nat) : Nat :=
  ((d.roll.running.find? (fun k => k.kind == kind && k.region == 0)).map Component.compat).getD 0

/-- What is known of a peer. -/
def Dev.peer (d : Dev) (q : Nat) : Peer := d.twn.peers.get (fun _ => Peer.init) ⟨q, 0, 0⟩

/-- A peer changed. -/
def Dev.setPeer (d : Dev) (q : Nat) (p : Peer) : Dev :=
  { d with twn := { d.twn with peers := d.twn.peers.set (fun _ => Peer.init) ⟨q, 0, 0⟩ p } }

/-- The last Toll of the twin. -/
def Dev.twinInfo (d : Dev) : Option TollInfo := if d.isTwin then (d.peer d.twn.twinPos).info else none

/-- Positions of the group but this device's. -/
def Dev.others (d : Dev) : List Nat := d.twn.members.filter (fun q => q != d.boardPos)

/-- Every peer that Toll is expected from: the other members, and a twin on another board. -/
def Dev.peersAll (d : Dev) : List Nat := d.others ++ (if d.isTwin && d.twn.twinPos == 4 then [4] else [])

def Dev.twinState (d : Dev) : Nat := d.fld F.TWN_STATUS_state

def Dev.setTwinState (d : Dev) (s : Nat) : Dev := d.put F.TWN_STATUS_state 0 s

def Dev.kstate (d : Dev) : Nat := d.fld F.TWN_KINDLE_STATUS_kstate

def Dev.setKstate (d : Dev) (s : Nat) : Dev := d.put F.TWN_KINDLE_STATUS_kstate 0 s

/-- Whether what this device knows lets the Ember stream be up (R181, R388, R399): what Toll byte 33 [1] says. -/
def Dev.seesEmber (d : Dev) : Bool := d.journals && d.twn.emberLinks.any d.linkUp && d.twinInfo.isSome

/-- TWN_STATUS.ember follows the streams: 3 no role, 1 one down, 2 holds not resumed, 0 up. -/
def Dev.emberStatus (d : Dev) : Dev :=
  d.put F.TWN_STATUS_ember 0
    (if !d.isTwin then 3 else if !(d.emberUp 0 && d.emberUp 1) then 1
     else if d.twn.holdsOn.num 0 == 0 || d.twn.holdsOn.num 1 == 0 then 2 else 0)

/-! ### Toll (R386) -/

/-- Body of this device's Toll. -/
def Dev.tollBody (d : Dev) : List Byte :=
  leBytes 8 (d.fld F.BOOT_IMAGE_SERIAL_image_serial) ++ leBytes 8 d.devDigest ++ leBytes 8 d.groupDigest ++
  leBytes 4 (d.compatWord 2) ++ leBytes 4 (d.compatWord 3) ++
  leBytes 1 (d.fld F.BOOT_STATUS_phase + d.twinState * 2 ^ 4 + d.fld F.TWN_STATUS_alone * 2 ^ 7) ++
  leBytes 1 (d.fld F.TWN_STATUS_empty_start + 2 * bit d.seesEmber + 4 * bit d.net.keysDead) ++ leBytes 2 0 ++
  leBytes 4 (d.twn.applied.num 0) ++ leBytes 4 (d.twn.applied.num 1) ++ leBytes 4 0

/-- The channel 3 message of the present Toll. -/
def Dev.tollMsg (d : Dev) : PealMsg :=
  ⟨3, d.boardPos % 4 + d.fld F.TWN_STATUS_role * 2 ^ 2 + d.twn.tollSeq * 2 ^ 4, d.tollBody, 0⟩

/-- Toll goes out on every link that is up, from phase 7 on. -/
def Dev.tollSend (d : Dev) (c : Clock) : Dev :=
  if d.fld F.BOOT_STATUS_phase != 7 || d.pwr.tripAt.isSome then d
  else
    let m := d.tollMsg
    let d := (List.range 64).foldl (fun d g => if d.linkUp g then d.pealSend c g m else d) d
    { d with twn := { d.twn with tollSeq := (d.twn.tollSeq + 1) % 2 ^ 32 } }

/-! ### The Ember hold (R395, R399) -/

/-- A held packet leaves the hold as committed: it takes an intake slot and goes to the egress reorder, or is punted,
recirculated or dropped. -/
def Dev.heldOut (d : Dev) (c : Clock) (h : EmberHeld) : Dev :=
  let d := { d with twn := { d.twn with held := d.twn.held.filter (fun x => x.pkt != h.pkt) } }.holdOcc h.die
  match d.pkt h.pkt with
  | none => d
  | some x =>
    match h.disp with
    | 0 =>
      let s := d.pipe x.pipe
      (d.setPkt { x with arrival := .heldRelease, loc := .waiting }).setPipe x.pipe { s with side := s.side ++ [x.id] }
    | 2 => d.punt c x.id h.group 1 0xFF (some h.bytes)
    | 3 => d.recirculate c x.id h.bytes
    | _ => d.flowDrop c x.id

/-- Held packets of a die that a condition picks, oldest first. -/
def Dev.heldOf (d : Dev) (die : Nat) (p : EmberHeld → Bool) : List EmberHeld := d.twn.held.filter (fun h => h.die == die && p h)

/-- A held packet shed as when the hold refuses it (R395, R399). -/
def Dev.heldShed (d : Dev) (c : Clock) (h : EmberHeld) : Dev :=
  let d := { d with twn := { d.twn with held := d.twn.held.filter (fun x => x.pkt != h.pkt) } }.holdOcc h.die
  match d.pkt h.pkt with
  | none => d
  | some x => d.holdRefused c x h.die h.record h.seq

/-! ### Stream down and up (R396, R399, R400) -/

/-- A die's stream goes down: entries go to the backlog, and sync_down decides the held packets. -/
def Dev.emberDown (d : Dev) (c : Clock) (die : Nat) : Dev :=
  if !d.emberUp die then d
  else
    let d := { d with twn := { d.twn with up := d.twn.up.setNum ⟨die, 0, 0⟩ 0, holdsOn := d.twn.holdsOn.setNum ⟨die, 0, 0⟩ 0 } }
    let d := d.emberStatus.raise c .TWN_EMBER_DOWN 1 die
    let hs := d.heldOf die (fun _ => true)
    if d.flag F.TWN_CTRL_sync_down then hs.foldl (fun d h => d.heldShed c h) d
    else hs.foldl (fun d h => (d.twnCnt die 6).heldOut c h) d

/-- Streams whose conditions fail go down (R399). -/
def Dev.emberEval (d : Dev) (c : Clock) : Dev :=
  let ok := d.seesEmber && ((d.twinInfo.map TollInfo.seesEmber).getD false)
  if ok then d else (d.emberDown c 0).emberDown c 1

/-- The unacknowledged entries of a stream sent again, oldest first (R391). -/
def Dev.emberResend (d : Dev) (c : Clock) (die : Nat) : Dev :=
  match d.emberLink die with
  | none => d
  | some g => (d.unacked die).foldl (fun d m => d.pealSend c g (m.msg die)) d

/-- After a change of links from those of `d0`: streams whose link changed resend, and streams with none go down. -/
def Dev.emberReroute (d d0 : Dev) (c : Clock) : Dev :=
  let d := (List.range 2).foldl (fun d die =>
    if d.emberUp die && d.emberLink die != d0.emberLink die then d.emberResend c die else d) d
  d.emberEval c

/-- The oldest held packet of a die has waited timeout_us (R396). -/
def Dev.syncTimeout (d : Dev) (c : Clock) (die : Nat) : Dev :=
  let limit := edgesUs (min (max (d.fld F.TWN_SYNC_CTRL_timeout_us) 10) 10000)
  match d.heldOf die (fun _ => true) with
  | [] => d
  | h :: _ =>
    if c.phys - h.since < limit then d
    else ((d.twnCnt die 4).raise c .TWN_SYNC_TIMEOUT 1 die).emberDown c die

/-! ### Kindling, the sending side (R404, R405, R407) -/

/-- The images of a die's records with their sequences, from the sequence after `seq`. -/
def Dev.kindleImages (d : Dev) (die : Nat) : List Nat → Nat → List (List Byte)
  | [], _ => []
  | n :: t, seq =>
    match d.frec die n, d.imgNow die n with
    | some r, some i =>
      let bs := r.emberImage i
      (bs.take 180 ++ leBytes 4 ((seq + 1) % 2 ^ 32) ++ List.replicate 8 0) :: d.kindleImages die t ((seq + 1) % 2 ^ 32)
    | _, _ => d.kindleImages die t seq

/-- Images in messages of at most 80. -/
def chunks80 : Nat → List (List Byte) → List (List (List Byte))
  | 0, _ => []
  | _, [] => []
  | n + 1, l => l.take 80 :: chunks80 n (l.drop 80)

/-- Channel 2 fields of a message (R104). -/
def kindleHeader (die count mode : Nat) : Nat := die + count * 2 + mode * 2 ^ 8

/-- A die's records sent on its stream, then the message that ends its Kindling; `only` picks the records. -/
def Dev.kindleDie (d : Dev) (c : Clock) (die mode : Nat) (only : Nat → Bool) : Dev :=
  match d.emberLink die with
  | none => d
  | some g =>
    let ns := (d.flw.recs.cells.filter (fun x => x.1.a == die && only x.1.b)).map (fun x => x.1.b)
    let first := d.fld F.TWN_STREAM_STATUS_sent_seq die
    let images := d.kindleImages die ns first
    let last := (first + images.length) % 2 ^ 32
    let d := (chunks80 images.length images).foldl (fun (d : Dev) ms =>
      d.pealSend c g ⟨2, kindleHeader die ms.length mode, ms.flatten, 0⟩) d
    let d := d.pealSend c g ⟨2, kindleHeader die 0 mode, leBytes 4 last ++ leBytes 4 0, 0⟩
    let d := (d.put F.TWN_STREAM_STATUS_sent_seq die last).twnCnt die 11 images.length
    d.bump F.TWN_KINDLE_STATUS_records 0 images.length

/-- Every record of both dies sent: mode 0 full, 1 merge (R404, R407). -/
def Dev.kindleSend (d : Dev) (c : Clock) (mode : Nat) : Dev :=
  let d := (d.put F.TWN_KINDLE_STATUS_records 0 0).setKstate (if mode == 1 then 3 else 2)
  let d := if mode == 0 then { d with twn := { d.twn with keysAgree := true } } else d
  let d := (d.kindleDie c 0 mode (fun _ => true)).kindleDie c 1 mode (fun _ => true)
  d.put F.TWN_KINDLE_STATUS_progress 0 255

/-- TWN_KINDLE_CTRL.merge (R407): both sides serve and the device is not in host resynchronisation. -/
def Dev.kindleMerge (d : Dev) (c : Clock) : Dev :=
  if d.kstate != 0 && d.kstate != 5 then d.triggerBusy c .TWN_KINDLE_CTRL
  else if d.flag F.TWN_CTRL_resync_host || d.twinState != 3 || !d.seesEmber then d
  else d.kindleSend c 1

/-- With the backlog drained and the lag within its bound, holds resume (R400). -/
def Dev.backlogDrained (d : Dev) (c : Clock) (die : Nat) : Dev :=
  if !d.emberUp die || !(d.backlog die).isEmpty || d.twn.holdsOn.num die == 1 || d.lagBound < d.lag c die then d
  else
    let d := { d with twn := { d.twn with holdsOn := d.twn.holdsOn.setNum ⟨die, 0, 0⟩ 1 } }
    d.emberStatus.raise c .TWN_EMBER_UP 1 die

/-! ### ACKs (R394, R395) -/

/-- The peer has applied a die's stream up to `seq`. -/
def Dev.acked (d : Dev) (c : Clock) (die seq : Nat) : Dev :=
  let d := d.lagEval c die
  let old := d.fld F.TWN_STREAM_STATUS_acked_seq die
  if !seqNewer seq old then d
  else
    let d := d.put F.TWN_STREAM_STATUS_acked_seq die seq
    let d := d.setUnacked die ((d.unacked die).filter (fun m => seqNewer m.seq seq))
    let hs := d.heldOf die (fun h => !seqNewer h.seq seq)
    (hs.foldl (fun d h => d.heldOut c h) d).lagEval c die

/-- An ACK for the peer's stream of a die, at most one per 100 ns. -/
def Dev.sendAck (d : Dev) (c : Clock) (die : Nat) : Dev :=
  let last := d.twn.ackAt.num die
  if last != 0 && c.phys + 1 - last < edgesNs 100 then d
  else match d.emberLink die with
    | none => d
    | some g =>
      let d := { d with twn := { d.twn with ackAt := d.twn.ackAt.setNum ⟨die, 0, 0⟩ (c.phys + 1) } }
      d.pealSend c g ⟨1, 6 + die * 2 ^ 4, leBytes 4 (d.twn.applied.num die) ++ leBytes 4 0, 0⟩

/-- A received ACK. -/
def Dev.emberAck (d : Dev) (c : Clock) (g die seq : Nat) : Dev := (d.takeInbox g 1).acked c die seq

/-! ### Applying the peer's stream (R391–R393, R397, R398) -/

/-- The applied sequence of a stream. -/
def Dev.setApplied (d : Dev) (die seq : Nat) : Dev :=
  { d with twn := { d.twn with applied := d.twn.applied.setNum ⟨die, 0, 0⟩ seq } }

/-- An entry of a stream: one not newer than the highest applied is discarded; one whose flow is held waits. -/
def Dev.emberApply (d : Dev) (c : Clock) (g die seq : Nat) (f : Dev → Option Dev) : Dev :=
  if !d.isTwin || !seqNewer seq (d.twn.applied.num die) then d.takeInbox g 1
  else match f d with
    | none => d
    | some d => ((d.takeInbox g 1).setApplied die seq).sendAck c die

/-- The 48-byte flow key of a body. -/
def bodyKey (body : List Byte) : List Byte := body.take 44 ++ List.replicate 4 0

/-- An entry for a key with a record; for an absent key it is discarded and counted. -/
def Dev.emberFor (d : Dev) (die : Nat) (key : List Byte) (f : Dev → Nat → Nat → Dev) : Option Dev :=
  match d.cmdFlow key with
  | none => none
  | some (.error _) => some (d.twnCnt die 2)
  | some (.ok (hd, n, _)) => some ((f d hd n).twnCnt die 1)

/-- A record applied from the peer is resident and pinned until HBM acknowledges it (R394). -/
def Dev.pinResident (d : Dev) (c : Clock) (die n : Nat) (key : List Byte) : Dev :=
  let d := (d.fillFound c die key n false).1
  match d.resident die n with
  | some (b, s, w) => (match d.entry b s w with
    | some e => d.setEntry b s w { e with pinned := true, finSent := (e.img.finF, e.img.finR) }
    | none => d)
  | none => d

/-- An image of the peer installed as a record, with what it names taken up here (R267, R392): none when no place is
left. -/
def Dev.peerInstall (d : Dev) (c : Clock) (die : Nat) (r : FlowRec) : Option Dev :=
  let (bound, i) := d.takeBinding c die r.fwd r.img.zeroDeltas
  match bound.storeRecord die { r with img := i } with
  | none => none
  | some (d, n) =>
    match d.earlier r.fwd r.rev none with
    | some _ => some (d.pendingTurn c die n r true)
    | none => some (d.pinResident c die n r.fwd)

/-- Whether a provisional entry stands for a key of a record: the entry that would be made waits for its routine. -/
def Dev.underCreation (d : Dev) (r : FlowRec) : Bool :=
  match d.earlier r.fwd r.rev none with
  | some (b, h) => ((d.entry b h.set h.way).map (fun e => e.kind == .provisional)).getD false
  | none => false

/-- A record leaves without export or journal, in favour of the peer's (R392, R258). -/
def Dev.recordOut (d : Dev) (c : Clock) (die n : Nat) : Dev :=
  match d.frec die n, d.imgNow die n with
  | some _, some i =>
    let where_ := d.resident die n
    let ws := match where_ with
      | some (b, s, w) => ((d.entry b s w).map HEntry.waiters).getD []
      | none => []
    let d := match where_ with | some (b, s, w) => d.dropEntry b s w | none => d
    let d := { d with flw := { d.flw with recs := d.flw.recs.erase ⟨die, n, 0⟩ } }.indexDrop die n
    let d := ((d.freeRecord die n).recLive die).releaseBinding c die i
    ws.foldl (fun (d : Dev) w => d.relookup c w) d
  | _, _ => d

/-- The packets held for a record that the peer's replaces: their edits are discarded, and they re-enter intake with
their original window (R392). -/
def Dev.heldAgain (d : Dev) (c : Clock) (die n : Nat) : Dev :=
  (d.heldOf die (fun h => h.record == n)).foldl (fun d h =>
    let d := { d with twn := { d.twn with held := d.twn.held.filter (fun x => x.pkt != h.pkt) } }.holdOcc die
    match d.pkt h.pkt with
    | some x => d.recirculate c x.id x.bytes
    | none => d) d

/-- An image received for a key: installed, or decided in favour of twin A (R392). -/
def Dev.peerImage (d : Dev) (c : Clock) (die : Nat) (image : List Byte) : Option Dev :=
  let r := recOf image
  if d.underCreation r then none
  else match d.cmdFlow r.fwd with
    | none => none
    | some (.error _) => some (((d.peerInstall c die r).getD d).twnCnt die 1)
    | some (.ok (hd, n, _)) =>
      if d.fld F.TWN_STATUS_role != 2 then some (d.twnCnt die 7)
      else
        let d := ((d.twnCnt die 8).heldAgain c hd n).recordOut c hd n
        some (((d.peerInstall c die r).getD d).twnCnt die 1)

/-- A received INSERT. -/
def Dev.emberInsert (d : Dev) (c : Clock) (g die seq : Nat) (image : List Byte) : Dev :=
  d.emberApply c g die seq (fun d => d.peerImage c die image)

/-- fin_rst bits that came from the peer are not journaled back (R389). -/
def Dev.finFromPeer (d : Dev) (die n : Nat) : Dev :=
  match d.resident die n with
  | some (b, s, w) => (match d.entry b s w with
    | some e => d.setEntry b s w { e with finSent := (e.img.finF, e.img.finR) }
    | none => d)
  | none => d

/-- A received UPDATE: the state fields replaced. -/
def Dev.emberUpdate (d : Dev) (c : Clock) (g die seq : Nat) (body : List Byte) : Dev :=
  let f := leAt body 58 1
  let st := leAt body 44 4
  d.emberApply c g die seq (fun d => d.emberFor die (bodyKey body) (fun d hd n =>
    (d.changeRec hd n id (fun i => { i with
      state := st, opA := leAt body 48 5, opB := leAt body 53 5,
      finF := bitOf f 0, finR := bitOf f 1, pickup := bitOf f 2 })).finFromPeer hd n))

/-- A received HOST_UPDATE: the fields of a host UPDATE replaced, without journaling back. -/
def Dev.emberHostUpdate (d : Dev) (c : Clock) (g die seq : Nat) (image : List Byte) : Dev :=
  let r := recOf image
  d.emberApply c g die seq (fun d => d.emberFor die r.fwd (fun d hd n =>
    match d.frec hd n, d.imgNow hd n with
    | some old, some oi =>
      let ni := { oi with rule := r.img.rule, action := r.img.action, mirror := r.img.mirror, state := r.img.state,
                          opA := r.img.opA, opB := r.img.opB }
      let (d, ni) := d.rebind c hd old.fwd oi ni
      d.changeRec hd n (fun x => { x with timeoutSel := r.timeoutSel, flowClass := r.flowClass }) (fun _ => ni)
    | _, _ => d))

/-- A received DELETE. -/
def Dev.emberDelete (d : Dev) (c : Clock) (g die seq : Nat) (body : List Byte) : Dev :=
  d.emberApply c g die seq (fun d => d.emberFor die (bodyKey body) (fun d hd n => d.deleteFlow c hd n false false))

/-- The later of two seconds by 16-bit signed difference. -/
def laterS (a b : Nat) : Nat := if (b + 2 ^ 16 - a % 2 ^ 16) % 2 ^ 16 < 2 ^ 15 then b else a

/-- A received COUNTER: the increments go into word 3, and a later last_seen_s is taken. -/
def Dev.emberCounter (d : Dev) (c : Clock) (g die seq : Nat) (body : List Byte) : Dev :=
  let inc := imgOf 0 (leAt body 44 12 * 2 ^ 160)
  d.emberApply c g die seq (fun d => d.emberFor die (bodyKey body) (fun d hd n =>
    d.changeRec hd n (fun r => { r.flush inc with lastSeenS := laterS r.lastSeenS (leAt body 56 2) }) id))

/-- A received TOUCH. -/
def Dev.emberTouch (d : Dev) (c : Clock) (g die seq : Nat) (body : List Byte) : Dev :=
  d.emberApply c g die seq (fun d => d.emberFor die (bodyKey body) (fun d hd n =>
    d.changeRec hd n (fun r => { r with lastSeenS := laterS r.lastSeenS (leAt body 44 2) }) id))

/-- The 10 ms walk of a die's resident entries: nonzero deltas are flushed (R397). -/
def Dev.counterWalk (d : Dev) (c : Clock) (die : Nat) : Dev :=
  (d.flw.hearth.cells.filter (fun x => x.1.a / 128 == die)).foldl (fun (d : Dev) x =>
    match d.entry x.1.a x.1.b x.1.c with
    | none => d
    | some e =>
      if !e.isRecord || !e.img.hasDeltas || e.lock then d
      else (d.flushDeltas c die e.img).setEntry x.1.a x.1.b x.1.c { e with img := e.img.zeroDeltas, dirty := true }) d

/-! ### Tables discarded (R181, R86, R403) -/

/-- Every record discarded, with what the records named. Packets that wait for a flow look up again; those that hold
an entry go on without it. -/
def Dev.discardTable (d : Dev) (c : Clock) : Dev :=
  let named := d.flw.recs.cells
  let d := named.foldl (fun (d : Dev) x => d.releaseBinding c x.1.a ((d.imgNow x.1.a x.1.b).getD x.2.img)) d
  let waiting := d.flw.hearth.cells.flatMap (fun x => match x.2 with | .entry e => e.waiters | _ => [])
  let d := { d with flw := { d.flw with recs := ⟨[]⟩, index := ⟨[]⟩, spill := ⟨[]⟩, hearth := ⟨[]⟩, fresh := ⟨[]⟩,
                                        returned := ⟨[]⟩ } }
  let free := fun (x : Pkt) => if x.entryAt.isSome then
      { x with entryAt := none, locked := false, creating := false, stateless := true, flow := none } else x
  let d := { d with pkts := d.pkts.map (fun _ x => free x) }
  ((waiting.foldl (fun (d : Dev) w => d.relookup c w) d).recLive 0).recLive 1

/-- This device becomes the receiver of a full Kindling. -/
def Dev.kindleFrom (d : Dev) (c : Clock) : Dev :=
  let d := (d.discardTable c).putB F.TWN_STATUS_alone 0 false
  let d := (d.putB F.TWN_STATUS_empty_start 0 false).setTwinState 2
  let d := { d with twn := { d.twn with kindleEnd := ⟨[]⟩ } }
  if d.flag F.TWN_CTRL_resync_host then d else ((d.put F.TWN_KINDLE_STATUS_records 0 0).put F.TWN_KINDLE_STATUS_progress 0 0).setKstate 1

/-! ### Formation (R84, R86) -/

/-- The twin's decision at its group's formation (R86). -/
def Dev.twinStart (d : Dev) (c : Clock) : Dev :=
  if !d.isTwin || d.twinState != 1 then d
  else match d.twinInfo.map TollInfo.twinState with
    | some 3 => d.kindleFrom c
    | some _ => (d.setTwinState 3).putB F.TWN_STATUS_empty_start 0 true
    | none =>
      (((d.setTwinState 3).putB F.TWN_STATUS_empty_start 0 true).putB F.TWN_STATUS_alone 0 true).raise c .TWN_PEER_MISSING 0 0

/-- The group's view is formed (R84). -/
def Dev.form (d : Dev) (c : Clock) : Dev :=
  if d.twn.formed then d
  else
    let d := { d with twn := { d.twn with formed := true } }
    let missing := d.others.filter (fun q => !d.flag F.PEL_PEER_STATUS_admitted q)
    (missing.foldl (fun d q => d.raise c .PEL_MEMBER_MISSING 10 q [(2, q)]) d).twinStart c

/-- The 400 ms formation timer expires. -/
def Dev.formationTimer (d : Dev) (c : Clock) : Dev :=
  if d.fld F.BOOT_STATUS_phase != 7 || c.phys - d.twn.formStart < edgesMs 400 then d else d.form c

/-- Formation when every member has answered. -/
def Dev.formWhenAll (d : Dev) (c : Clock) : Dev :=
  if d.fld F.BOOT_STATUS_phase == 7 && d.others.all (fun q => d.flag F.PEL_PEER_STATUS_admitted q) then d.form c else d

/-! ### Toll received (R84, R386–R388, R394, R403, R414) -/

/-- A peer in the group answers: admitted unless its image differs. -/
def Dev.admitPeer (d : Dev) (c : Clock) (q : Nat) (serial : Nat) : Dev × Bool :=
  if q != 4 && serial != d.fld F.BOOT_IMAGE_SERIAL_image_serial then
    ((d.putB F.PEL_PEER_STATUS_serial_mismatch q true).raiseLim c .PEL_IMAGE_MISMATCH 10 q [(2, q)] 1000, false)
  else
    let new := !d.flag F.PEL_PEER_STATUS_admitted q
    let d := ((d.putB F.PEL_PEER_STATUS_serial_mismatch q false).putB F.PEL_PEER_STATUS_admitted q true).putB
      F.PEL_PEER_STATUS_lost q false
    (if new && d.twn.formed then d.raise c .PEL_MEMBER_JOINED 10 q [(3, q)] else d, true)

/-- The digests of a peer compared (R414): 1 + the edge a mismatch began is kept; agreement ends it. -/
def Dev.digestCompare (d : Dev) (c : Clock) (q : Nat) (i : TollInfo) : Dev :=
  let same := if d.isTwin && q == d.twn.twinPos then i.devDigest == d.devDigest else i.groupDigest == d.groupDigest
  let p := d.peer q
  if same then
    if p.differAt == 0 then d
    else (d.setPeer q { p with differAt := 0, diverged := false }).raise c .TWN_CFG_AGREE 10 q [(3, q)]
  else if p.differAt == 0 then d.setPeer q { p with differAt := c.phys + 1 }
  else d

/-- What the twin's Toll decides: compatibility, a start that disagrees, applied sequences, the stream (R86, R388,
R394, R399, R403). -/
def Dev.twinToll (d : Dev) (c : Clock) (i : TollInfo) : Dev :=
  let ok := compatOk i.compatAction (d.compatWord 2) && compatOk i.compatSweeper (d.compatWord 3)
  let d := (d.putB F.TWN_STATUS_compat_ok 0 ok).putB F.PEL_PEER_STATUS_compat_mismatch d.twn.twinPos (!ok)
  let d := if ok then d else d.raiseLim c .TWN_COMPAT 0 0 [] 1000
  let d := (d.put F.TWN_STATUS_peer_state 0 i.twinState).putB F.TWN_STATUS_peer_failed 0 false
  let mine := d.flag F.TWN_STATUS_alone
  let yields := d.fld F.TWN_STATUS_role == 2 && d.twinState == 3 && i.twinState == 3 &&
    ((i.alone && mine) || (i.emptyStart && (i.alone || mine)))
  let d := if yields then d.kindleFrom c else d
  let d := if mine && i.twinState == 3 && !i.alone then d.putB F.TWN_STATUS_alone 0 false else d
  let d := if d.kstate == 2 && i.twinState == 3 then d.setKstate 0 else d
  let d := if i.twinState == 2 && d.twinState == 3 && d.kstate == 0 && !d.flag F.TWN_CTRL_resync_host && d.emberLink 0 != none
    then d.kindleSend c 0 else d
  ((d.acked c 0 i.applied0).acked c 1 i.applied1).emberEval c

/-- A received Toll, from a position on the link of a group. -/
def Dev.tollReceive (d : Dev) (c : Clock) (g pos seq : Nat) (i : TollInfo) : Dev :=
  let d := d.takeInbox g 3
  let q := if d.flag F.PEL_GROUP_CFG_cable g then 4 else pos
  let d := d.setPeer q { d.peer q with info := some i, tollIn := true }
  let d := (d.put F.PEL_PEER_STATUS_toll_seq q seq).put F.PEL_PEER_STATUS_twin_state q i.twinState
  match d.admitPeer c q i.serial with
  | (d, false) => d
  | (d, true) =>
    let d := d.formWhenAll c
    let d := if d.isTwin && q == d.twn.twinPos then d.twinToll c i else d
    if seq % 100 == 0 then d.digestCompare c q i else d

/-! ### Losing a peer (R387, R401, R409) -/

/-- The twin has failed (R401): held packets are released, journaling stops and its backlog is discarded. A receiver
in Kindling serves with what it holds (R409). -/
def Dev.failover (d : Dev) (c : Clock) : Dev :=
  let d := (d.raise c .TWN_PEER_FAILED 0 0).putB F.TWN_STATUS_peer_failed 0 true
  let d := d.putB F.TWN_STATUS_alone 0 true
  let d := d.twn.held.foldl (fun d h => d.heldOut c h) d
  let clear := fun (d : Dev) die =>
    let d := (d.setUnacked die []).setBacklog die []
    { d with twn := { d.twn with up := d.twn.up.setNum ⟨die, 0, 0⟩ 0, holdsOn := d.twn.holdsOn.setNum ⟨die, 0, 0⟩ 0,
                                 overflow := d.twn.overflow.setNum ⟨die, 0, 0⟩ 0 } }
  let d := (clear (clear d 0) 1).emberStatus
  if d.twinState == 2 then ((d.setTwinState 3).setKstate 5).raise c .TWN_KINDLE_ABANDONED 0 0
  else if d.kstate == 2 || d.kstate == 3 then d.setKstate 0
  else d

/-- A 10 µs interval ends for a peer. -/
def Dev.intervalEnd (d : Dev) (c : Clock) (q : Nat) : Dev :=
  let p := d.peer q
  let n := if p.tollIn then 0 else p.missedRun + 1
  let d := (d.setPeer q { p with tollIn := false, missedRun := n }).put F.PEL_PEER_STATUS_missed q (min n 65535)
  if n < 3 || p.info.isNone || d.flag F.PEL_PEER_STATUS_lost q || !d.flag F.PEL_PEER_STATUS_admitted q then d
  else
    let d := (d.putB F.PEL_PEER_STATUS_lost q true).putB F.PEL_PEER_STATUS_admitted q false
    let d := d.setPeer q { d.peer q with info := none }
    let d := if q != 4 then d.raise c .PEL_MEMBER_LOST 10 q [(3, q)] else d
    if d.isTwin && q == d.twn.twinPos then d.failover c else d

/-- A 10 µs interval ends (R387). -/
def Dev.tollIntervalEnd (d : Dev) (c : Clock) : Dev := d.peersAll.foldl (fun d q => d.intervalEnd c q) d

/-! ### Kindling, the receiving side (R404–R408) -/

/-- Before die-repair Kindling installs an image (R466): a record of its key that a loss took gives way, its number
staying out of use. -/
def Dev.restorable (d : Dev) (c : Clock) (die : Nat) (fwd : List Byte) : Dev :=
  match d.flw.recs.cells.find? (fun x => x.1.a == die && x.2.fwd == fwd) with
  | none => d
  | some (k, r) =>
    let n := k.b
    if !d.recOut die n then d
    else
      let d := d.indexDrop die n
      let d := match d.resident die n with
        | some (b, s, w) =>
          let ws := ((d.entry b s w).map HEntry.waiters).getD []
          ws.foldl (fun (d : Dev) x => d.relookup c x) (d.dropEntry b s w)
        | none => d
      let d := ({ d with flw := { d.flw with recs := d.flw.recs.erase k } }).releaseBinding c die r.img
      if d.flw.quar.num die n == 0 then d.quarRecord die n 1 else d

/-- One image of a Kindling message: none waits for the flow. -/
def Dev.kindleImage (d : Dev) (c : Clock) (die mode : Nat) (image : List Byte) : Option Dev :=
  let seq := leAt image 180 4
  if !seqNewer seq (d.twn.applied.num die) then some d
  else
    let r := recOf (image.take 180 ++ List.replicate 12 0)
    let done := fun (d : Dev) => d.setApplied die seq
    let count := fun (d : Dev) => d.bump F.TWN_KINDLE_STATUS_records 0
    let d := if mode == 2 then d.restorable c die r.fwd else d
    if mode == 1 then (d.peerImage c die (image.take 180 ++ List.replicate 12 0)).map (fun d => done (count d))
    else match (d.lookup die r.fwd).2 with
      | .found _ _ => some (done (d.twnCnt die 12))
      | _ =>
        if d.underCreation r then none
        else match d.peerInstall c die r with
          | some d => some (done (count d))
          | none => some (done (d.twnCnt die 12))

/-- The images of a message, 192 bytes each. -/
def imagesOf : Nat → List Byte → List (List Byte)
  | 0, _ => []
  | n + 1, bs => bs.take 192 :: imagesOf n (bs.drop 192)

/-- The receiver takes the source's bank key with its table (R181, R404). -/
def Dev.takeBankKey (d : Dev) (k : Word × Word) : Dev :=
  let d := (d.setReg .FLW_BANK_KEY 0 k.1).setReg .FLW_BANK_KEY 1 k.2
  { d with twn := { d.twn with keysAgree := true } }

/-- The Ember link of a pair comes up without either twin kindling (R181): twin A keeps its key; twin B takes it, or with
records discards them and kindles from A. -/
def Dev.emberKeys (d : Dev) (c : Clock) (key : Word × Word) : Dev :=
  let served := d.twinState == 3 && (d.twinInfo.map TollInfo.twinState).getD 0 == 3
  if d.twn.keysAgree || !served then d
  else if d.fld F.TWN_STATUS_role == 1 then { d with twn := { d.twn with keysAgree := true } }
  else if d.flw.recs.cells.isEmpty then d.takeBankKey key
  else d.kindleFrom c

/-- A die's stream comes up (R400): the pair has one bank key, unacknowledged entries go again, then the backlog in
order, or merge Kindling after an overflow. -/
def Dev.emberComeUp (d : Dev) (c : Clock) (die : Nat) (key : Word × Word) : Dev :=
  if d.emberUp die || !d.seesEmber || !((d.twinInfo.map TollInfo.seesEmber).getD false) then d
  else
    let d := ({ d with twn := { d.twn with up := d.twn.up.setNum ⟨die, 0, 0⟩ 1 } }).emberKeys c key
    let d := d.emberResend c die
    let lost := d.twn.overflow.num die == 1
    let back := d.backlog die
    let d := { d.setBacklog die [] with twn := { (d.setBacklog die []).twn with overflow := d.twn.overflow.setNum ⟨die, 0, 0⟩ 0 } }
    let d := if lost then (if d.flag F.TWN_CTRL_resync_host then d else d.kindleSend c 1)
      else back.foldl (fun d m => d.emberOut c die m) d
    d.emberStatus

/-- A channel 2 message: `count` images, or the end of a die stream's Kindling. -/
def Dev.kindlingImage (d : Dev) (c : Clock) (g die mode count : Nat) (body : List Byte) (key : Word × Word) : Dev :=
  let d := d.takeInbox g 2
  if !d.isTwin || (mode == 0 && d.twinState != 2) then d
  else
    let d := if mode == 0 && d.flw.recs.cells.isEmpty && !d.twn.keysAgree then d.takeBankKey key else d
    if count == 0 && mode == 2 then d
    else if count == 0 then
      let d := { d with twn := { d.twn with kindleEnd := d.twn.kindleEnd.setNum ⟨die, 0, 0⟩ (leAt body 0 4 + 1) } }
      let both := d.twn.kindleEnd.num 0 != 0 && d.twn.kindleEnd.num 1 != 0
      if !both then d
      else if mode == 0 then d.setKstate 4
      else if mode == 1 && d.kstate == 3 then { d.setKstate 0 with twn := { d.twn with kindleEnd := ⟨[]⟩ } }
      else d
    else
      let d := (imagesOf (min count 80) body).foldl (fun (d : Dev) im => (d.kindleImage c die mode im).getD d) d
      d.sendAck c die

/-- The lag has stayed within its bound for 1 ms: the receiver serves (R406). -/
def Dev.kindleDone (d : Dev) (c : Clock) : Dev :=
  let within := d.lag c 0 ≤ d.lagBound && d.lag c 1 ≤ d.lagBound &&
    (d.twn.lagBadAt == 0 || edgesMs 1 ≤ c.phys + 1 - d.twn.lagBadAt)
  if d.twinState != 2 || d.kstate != 4 || !within then d
  else
    let d := { (d.setTwinState 3).setKstate 0 with twn := { d.twn with kindleEnd := ⟨[]⟩ } }
    d.raise c .TWN_KINDLE_DONE 0 0

/-- TWN_KINDLE_CTRL.done ends host copying (R408). -/
def Dev.kindleHostDone (d : Dev) (c : Clock) : Dev :=
  if d.kstate == 4 then d.triggerBusy c .TWN_KINDLE_CTRL
  else if d.flag F.TWN_CTRL_resync_host && d.twinState == 2 then d.setKstate 4
  else d

/-! ### Digest divergence (R414) -/

/-- The first component of this device that a peer's list lacks or gives another digest. -/
def Dev.firstDiffer (d : Dev) (q : Nat) (theirs : List DigestPart) : Option DigestPart :=
  let twin := d.isTwin && q == d.twn.twinPos
  let mine := if twin then d.digestParts else d.digestParts.filter (fun p => d.groupSel.contains p.1)
  mine.find? (fun p => !theirs.contains p)

/-- A mismatch has lasted grace_ms: the peer is asked for its digests, and the first that differs is recorded. -/
def Dev.digestDiverge (d : Dev) (c : Clock) (q : Nat) (theirs : List DigestPart) : Dev :=
  let p := d.peer q
  let grace := edgesMs (max 1 (d.fld F.TWN_DIGEST_CTRL_grace_ms))
  if p.differAt == 0 || p.diverged || c.phys + 1 - p.differAt < grace then d
  else
    let ask : PealMsg := ⟨5, d.boardPos % 4 * 2 ^ 2 + bit (q == 4) * 2 ^ 4, leBytes 1 4 ++ List.replicate 27 0, 0⟩
    let d := match (List.range 64).find? (fun g => d.linkUp g && d.linkPeer g == q) with
      | some g => d.pealSend c g ask
      | none => d
    match d.firstDiffer q theirs with
    | none => d
    | some (idx, inst, _) =>
      let twin := d.isTwin && q == d.twn.twinPos
      let d := d.setPeer q { p with diverged := true }
      let d := if d.flag F.TWN_DIVERGE_CAPTURE_valid then d
        else
          let d := (d.putB F.TWN_DIVERGE_CAPTURE_valid 0 true).putB F.TWN_DIVERGE_CAPTURE_kind 0 (!twin)
          ((d.put F.TWN_DIVERGE_CAPTURE_peer 0 q).put F.TWN_DIVERGE_CAPTURE_component 0 idx).put
            F.TWN_DIVERGE_CAPTURE_instance 0 inst
      d.raise c .TWN_CFG_DIVERGE 10 q [(3, q), (24, idx), (16, inst)]

/-! ### Frames of a Peal group (R411) -/

/-- A channel 0 frame: admitted, buffered and queued on the named port with hash term 0. -/
def Dev.packetReceive (d : Dev) (c : Clock) (g port tc ingress colour : Nat) (bs : List Byte) : Dev :=
  let d := d.takeInbox g 0
  let pipe := pipeOf (8 * g)
  let die := dieOf (8 * g)
  let i := pipe % 16
  let k := poolOf (bs.length + 4)
  let q := d.ingressPrio die i bs
  if d.fld F.BPM_PRIO_CFG_max (prioIx die i q) < d.chargeOf die i q + poolUnits k then
    (d.bpmCnt die 4).raiseLim c .BPM_LOSSLESS_DROP 1 die
  else match d.segRequest c die i k (some (i, q)) with
    | (d, .granted h) =>
      d.enqueue c {
        pkt := none, bytes := bs, port, tc, colour, seg := some (h, i), ingress := none,
        ingressPort := ingress, stepEpoch := d.tim.stepEpoch, enqTs48 := 0, ptpOff := none, ipOff := none, udpOff := none,
        hist := none, ioam := none, oneStep := .none, native := false, compat := none, txRing := none, remote := none } 0
    | (d, _) => d

end Sys2Proof.Machine
end

