-- ==== Sys2Proof/Machine/Micro.lean ====
section
/-! DEFINITION. Firmware images and their microcode components (R76, R248, R249, R442). -/
namespace Sys2Proof.Machine

/-- The component table of a firmware image: type and bytes, in order (R76). -/
def fwComponents (image : List Byte) : List (Nat × List Byte) :=
  (List.range (leAt image 16 4)).map (fun i =>
    let o := 64 + 16 * i
    (leAt image o 4, (image.drop (leAt image (o + 4) 4)).take (leAt image (o + 8) 4)))

/-- A microcode component (R248): words of 24 bytes, the microword with its parity above it, and dispatch entries. -/
def componentOf (kind : Nat) (bs : List Byte) : Component :=
  let n := leAt bs 8 4
  let width := if kind == 2 then 20 else 16
  let region := leAt bs 12 4
  let wordAt := fun (i : Nat) =>
    leAt bs (64 + 24 * i) width + leAt bs (64 + 24 * i + width) 1 % 16 * 2 ^ (8 * width)
  let entries := if kind != 2 then 0 else if region == 0 then 256 else 48
  { kind, compat := leAt bs 0 4, first := leAt bs 4 4, region, words := (List.range n).map wordAt,
    dispatch := (List.range entries).map (fun i => leAt bs (64 + 24 * n + 4 * i) 4) }

/-- The microcode components of an image, in component order. -/
def microOf (image : List Byte) : List Component :=
  (fwComponents image).filterMap (fun c => if c.1 == 2 || c.1 == 3 then some (componentOf c.1 c.2) else none)

/-- An instance of a table emptied. -/
def Dev.clearInst (d : Dev) (t : TableId) (inst : Nat) : Dev :=
  { d with tbls := d.tbls.filter (fun k _ => !(k.a == t.num && k.b == inst)) }

/-- A word of a control store with its parity; word 3 marks it loaded. -/
def Dev.storePut (d : Dev) (t : TableId) (inst addr w : Nat) : Dev :=
  (((d.setTw t inst addr 0 (w % 2 ^ 64)).setTw t inst addr 1 (w / 2 ^ 64 % 2 ^ 64)).setTw t inst addr 2
    (w / 2 ^ 128)).setTw t inst addr 3 1

/-- A component loaded into a control store and its dispatch table (R248). Store addresses that a region 0 component
does not load read as words that end the routine. -/
def Dev.loadStore (d : Dev) (inst : Nat) (k : Component) : Dev :=
  let t : TableId := if k.kind == 2 then .ENG_CSTORE else .SWP_CSTORE
  let d := if k.region == 0 then d.clearInst t inst else d
  let d := (k.words.zipIdx).foldl (fun (d : Dev) x => d.storePut t inst (k.first + x.2) x.1) d
  let base := if k.region == 0 then 0 else 0xC0
  (k.dispatch.zipIdx).foldl (fun (d : Dev) x => d.setTw .ENG_DISPATCH inst (base + x.2) 0 x.1) d

/-- The components of a kind loaded into an instance, in component order. -/
def Dev.loadKind (d : Dev) (kind inst : Nat) (ks : List Component) : Dev :=
  (ks.filter (fun k => k.kind == kind)).foldl (fun (d : Dev) k => d.loadStore inst k) d

/-- Components running after some are loaded: each replaces those of its kind and region. -/
def runningAfter (old new : List Component) : List Component :=
  old.filter (fun o => !new.any (fun n => n.kind == o.kind && n.region == o.region)) ++ new

/-- The compatibility word of the Frealrex component of a kind, 0 without one. -/
def compatOf (ks : List Component) (kind : Nat) : Nat :=
  ((ks.find? (fun k => k.kind == kind && k.region == 0)).map Component.compat).getD 0

/-- Whether the running components let these load (R249). -/
def Dev.compatible (d : Dev) (ks : List Component) : Bool :=
  let run := d.roll.running
  ks.all (fun k =>
    run.all (fun v => !(v.kind == k.kind && v.region == k.region) || compatOk k.compat v.compat) &&
    (k.region == 0 || run.all (fun v => !(v.kind == k.kind && v.region == 0) || v.compat / 2 ^ 24 == k.compat / 2 ^ 24)))

/-- Clusters, spares and Sweepers of the device by instance. -/
def clusterInsts : List Nat := (List.range 32).flatMap (fun p => (List.range 6).map (fun k => 8 * p + k))

/-- Instances of the four spare clusters. -/
def spareInsts : List Nat := (List.range 2).flatMap (fun die => (List.range 2).map (fun s => spareInst die s))

/-- The microcode of a boot image loaded everywhere (R81): every cluster in service, every spare on standby. -/
def Dev.loadAll (d : Dev) (ks : List Component) : Dev :=
  let d := (clusterInsts ++ spareInsts).foldl (fun (d : Dev) i => d.loadKind 2 i ks) d
  let d := (List.range 64).foldl (fun (d : Dev) n => d.loadKind 3 n ks) d
  let d := (List.range 4).foldl (fun (d : Dev) s =>
    (d.put F.ENG_SPARE_STATUS_state s 2).put F.ENG_SPARE_STATUS_compat s (compatOf ks 2)) d
  let d := (List.range 192).foldl (fun (d : Dev) k => d.put F.ENG_CLUSTER_STATUS_compat k (compatOf ks 2)) d
  { d with roll := { d.roll with running := ks } }

/-- Whether a firmware image is well formed (R76, R441, R442 step 1). `micro`: only components of types 2 and 3. -/
def fwFormed (image : List Byte) (micro : Bool) : Bool :=
  let len := leAt image 12 4
  let n := leAt image 16 4
  let table := (List.range n).map (fun i => (leAt image (64 + 16 * i) 4, leAt image (68 + 16 * i) 4, leAt image (72 + 16 * i) 4))
  leAt image 0 8 == 0x31304957464B5843 && leAt image 10 2 == 1 && len == image.length && len % 64 == 0 &&
    len ≤ 33554432 && 1600 ≤ len && 1 ≤ n && n ≤ 256 && 64 + 16 * n + 1536 ≤ len &&
    table.all (fun x => x.2.1 + x.2.2 ≤ len - 1536 && (!micro || x.1 == 2 || x.1 == 3)) && blockFormed (sigBlock image)

/-- The checks of R442 in order: 0 accepted, else the reason. -/
def Dev.fwCheck (d : Dev) (image : List Byte) (micro : Bool) : Nat :=
  let epoch := leAt image 23 1
  if !fwFormed image micro then 1
  else if !d.boot.anchors.contains (anchorOf (sigBlock image)) then 2
  else if !imageSigned image then 3
  else if epoch < d.fuse.epoch || 64 < epoch then 4
  else 0

/-- A rejection reason recorded in SEC_STATUS.fw_reject; reason 4 raises EV_SEC_ROLLBACK with both epochs (R442). -/
def Dev.fwReject (d : Dev) (c : Clock) (image : List Byte) (reason : Nat) : Dev :=
  let d := d.put F.SEC_STATUS_fw_reject 0 reason
  if reason == 4 then d.raise c .SEC_ROLLBACK 0 0 [(8, leAt image 23 1), (8, d.fuse.epoch)] else d

/-- A measurement set, or extended by a digest (R447). -/
def Dev.setMeas (d : Dev) (i : Nat) (v : List Byte) : Dev := { d with sec := { d.sec with meas := d.sec.meas.set i v } }

/-- A measurement extended by a digest (R447). -/
def Dev.extendMeas (d : Dev) (i : Nat) (v : List Byte) : Dev := d.setMeas i (sha512 (d.sec.meas.getD i [] ++ v))

end Sys2Proof.Machine
end

