-- ==== Sys2Proof/Machine/Boot.lean ====
section
/-! DEFINITION. Bring-up: phases, images, downloads, resets (03_bring_up.md). What the image writes into registers and
tables is in Apply.lean. -/
namespace Sys2Proof.Machine

/-- The phase the device is in (R62). -/
def Dev.phase (d : Dev) : Nat := d.fld F.BOOT_STATUS_phase

/-- Entry to a phase, with its time since PWRGD rose in µs (R62). -/
def Dev.enterPhase (d : Dev) (c : Clock) (n : Nat) : Dev :=
  ((d.put F.BOOT_STATUS_phase 0 n).putB F.BOOT_STATUS_recovery 0 (n == 8)).put F.BOOT_PHASE_TIME_entry_us n
    (min (c.phys * 4 / 5000) (2 ^ 32 - 1))

/-- Recovery entered, or an image rejected while in it (R70): the event, INT_N until BOOT_STATUS is read. -/
def Dev.recover (d : Dev) (c : Clock) (e : Ev) (error : Option Nat) : Dev :=
  let d := match error with | some x => d.put F.BOOT_STATUS_error 0 x | none => d
  let d := if d.phase == 8 then d else d.enterPhase c 8
  (d.raise c e 0 0).putB F.EVT_INTN_boot 0 true

/-! ### Fuses and anchors (R436–R440) -/

/-- A configuration or debug anchor slot. -/
def Dev.anchor (d : Dev) (dbg : Bool) (slot : Nat) : Anchor :=
  (if dbg then d.fuse.dbg else d.fuse.cfg).get (fun _ => Anchor.empty) ⟨slot, 0, 0⟩

/-- A slot torn by a power loss: digest bits blown, programmed bit at 0 (R437). -/
def Anchor.torn (a : Anchor) : Bool := !a.programmed && !a.digest.isEmpty

/-- Whether a slot counts as revoked (R437): revoked, torn, or failing its code. -/
def Dev.slotRevoked (d : Dev) (dbg : Bool) (slot : Nat) : Bool :=
  let a := d.anchor dbg slot
  a.revoked || a.torn || bitOf (if dbg then d.sec.badDbg else d.sec.badCfg) slot

/-- Whether a slot's anchor is usable (R438). -/
def Dev.slotUsable (d : Dev) (dbg : Bool) (slot : Nat) : Bool :=
  (d.anchor dbg slot).programmed && !d.slotRevoked dbg slot

/-- Slots of each kind. -/
def slotsOf (dbg : Bool) : List Nat := List.range (if dbg then 2 else 8)

/-- The usable slot that holds a digest. -/
def Dev.slotOf (d : Dev) (dbg : Bool) (digest : List Byte) : Option Nat :=
  (slotsOf dbg).find? (fun s => d.slotUsable dbg s && (d.anchor dbg s).digest == digest)

/-- Whether every configuration slot is empty (R440). -/
def Dev.provisioning (d : Dev) : Bool :=
  (slotsOf false).all (fun s => !(d.anchor false s).programmed && (d.anchor false s).digest.isEmpty)

/-- SEC_ANCHOR_STATUS as the fuses give it (R458), for M0 and for reads. -/
def Dev.anchorStatus (d : Dev) : Nat :=
  let mask := fun (dbg : Bool) (f : Nat → Bool) => (slotsOf dbg).foldl (fun m s => putBit m s (f s)) 0
  mask false (fun s => (d.anchor false s).programmed) + mask false (d.slotRevoked false) * 2 ^ 8 +
  mask true (fun s => (d.anchor true s).programmed) * 2 ^ 16 + mask true (d.slotRevoked true) * 2 ^ 18 +
  d.fld F.SEC_ANCHOR_STATUS_slot_used * 2 ^ 24

/-- The fuse check ends (R437). `sound`: the serial, seed, certificate and calibration pass; the masks name anchor slots
that fail their code. -/
def Dev.fuseChecked (d : Dev) (c : Clock) (sound : Bool) (badCfg badDbg : Nat) : Dev :=
  if d.phase != 0 then d
  else if !sound then
    ((d.put F.BOOT_STATUS_error 0 1).enterPhase c 9).pend Ev.SEC_FUSE_FAULT.code (d.evtSeverity Ev.SEC_FUSE_FAULT.code)
  else
    let d := { d with sec := { d.sec with badCfg, badDbg }, boot := { d.boot with phase1At := c.phys } }
    let torn := (slotsOf false).any (fun s => (d.anchor false s).torn) || (slotsOf true).any (fun s => (d.anchor true s).torn)
    let d := if torn then d.raise c .SEC_FUSE_FAULT 0 0 [] (some 2) else d
    let d := (d.putB F.SEC_STATUS_fuse_ok 0 (!torn && badCfg == 0 && badDbg == 0)).putB F.SEC_STATUS_provisioning 0 d.provisioning
    d.enterPhase c 1

/-- The key ladder finishes within 600 ms of phase 1 (R445). -/
def Dev.ladderReady (d : Dev) : Dev :=
  if d.phase == 0 || d.phase == 9 || d.flag F.SEC_STATUS_ladder_blocked then d else d.putB F.SEC_STATUS_ladder_ready 0 true

/-! ### The configuration image (R63–R72) -/

/-- Sections of an image: type, critical bit, positions, offset, length (R64). -/
def imageSections (image : List Byte) : List (Nat × Bool × Nat × Nat × Nat) :=
  (List.range (leAt image 16 4)).map (fun i =>
    let o := 64 + 32 * i
    (leAt image o 4 % 2 ^ 31, leAt image o 4 / 2 ^ 31 == 1, leAt image (o + 4) 1, leAt image (o + 8) 4, leAt image (o + 12) 4))

/-- The sections a position applies, in section-table order, with their contents (R65, R68). -/
def ownSections (image : List Byte) (pos : Nat) : List (Nat × List Byte) :=
  (imageSections image).filterMap (fun s =>
    if bitOf s.2.2.1 pos then some (s.1, (image.drop s.2.2.2.1).take s.2.2.2.2) else none)

/-- Contents of the own sections of a type. -/
def sectionsOf (image : List Byte) (pos type : Nat) : List (List Byte) :=
  (ownSections image pos).filterMap (fun s => if s.1 == type then some s.2 else none)

/-- Check 4 of R67: lengths and offsets within R63 and R64. -/
def imageFits (image : List Byte) : Bool :=
  let len := leAt image 12 4
  let n := leAt image 16 4
  len % 64 == 0 && 4096 ≤ len && len ≤ 67108864 && len ≤ image.length && 1 ≤ n && n ≤ 4096 &&
    (imageSections image).all (fun s =>
      s.2.2.2.1 % 64 == 0 && 64 + 32 * n ≤ s.2.2.2.1 && s.2.2.2.1 + s.2.2.2.2 ≤ len - 1536)

/-- Check 8 of R67: port placement (R10); Peal, Ember and boot-link lanes apart from Ethernet ports; group_members bit 0;
each named position's Peal and boot links mapped. -/
def imageSensible (image : List Byte) (pos : Nat) : Bool :=
  let ports := (sectionsOf image pos 2).flatMap Config.portMap
  let peal := (sectionsOf image pos 3).flatMap Config.pealMap
  let boot := (sectionsOf image pos 3).flatMap Config.bootLinks
  let ember := (sectionsOf image pos 4).flatMap Config.emberGroups
  let lanes := ports.flatMap Prod.snd
  let taken := (peal.map Prod.snd ++ ember).flatMap (fun g => (List.range 8).map (fun i => 8 * g + i)) ++ boot.map Prod.snd
  let members := leAt image 32 4
  let named := (List.range 4).filter (fun k => k != pos && bitOf members k)
  ports.all (fun p => p.2.all (fun l => l / 16 == p.1 / 16)) && taken.all (fun l => !lanes.contains l) && bitOf members 0 &&
    named.all (fun k => peal.any (fun m => m.1 == k) && (pos != 0 && k != 0 || boot.any (fun b => b.1 == k)))

/-- The checks of R67 in order: 0 accepted, else the error code. -/
def Dev.imageCheck (d : Dev) (image : List Byte) : Nat :=
  let len := leAt image 12 4
  let image := if len ≤ image.length then image.take len else image
  let target := leAt image 20 4
  let block := sigBlock image
  if leAt image 0 8 != 0x31304746434B5843 then 2
  else if leAt image 10 2 != 1 then 3
  else if target % 2 ^ 16 != 0x3041 || !bitOf target (if d.flw.twoStack then 17 else 16) || target / 2 ^ 18 != 0 then 4
  else if !imageFits image then 5
  else if !blockFormed block || (d.slotOf false (anchorOf block)).isNone then 7
  else if !imageSigned image then 6
  else if (imageSections image).any (fun s => s.2.1 && (s.1 == 0 || 9 < s.1)) then 9
  else if !imageSensible image d.boardPos then 8
  else 0

/-- Lane groups of the boot links: 60 + k toward position k on the leader, 63 on a member (R71). -/
def Dev.bootGroups (d : Dev) : List Nat := if d.boardPos == 0 then [61, 62, 63] else [63]

/-- An image sent on a boot link in channel 6 messages of up to 8,192 B (R72, R80, R104). -/
def Dev.relayOn (d : Dev) (c : Clock) (g kind : Nat) (image : List Byte) : Dev :=
  (List.range ((image.length + 8191) / 8192)).foldl (fun (d : Dev) i =>
    d.pealSend c g ⟨6, kind + 128 * i * 2, (image.drop (8192 * i)).take 8192, 0⟩) d

/-- An image relayed to every position of a mask (R72, R80). -/
def Dev.relay (d : Dev) (c : Clock) (mask kind : Nat) (image : List Byte) : Dev :=
  if d.boardPos != 0 then d
  else [1, 2, 3].foldl (fun (d : Dev) k => if bitOf mask k then d.relayOn c (60 + k) kind image else d) d

/-- The SDT is published (R32): the NVM read starts on position 0 and boot links begin to train; BOOT_SRC = 1 goes to
recovery (R70, R71). -/
def Dev.sdtPublish (d : Dev) (c : Clock) : Dev :=
  if d.phase != 1 || d.boot.published then d
  else
    let d := { d with boot := { d.boot with published := true, publishedAt := c.phys } }
    if d.flag F.BOOT_STRAPS_boot_src then d.recover c .BOOT_IMAGE_REJECTED none
    else if d.boardPos == 0 then d.emit (.nvmRead 0 0)
    else d.setLinkState c 63 1

/-- The NVM read of R69 has ended; `answered` false: the NVM did not answer. -/
def Dev.nvmRead (d : Dev) (c : Clock) (answered : Bool) (image : List Byte) : Dev :=
  if d.phase != 1 || !d.boot.published || d.boardPos != 0 || d.boot.nvmDone then d
  else
    ({ d with boot := { d.boot with nvmDone := true, full := true, source := 0,
                                    image := if answered then image else [] } }).enterPhase c 2

/-- An image passed every check (R67, R72, R447): phase 3, and the leader relays it. -/
def Dev.imageAccepted (d : Dev) (c : Clock) (image : List Byte) (source : Nat) : Dev :=
  let image := image.take (leAt image 12 4)
  let slot := (d.slotOf false (anchorOf (sigBlock image))).getD 0
  let m0 := sha512 (leBytes 4 Config.romVersion ++ leBytes 4 d.anchorStatus ++ leBytes 1 d.fuse.epoch ++ leBytes 1 slot)
  let d := { d with boot := { d.boot with image, accepted := true, full := false, source, fetch := none,
                                          members := leAt image 32 4 % 16, fwRelay := leAt image 36 4 % 16 },
                    sec := { d.sec with recovery := source == 2 } }
  let d := (d.put F.SEC_ANCHOR_STATUS_slot_used 0 slot).setMeas 0 m0
  (d.relay c d.boot.members 0 image).enterPhase c 3

/-- The image checks finish (R67): from phase 2, or on a relayed image in phase 8 (R70). -/
def Dev.imageVerified (d : Dev) (c : Clock) : Dev :=
  if !((d.phase == 2 || d.phase == 8) && d.boot.full) then d
  else
    let e := d.imageCheck d.boot.image
    if e == 0 then d.imageAccepted c d.boot.image d.boot.source
    else
      ({ d with boot := { d.boot with full := false, image := [] } }).recover c .BOOT_IMAGE_REJECTED (some e)

/-- No complete image 2,000 ms after publication on a member (R70). -/
def Dev.relayTimeout (d : Dev) (c : Clock) : Dev :=
  if d.phase != 1 || !d.boot.published || d.boardPos == 0 || d.boot.full ||
      c.phys - d.boot.publishedAt < edgesMs 2000 then d
  else d.recover c .BOOT_RELAY_TIMEOUT (some 0x0A)

/-- A boot link comes up in boot mode (R71, R109); a leader past its checks relays what the position is due. -/
def Dev.bootLinkUp (d : Dev) (c : Clock) (g : Nat) : Dev :=
  if !d.boot.published || !d.bootGroups.contains g || 7 ≤ d.phase && d.phase != 8 || d.linkState g == 6 then d
  else
    let lane := if d.boardPos == 0 then 8 * g else 504
    let d := ((d.setLinkState c g 6).putB F.PEL_GROUP_CFG_boot g true).put F.LANE_STATUS_state lane 6
    let d := d.setLink g { d.link g with rxMask := 1 }
    if d.boardPos != 0 then d
    else
      let k := g - 60
      let d := if d.boot.accepted && bitOf d.boot.members k then d.relayOn c g 0 d.boot.image else d
      if !d.boot.fw.isEmpty && bitOf d.boot.fwRelay k then d.relayOn c g 1 d.boot.fw else d

/-- Bytes of an image delivered at an offset; offset 0 starts anew (R104). -/
def imageAppend (have_ : List Byte) (offset : Nat) (body : List Byte) : List Byte :=
  if offset == 0 then body else if 64 * offset == have_.length then have_ ++ body else have_

/-- A channel 6 message of the boot link (R70, R72, R80, R104): `kind` 0 configuration, 1 firmware. -/
def Dev.bootImageMessage (d : Dev) (c : Clock) (g kind offset : Nat) (body : List Byte) : Dev :=
  if d.boardPos == 0 || g != 63 || d.linkState g != 6 then d
  else
    let d := d.takeInbox g 6
    if kind == 0 then
      if d.phase != 1 && d.phase != 8 then d
      else
        let image := imageAppend d.boot.image offset body
        let full := 64 ≤ image.length && leAt image 12 4 ≤ image.length
        let d := { d with boot := { d.boot with image, full, source := 1 } }
        if full && d.phase == 1 then d.enterPhase c 2 else d
    else if !bitOf d.boot.fwRelay d.boardPos || (d.phase != 4 && d.phase != 5) then d
    else
      let fw := imageAppend d.boot.fwIn offset body
      let full := 64 ≤ fw.length && leAt fw 12 4 ≤ fw.length
      let d := { d with boot := { d.boot with fwIn := fw, fwFull := full } }
      if full && d.phase == 4 then d.enterPhase c 5 else d

/-! ### Training (R73, R74, R465) -/

/-- The lanes of the map: those of Ethernet ports and of Peal lane groups. -/
def Dev.mapLanes (d : Dev) : List Nat :=
  (List.range 512).filter (fun l => d.pealLane l || (d.portOfLane l).isSome)

/-- A lane of the map begins to train. -/
def Dev.startTraining (d : Dev) : Dev :=
  d.mapLanes.foldl (fun (d : Dev) l => if d.laneState l == 6 then d else d.put F.LANE_STATUS_state l 1) d

/-- A lane's training ends within 500 ms (R74, R75). -/
def Dev.laneTrained (d : Dev) (c : Clock) (n : Nat) (trained : Bool) : Dev :=
  if d.laneState n != 1 then d
  else if !trained then d.laneFail c n 2
  else
    let d := d.laneUp c n
    match d.portOfLane n with
    | some p => if d.cls.live.isEmpty then d.emit (.laneSignal p 1) else d
    | none => d

/-- Channels that failed training are mapped onto the reserve at the start of phase 6 (R465); a second one of a die is
lost without a reserve (R467). -/
def Dev.mapFailed (d : Dev) : Dev :=
  let d := d.boot.hbmFailed.foldl (fun (d : Dev) x =>
    if d.flw.noReserve.num x.1 == 0 then
      let d := d.put F.FLW_HBM_CH_STATUS_state (chIx x.1 x.2) 2
      { d with flw := { d.flw with noReserve := d.flw.noReserve.setNum ⟨x.1, 0, 0⟩ 1 } }
    else
      let d := d.put F.FLW_HBM_CH_STATUS_state (chIx x.1 x.2) 3
      { d with flw := { d.flw with lost := d.flw.lost.setNum ⟨x.1, x.2, 0⟩ 2 } }) d
  { d with boot := { d.boot with hbmFailed := [] } }

/-- HBM training ends; `failed` names channels (die, channel) that failed (R73). -/
def Dev.hbmTrained (d : Dev) (failed : List (Nat × Nat)) : Dev :=
  if !d.boot.published || d.boot.hbmDone then d
  else
    let d := { d with boot := { d.boot with hbmDone := true, hbmFailed := failed.filter (fun x => x.2 < d.channels) } }
    if d.phase == 6 || d.phase == 7 then d.mapFailed else d

/-! ### Downloads (R76–R80) -/

/-- A go of BOOT_FW_CTRL (R77, R79), its kind and extents already written. -/
def Dev.downloadGo (d : Dev) (c : Clock) : Dev :=
  let kind := d.fld F.BOOT_FW_CTRL_kind
  let n := d.fld F.BOOT_FW_CTRL_extents
  if d.boot.fetch.isSome then d.triggerBusy c .BOOT_FW_CTRL
  else if !(d.phase == 4 && kind == 0 || d.phase == 8 && kind == 1) then d.raise c .BOOT_FW_EARLY 0 0
  else if n == 0 || 1024 < n then d.put F.BOOT_STATUS_error 0 0x0B
  else
    let d := { d with boot := { d.boot with fetch := some kind } }
    let d := d.emit (.hostRead (64 * d.fld F.BOOT_FW_LIST_list_addr) (16 * n))
    if kind == 0 then d.enterPhase c 5 else d

/-- A fetch in progress is abandoned (R79). -/
def Dev.fetchAbandon (d : Dev) (c : Clock) : Dev :=
  match d.boot.fetch with
  | none => d
  | some kind =>
    let d := ({ d with boot := { d.boot with fetch := none } }).put F.BOOT_STATUS_error 0 0x0C
    if kind == 0 && d.phase == 5 then d.enterPhase c 4 else d

/-- `n` random bytes (R444). -/
def Dev.randomBytes (d : Dev) : Nat → Dev × List Byte
  | 0 => (d, [])
  | n + 1 =>
    let (x, d) := d.draw Config.random
    let (d, rest) := d.randomBytes n
    (d, leBytes 8 x.toNat ++ rest)

/-- The keys of R444 drawn: FLW_FP_KEY, FLW_BANK_KEY, NAT_HASH_KEY. -/
def Dev.drawKeys (d : Dev) : Dev :=
  let (x, d) := d.draw Config.random
  let (y, d) := d.draw Config.random
  let (b0, d) := d.draw Config.random
  let (b1, d) := d.draw Config.random
  let (n0, d) := d.draw Config.random
  let (n1, d) := d.draw Config.random
  let d := { d with flw := { d.flw with fpKey := (x, y) } }
  (((d.setReg .FLW_BANK_KEY 0 b0).setReg .FLW_BANK_KEY 1 b1).setReg .NAT_HASH_KEY 0 n0).setReg .NAT_HASH_KEY 1 n1

/-- A firmware image verified (R77, R78, R80, R81, R447): phase 6, microcode loaded, cores started, keys drawn. -/
def Dev.fwAccepted (d : Dev) (c : Clock) (image : List Byte) : Dev :=
  let ks := microOf image
  let anchorIx := d.boot.anchors.findIdx (fun a => a == anchorOf (sigBlock image))
  let version := leAt image 20 4
  let d := { d with boot := { d.boot with fetch := none, fwIn := [], fwFull := false, fw := image },
                    sec := { d.sec with fwAnchor := anchorIx, fwVersion := version } }
  let d := { d with rel := { d.rel with slots := d.rel.slots.put ⟨d.fld F.BOOT_SWAP_STATUS_running_slot, 0, 0⟩ ⟨image, true⟩ } }
  let d := (d.setMeas 2 (sha512 image)).setMeas 3 (List.replicate 64 0)
  let d := ((fwComponents image).filter (fun k => k.1 == 2 || k.1 == 3)).foldl (fun (d : Dev) k => d.extendMeas 3 (sha512 k.2)) d
  let d := if d.boot.expired then
      (d.mapLanes.foldl (fun (d : Dev) l => d.put F.LANE_STATUS_state l 1) (d.putB F.BOOT_STATUS_hold_lanes 0 false))
    else d
  let d := { d with boot := { d.boot with windowAt := none, expired := false } }
  let d := ((d.relay c d.boot.fwRelay 1 image).enterPhase c 6).mapFailed
  ((d.loadAll ks).put F.GLB_CORE_STATUS_in_service 0 0xFF).drawKeys

/-- The fetch or relay of a firmware image has ended and its checks run (R77, R442). -/
def Dev.fwFetched (d : Dev) (c : Clock) (relayed : Bool) (image : List Byte) : Dev :=
  if d.phase != 5 then d
  else
    let image := if relayed then d.boot.fwIn else image
    if !(if relayed then d.boot.fwFull else d.boot.fetch == some 0) then d
    else
      let r := d.fwCheck image false
      if r == 0 then d.fwAccepted c image
      else
        let d := if relayed then { d with boot := { d.boot with fwIn := [], fwFull := false } }
          else { d with boot := { d.boot with fetch := none } }
        let d := (d.fwReject c image r).raise c .BOOT_FW_REJECTED 0 0
        let d := d.put F.BOOT_STATUS_error 0 0x0B
        if d.boot.fetch.isSome || d.boot.fwFull then d else d.enterPhase c 4

/-- A recovery image has been fetched and checked (R70). -/
def Dev.cfgFetched (d : Dev) (c : Clock) (image : List Byte) : Dev :=
  if d.phase != 8 || d.boot.fetch != some 1 then d
  else
    let d := { d with boot := { d.boot with fetch := none } }
    let e := d.imageCheck image
    if e == 0 then d.imageAccepted c image 2 else d.recover c .BOOT_IMAGE_REJECTED (some e)

/-- The firmware window expires after 60,000 ms in phase 4 or 5 (R78). -/
def Dev.windowTimeout (d : Dev) (c : Clock) : Dev :=
  match d.boot.windowAt with
  | none => d
  | some t =>
    if !(d.phase == 4 || d.phase == 5) || d.boot.expired || c.phys - t < edgesMs 60000 then d
    else
      let d := { d with boot := { d.boot with expired := true } }
      let d := (d.putB F.BOOT_STATUS_hold_lanes 0 true).put F.BOOT_STATUS_error 0 0x0D
      let lanes := (List.range 512).filter (fun l => d.laneState l != 0)
      let d := lanes.foldl (fun (d : Dev) l => ((d.put F.LANE_STATUS_state l 5).put F.LANE_STATUS_rx_signal l 0).put
        F.LANE_STATUS_fec_lock l 0) d
      let d := (List.range 64).foldl (fun (d : Dev) g => if d.linkState g == 0 then d else d.linkDown c g) d
      let d := d.net.configured.foldl (fun (d : Dev) p => d.linkEval c p false) d
      d.raise c .BOOT_FW_TIMEOUT 0 0

/-- Milliseconds left in the firmware window (BOOT_STATUS.fw_window_ms). -/
def Dev.windowMs (d : Dev) (c : Clock) : Nat :=
  match d.boot.windowAt with
  | some t => if d.boot.expired then 0 else 60000 - (c.phys - t) / edgesMs 1
  | none => 0

/-! ### Going live (R83, R84, R110) -/

/-- A boot lane leaves boot mode (R110): its group's link comes up without it, or the lane goes idle. -/
def Dev.leaveBootMode (d : Dev) (c : Clock) (g : Nat) : Dev :=
  if d.linkState g != 6 then d
  else
    let lane := 8 * g
    let d := (d.putB F.PEL_GROUP_CFG_boot g false).setLink g Link.init
    if !d.flag F.PEL_GROUP_CFG_peal_en g then (d.put F.LANE_STATUS_state lane 0).setLinkState c g 0
    else
      let d := (d.put F.LANE_STATUS_state lane 1).setLinkState c g 1
      let up := (maskLanes (d.fld F.PEL_GROUP_CFG_lane_mask g)).filter (fun i => d.laneState (8 * g + i) == 2)
      if up.isEmpty then d
      else (d.put F.PEL_LINK_STATUS_lanes_up g (up.foldl (fun m i => putBit m i true) 0)).toKeying c g

/-- Phase 6 ends with the commit that makes generation 0 live (R16, R83): intake opens, ports leave the state of R75,
twins start, Toll and the formation timer start (R84, R86). -/
def Dev.generation0 (d : Dev) (c : Clock) : Dev :=
  if d.phase != 6 then d
  else
    let d := (d.commitNow.enterPhase c 7).raise c .BOOT_RUNNING 0 0
    let d := d.net.configured.foldl (fun (d : Dev) p => d.emit (.laneSignal p 0)) d
    let d := d.bootGroups.foldl (fun (d : Dev) g => d.leaveBootMode c g) d
    let d := if d.isTwin then d.setTwinState 1 else d
    let d := { d with twn := { d.twn with formed := false, formStart := c.phys } }
    d.formWhenAll c

/-! ### Resets (R39, R88, R89, R495) -/

/-- A register's value after a warm reset: RWS, WO1 and LK fields are kept (R39). -/
def Reg.warmValue (r : Reg) (ix : Nat) (v : Word) : Word :=
  r.fields.foldl (fun w (f : FieldInfo) =>
    if f.acc == .rws || f.acc == .wo1 || f.acc == .lk then
      BitVec.ofNat 64 (putBits w.toNat f.fld.lo f.fld.bits (bitsOf v.toNat f.fld.lo f.fld.bits))
    else w) (r.resetOf ix)

/-- Registers that a warm reset leaves whole: what they report outlives it (log entry 63). -/
def warmKept : List Reg :=
  [.BOOT_STRAPS, .BOOT_PHASE_TIME, .BOOT_IMAGE_SERIAL, .SEC_STATUS, .SEC_ANCHOR_STATUS, .GLB_LIFE_HIST, .PWR_STATUS,
   .PWR_RAIL_STATUS, .PWR_TEMP, .PWR_HBM_TEMP, .CLK_REF_STATUS, .TIM_LEDGER_STATUS]

/-- The register file after a warm reset. -/
def warmRegs (t : Tbl Word) : Tbl Word :=
  ⟨t.cells.filterMap (fun x => match Reg.ofNum x.1.a with
    | none => none
    | some r =>
      let v := if warmKept.contains r then x.2 else r.warmValue x.1.b x.2
      if v == r.resetOf x.1.b then none else some (x.1, v))⟩

/-- What a warm reset keeps of the flow store (R88, R465–R469): the part, channel mapping, retired record numbers. -/
def FlwSt.warm (f : FlwSt) : FlwSt :=
  { FlwSt.init with
    twoStack := f.twoStack, noReserve := f.noReserve, lost := f.lost.filter (fun _ v => v == 2),
    quar := f.quar.filter (fun _ v => v == 3) }

/-- A warm reset but for its phase (R88): the time, the ledger, retired segments and TCAM entries, dead keys, fuses and
what has been sent are kept. -/
def Dev.warm (d : Dev) : Dev :=
  let n := Dev.cold d.fuse
  let ch := (List.range 64).filterMap (fun k =>
    let s := d.fld F.FLW_HBM_CH_STATUS_state k
    if s == 2 || s == 3 then some (k, s) else none)
  let d' : Dev := { n with
    regs := warmRegs d.regs, out := d.out, draws := d.draws, nextPkt := d.nextPkt,
    tim := { TimSt.init with
      stepEpoch := d.tim.stepEpoch, calEpoch := d.tim.calEpoch, loopAdj := d.tim.loopAdj, chipTemp := d.tim.chipTemp,
      ledger := d.tim.ledger, blocks := d.tim.blocks, openRecs := d.tim.openRecs, ledgerSec := d.tim.ledgerSec },
    bpm := { n.bpm with segs := d.bpm.segs.filter (fun _ s => s.retired) },
    cls := { n.cls with defective := d.cls.defective },
    net := { n.net with keysDead := d.net.keysDead },
    flw := d.flw.warm,
    host := { HostSt.init with linkUp := d.host.linkUp, d3hot := d.host.d3hot, aliveAt := d.host.aliveAt },
    boot := { BootSt.init with
      published := d.boot.published, publishedAt := d.boot.publishedAt, phase1At := d.boot.phase1At,
      nvmDone := d.boot.nvmDone, retained := d.boot.retained, retainedHash := d.boot.retainedHash,
      source := d.boot.source, hbmDone := d.boot.hbmDone },
    sec := { SecSt.init with
      badCfg := d.sec.badCfg, badDbg := d.sec.badDbg, recovery := d.sec.recovery, warmResets := d.sec.warmResets + 1,
      jtag := d.sec.jtag, pinsOut := d.sec.pinsOut, minEpoch := d.sec.minEpoch },
    pwr := { d.pwr with waiting := [], tripAt := none, stopped := false } }
  let d' := ch.foldl (fun (e : Dev) k => e.put F.FLW_HBM_CH_STATUS_state k.1 k.2) d'
  let d' := ((d'.put F.SEC_STATUS_scope 0 0).put F.SEC_STATUS_fw_reject 0 0).put F.SEC_STATUS_chal_valid 0 0
  d'.put F.PWR_STATUS_trip 0 0

/-- A warm reset (R89). `damaged`: the retained copy no longer reads as it was kept. -/
def Dev.warmReset (d : Dev) (c : Clock) (damaged : Bool) : Dev :=
  let d := d.warm
  if !damaged && d.boot.retainedHash == sha512 d.boot.retained then
    let image := d.boot.retained
    let slot := d.fld F.SEC_ANCHOR_STATUS_slot_used
    let m0 := sha512 (leBytes 4 Config.romVersion ++ leBytes 4 d.anchorStatus ++ leBytes 1 d.fuse.epoch ++ leBytes 1 slot)
    let d := { d with boot := { d.boot with image, accepted := true, members := leAt image 32 4 % 16,
                                            fwRelay := leAt image 36 4 % 16 } }
    (d.setMeas 0 m0).enterPhase c 3
  else d.recover c .BOOT_IMAGE_REJECTED (some 0x0E)

/-- A cold reset: the straps sampled, phase 0, the clock from zero (R61, R82, R88). -/
def coldReset (s : State) (boardPos : Nat) (bootSrc : Bool) : State :=
  let d := { Dev.cold s.dev.fuse with out := s.dev.out, draws := s.dev.draws }
  let d := { d with flw := { d.flw with twoStack := s.dev.flw.twoStack } }
  let d := (d.put F.BOOT_STRAPS_board_pos 0 boardPos).putB F.BOOT_STRAPS_boot_src 0 bootSrc
  { s with clk := Clock.zero, dev := d }

/-- A read of BOOT_STATUS clears the boot bit of EVT_INTN (R434). -/
def Dev.bootStatusRead (d : Dev) : Dev := d.putB F.EVT_INTN_boot 0 false

end Sys2Proof.Machine
end

