-- ==== Sys2Proof/Machine/HostIf.lean ====
section
/-! DEFINITION. The host interface: doorbells, transmit descriptors, fetch errors, function modes, host absence, the PCIe
link (R79, R88, R90, R91, R417–R430, R433). -/
namespace Sys2Proof.Machine

/-! ### Receive and transmit rings -/

/-- Items that wait in FIFOs with a host consumer are offered again (R327, R421). -/
def Dev.fifOffer (d : Dev) (c : Clock) : Dev :=
  (d.fifos.cells.map (fun x => x.1.a)).foldl (fun (d : Dev) f =>
    if d.fld F.FIF_CFG_consumer f == 2 && (d.fifo f).woken then (d.fifDeliver c f (d.fifo f).whole.length).fifStatus f
    else d) d

/-- A write of a receive ring's tail posts descriptors, with the buffer addresses they hold (R420, R421). -/
def Dev.rxDoorbell (d : Dev) (c : Clock) (r tail : Nat) (bufs : List Nat) : Dev :=
  let n := d.rxSize r
  let old := d.fld F.HST_RXR_PTR_tail r % n
  let d := d.put F.HST_RXR_PTR_tail r tail
  let rx := bufs.zipIdx.foldl (fun (t : Tbl Nat) x => t.setNum ⟨r, (old + x.2) % n, 0⟩ x.1) d.host.rxBuf
  ({ d with host := { d.host with rxBuf := rx } }).fifOffer c

/-- A write of a transmit ring's tail (R420). -/
def Dev.txDoorbell (d : Dev) (r tail : Nat) : Dev := d.put F.HST_TXR_PTR_tail r tail

/-- Whether a descriptor is valid (R424, R425). -/
def Dev.txValid (d : Dev) (x : TxDesc) : Bool :=
  x.length.toNat == x.frame.length && 60 ≤ x.frame.length && x.frame.length ≤ 9212 &&
    d.net.configured.contains x.port.val && x.reservedOk

/-- An invalid descriptor completes with status 2 (R425). -/
def Dev.txInvalid (d : Dev) (c : Clock) (r slot : Nat) : Dev :=
  ((d.txFetch r slot 0).txComplete c r slot 2 none).raiseLim c .HST_TX_DESC_INVALID 10 r [(11, r)]

/-- The IP header of a frame after up to two tags, for the checksum of a PTP message (R362, R363). -/
def frameIp (bs : List Byte) : Option (Nat × Bool) :=
  let skip := fun (o : Nat) => if etherType (bs.drop (o - 12)) == 0x8100 || etherType (bs.drop (o - 12)) == 0x88A8 then o + 4 else o
  let o := skip (skip 12)
  match etherType (bs.drop (o - 12)) with
  | 0x0800 => some (o + 2, false)
  | 0x86DD => some (o + 2, true)
  | _ => none

/-- The segment of a ring's next frame (R425): none when the fetch waits and is retried. -/
def Dev.txSegment (d : Dev) (c : Clock) (r port len : Nat) : Dev × Option Nat :=
  match d.segRequest c (dieOf port) (128 + d.fld F.HST_TXR_CFG2_requester r) (poolOf (len + 4)) none with
  | (d, .granted h) => (d, some h)
  | (d, _) => (d, none)

/-- A direct transmit descriptor (R424, R425). -/
def Dev.txDirect (d : Dev) (c : Clock) (r : Nat) (x : TxDesc) : Dev :=
  match d.txNext r with
  | none => d
  | some slot =>
    if !d.txValid x then d.txInvalid c r slot
    else
      let p := x.port.val
      match d.txSegment c r p x.frame.length with
      | (d, none) => d
      | (d, some h) =>
        let ptp := if x.ptpOff.toNat == 0 then none else some x.ptpOff.toNat
        let ip := frameIp x.frame
        let one : OneStep := match x.oneStep.val with
          | 1 => .origin
          | 2 => .turnaround x.stamp
          | _ => .none
        (d.txFetch r slot (x.frame.length + 4)).enqueue c {
          pkt := none, bytes := x.frame, port := p, tc := x.tc.val, colour := 0,
          seg := some (h, 128 + d.fld F.HST_TXR_CFG2_requester r), ingress := none, ingressPort := 0,
          stepEpoch := d.tim.stepEpoch, enqTs48 := c.stamp.ts48, ptpOff := ptp, ipOff := ip,
          udpOff := if ip.isSome then ptp.map (fun o => o - 8) else none, hist := none, ioam := none, oneStep := one,
          native := x.native, compat := if x.compat then some x.compatId.toNat else none,
          txRing := some (r, slot), remote := none } 0

/-- An inject descriptor: its frame waits for an intake slot of the ingress port's pipeline (R17, R18, R424, R425). -/
def Dev.txInject (d : Dev) (c : Clock) (r : Nat) (x : TxDesc) : Dev :=
  match d.txNext r with
  | none => d
  | some slot =>
    if !d.txValid x then d.txInvalid c r slot
    else
      let p := x.port.val
      match d.txSegment c r p x.frame.length with
      | (d, none) => d
      | (d, some h) =>
        let d := d.txFetch r slot (x.frame.length + 4)
        let (d, id) := d.newPkt p .injected x.frame c.stamp (some (h, 128 + d.fld F.HST_TXR_CFG2_requester r)) 0 x.start.toNat
        let d := d.modPkt id (fun y => { y with unordered := true, txRing := some (r, slot) })
        let s := d.pipe (pipeOf p)
        d.setPipe (pipeOf p) { s with side := s.side ++ [id] }

/-- The end of a ring's moderation interval (R426). -/
def Dev.msixFire (d : Dev) (c : Clock) (kind n : Nat) : Dev :=
  if d.msix.waiting.contains (kind, n) && d.itrPassed c kind n then d.fireRing c kind n else d

/-- A failed descriptor or buffer read (R427). `kind`: 0 receive ring, 1 transmit ring, 2 flow command ring of die `n`,
3 distribution ring; `frame`: a received frame was to use the descriptor. -/
def Dev.fetchError (d : Dev) (c : Clock) (kind n : Nat) (frame : Bool) : Dev :=
  let say := fun (d : Dev) => (d.raise c .HST_FETCH_ERROR 10 n [(16, n)]).emit .aer
  match kind with
  | 0 =>
    if !d.rxLive n then d
    else
      let d := d.putB F.HST_RXR_CFG_enable n false
      say (if frame then d.bump F.HST_RXR_CNT_count (3 * n + 2) else d)
  | 1 =>
    match d.txNext n with
    | none => d
    | some slot => say (((d.txFetch n slot 0).txComplete c n slot 3 none).putB F.HST_TXR_CFG_enable n false)
  | 2 => say { d with host := { d.host with stopped := (n % 2) :: d.host.stopped.filter (fun x => x != n % 2) } }
  | _ =>
    say { d with
      host := { d.host with stopped := 2 :: d.host.stopped.filter (fun x => x != 2) }
      dist := { d.dist with cur := none } }

/-- A ring that stopped without an enable bit resumes at a write of its tail (R427). -/
def Dev.ringResume (d : Dev) (n : Nat) : Dev :=
  { d with host := { d.host with stopped := d.host.stopped.filter (fun x => x != n) } }

/-- Write-backs that waited for DMA leave, and items that wait are offered again. -/
def Dev.dmaResume (d : Dev) (c : Clock) : Dev :=
  ((d.host.txOut.cells.map (fun x => x.1.a)).foldl (fun (d : Dev) r => d.txFlush c r (d.txList r)) d).fifOffer c

/-- A move between D0 and D3hot (R417). -/
def Dev.setD3hot (d : Dev) (c : Clock) (on : Bool) : Dev :=
  if d.host.d3hot == on then d
  else
    let d := { d with host := { d.host with d3hot := on } }
    if on then d else d.dmaResume c

/-! ### Event rings (R433) -/

/-- A ring that just became enabled starts afresh. -/
def Dev.evtRingStart (d : Dev) (k : Nat) (was : Bool) : Dev :=
  if was || !d.evtEnabled k then d
  else ((d.put F.EVT_RING_PTR_head k 0).put F.EVT_RING_PTR_rd k 0).setEvtRing k EvtRing.init

/-- EVT_RING_CFG.enable written to 1 (R433). -/
def Dev.evtRingEnable (d : Dev) (k : Nat) : Dev :=
  let was := d.evtEnabled k
  (d.putB F.EVT_RING_CFG_enable k true).evtRingStart k was

/-! ### Function modes (R428–R430, R90) -/

/-- Whether a function is in host mode (R428). -/
def Dev.hostMode (d : Dev) (n : Nat) : Bool :=
  match n with
  | 0 => d.flag F.FLW_CTRL_ins_host 0
  | 1 => d.flag F.FLW_CTRL_age_host 0
  | 2 => d.flag F.NAT_CTRL_alloc_host
  | 3 => d.flag F.NAT_CTRL_frag_host
  | 4 => d.flag F.LBL_CTRL_health_host
  | 5 => d.flag F.TIM_CTRL_servo_host
  | 6 => d.flag F.TEL_CTRL_exp_host
  | 7 => !d.flag F.TCM_SLICE_CFG_hw_holes 0
  | _ => d.flag F.TWN_CTRL_resync_host

/-- A function's mode field written (R428). -/
def Dev.setHostMode (d : Dev) (n : Nat) (host : Bool) : Dev :=
  let d := match n with
    | 0 => (d.putB F.FLW_CTRL_ins_host 0 host).putB F.FLW_CTRL_ins_host 1 host
    | 1 => (d.putB F.FLW_CTRL_age_host 0 host).putB F.FLW_CTRL_age_host 1 host
    | 2 => d.putB F.NAT_CTRL_alloc_host 0 host
    | 3 => d.putB F.NAT_CTRL_frag_host 0 host
    | 4 => d.putB F.LBL_CTRL_health_host 0 host
    | 5 => d.putB F.TIM_CTRL_servo_host 0 host
    | 6 => d.putB F.TEL_CTRL_exp_host 0 host
    | 7 => (List.range 32).foldl (fun (d : Dev) p => d.putB F.TCM_SLICE_CFG_hw_holes p (!host)) d
    | _ => d.putB F.TWN_CTRL_resync_host 0 host
  d.put F.HST_MODE_STATUS_host_modes 0 (putBit (d.fld F.HST_MODE_STATUS_host_modes) n host)

/-- Whether the ring groups a function's host mode uses are valid (R429 error 2). -/
def Dev.groupsValid (d : Dev) (n : Nat) : Bool :=
  match n with
  | 0 => (List.range 16).all (fun k => d.groupValid (d.fld F.FLW_CLASS_CFG_punt_ring k))
  | 3 => d.groupValid (d.fld F.HST_FRAG_CFG_group)
  | 6 => d.groupValid (d.fld F.TEL_EXP_CFG_host_ring 0) && d.groupValid (d.fld F.TEL_EXP_CFG_host_ring 1)
  | _ => true

/-- The refusal of a move (R429): 0 none, in the order of its error numbers. -/
def Dev.moveRefusal (d : Dev) (n : Nat) (host : Bool) : Nat :=
  if 8 < n then 1
  else if host && !d.groupsValid n then 2
  else if host && d.flag F.HST_HOSTLOSS_CTRL_absent then 3
  else 0

/-- What a move changes besides its mode field (R430). -/
def Dev.modeTransition (d : Dev) (c : Clock) (n : Nat) (host : Bool) : Dev :=
  match n, host with
  | 0, false => (d.pendingClear c 0).pendingClear c 1
  | 4, false => { d with nat := { d.nat with probes := ⟨[]⟩ } }
  | 5, true => { d with tim := { d.tim with hostLedger := false } }
  | 5, false => { d with tim := { d.tim with servo := .acquiring } }
  | 6, true => (d.expSend c 0).expSend c 1
  | 6, false => (d.templateSend c 0).templateSend c 1
  | _, _ => d

/-- A move starts (R429): refused, done at once, or begun. -/
def Dev.moveStart (d : Dev) (c : Clock) (n : Nat) (host : Bool) : Dev :=
  let r := d.moveRefusal n host
  if r != 0 then (d.put F.HST_MODE_STATUS_error 0 r).raise c .HST_MODE_REFUSED 10 n [(4, n), (8, r)]
  else if d.hostMode n == host then d.raise c .HST_MODE_DONE 10 n [(4, n), (1, bit host)]
  else
    let d := (d.putB F.HST_MODE_STATUS_busy 0 true).put F.HST_MODE_STATUS_current 0 n
    { d with host := { d.host with move := some (n, host) } }

/-- Whether a firmware swap is in its states 1–4 (R476). -/
def Dev.swapBusy (d : Dev) : Bool := 1 ≤ d.fld F.BOOT_SWAP_STATUS_state && d.fld F.BOOT_SWAP_STATUS_state ≤ 4

/-- HST_MODE_CTRL.go with its function and mode already written (R429, R476). -/
def Dev.modeGo (d : Dev) (c : Clock) : Dev :=
  if d.flag F.HST_MODE_STATUS_busy || d.swapBusy then d.triggerBusy c .HST_MODE_CTRL
  else d.moveStart c (d.fld F.HST_MODE_CTRL_function) (d.flag F.HST_MODE_CTRL_mode)

/-- The next move that host absence asks for begins (R90, R429). -/
def Dev.absenceMove (d : Dev) (c : Clock) : Dev :=
  if !d.flag F.HST_HOSTLOSS_CTRL_absent || d.host.move.isSome then d
  else match (List.range 9).find? (fun n => d.hostMode n && !bitOf (d.fld F.HST_HOSTLOSS_CTRL_stay) n) with
    | some n => d.moveStart c n false
    | none => d

/-- Firmware completes the move in progress (R429, R430); none while no control core serves (R472). -/
def Dev.modeDone (d : Dev) (c : Clock) : Dev :=
  match d.host.move with
  | none => d
  | some (n, host) =>
    if d.fld F.GLB_CORE_STATUS_in_service == 0 then d
    else
      let d := { d with host := { d.host with move := none } }
      let d := ((d.modeTransition c n host).setHostMode n host).putB F.HST_MODE_STATUS_busy 0 false
      (d.raise c .HST_MODE_DONE 10 n [(4, n), (1, bit host)]).absenceMove c

/-! ### Presence of the host (R90, R91) -/

/-- Heartbeat timeout in ms: 1–9 act as 10, above 10,000 as 10,000, 0 disables the test (R90). -/
def Dev.aliveLimit (d : Dev) : Nat :=
  let t := d.fld F.HST_HOSTLOSS_CTRL_timeout_ms
  if t == 0 then 0 else min (max t 10) 10000

/-- Whether the host counts as absent now (R90). -/
def Dev.hostGone (d : Dev) (c : Clock) : Bool :=
  (!d.host.linkUp && edgesMs 1 ≤ c.phys - d.host.downAt) ||
  (d.host.aliveMs != 0 && edgesMs d.host.aliveMs ≤ c.phys - d.host.aliveAt)

/-- The host is absent (R90). -/
def Dev.hostAbsent (d : Dev) (c : Clock) : Dev :=
  if d.phase != 7 || d.flag F.HST_HOSTLOSS_CTRL_absent || !d.hostGone c then d
  else
    let d := ((d.putB F.HST_HOSTLOSS_CTRL_absent 0 true).putB F.EVT_INTN_host_absent 0 true).raise c .HST_HOST_LOST 0 0
    d.smbAlert.absenceMove c

/-- A write to HST_HOST_ALIVE.beat restarts the timer; with the link up the host is present again (R90, R91). -/
def Dev.hostBeat (d : Dev) (c : Clock) : Dev :=
  let d := { d with host := { d.host with aliveAt := c.phys, aliveMs := d.aliveLimit } }
  if d.flag F.HST_HOSTLOSS_CTRL_absent && d.host.linkUp then
    (((d.putB F.HST_HOSTLOSS_CTRL_absent 0 false).putB F.EVT_INTN_host_absent 0 false).raise c .HST_HOST_RETURNED 0 0).smbAlert
  else d

/-! ### The PCIe link and its reset (R79, R88, R484) -/

/-- The PCIe link drops (R79, R90): a fetch is abandoned and absence timing starts. -/
def Dev.pcieDown (d : Dev) (c : Clock) : Dev :=
  if !d.host.linkUp then d
  else ({ d with host := { d.host with linkUp := false, downAt := c.phys } }).fetchAbandon c

/-- The PCIe link comes up once the SDT is published (R484). -/
def Dev.pcieUp (d : Dev) (c : Clock) : Dev :=
  if !d.boot.published || d.host.linkUp then d
  else ({ d with host := { d.host with linkUp := true } }).dmaResume c

/-- Whether a register lies in the HST range of BAR0, the MSI-X table and PBA among them (R29, R418). -/
def hstReg (n : Nat) : Bool :=
  match Reg.ofNum n with
  | some r => 0x80000 ≤ r.base && r.base < 0x100000
  | none => false

/-- Frames and packets forget the transmit descriptors they would complete. -/
def Dev.forgetTx (d : Dev) : Dev :=
  let frame := fun (f : EFrame) => { f with txRing := none }
  { d with
    pkts := d.pkts.map (fun _ x => { x with txRing := none, frames := x.frames.map frame }),
    sch := { d.sch with leaf := d.sch.leaf.map (fun _ l => l.map frame),
                        wire := d.sch.wire.map (fun _ l => l.map (fun w => { w with frame := frame w.frame })) } }

/-- A PCIe reset (R79, R88): the HST block, its rings and MSI-X are reset while forwarding continues. What the status
fields report of modes, a move and absence is as before. `flr`: a function-level reset, which leaves the link up. -/
def Dev.pcieReset (d : Dev) (c : Clock) (flr : Bool) : Dev :=
  let d := (if flr then d.fetchAbandon c else d.pcieDown c).forgetTx
  let absent := d.fld F.HST_HOSTLOSS_CTRL_absent
  let modes := d.fld F.HST_MODE_STATUS_host_modes
  let d := { d with
    regs := d.regs.filter (fun k _ => !hstReg k.a),
    msix := ⟨⟨[]⟩, []⟩,
    host := { HostSt.init with move := d.host.move, linkUp := d.host.linkUp, downAt := d.host.downAt,
                               aliveAt := d.host.aliveAt, stopped := d.host.stopped } }
  let d := (d.put F.HST_HOSTLOSS_CTRL_absent 0 absent).put F.HST_MODE_STATUS_host_modes 0 modes
  match d.host.move with
  | some (n, _) => (d.putB F.HST_MODE_STATUS_busy 0 true).put F.HST_MODE_STATUS_current 0 n
  | none => d

end Sys2Proof.Machine
end

