-- ==== Sys2Proof/Machine/Dist.lean ====
section
/-! DEFINITION. The distribution ring of the sender (R412). -/
namespace Sys2Proof.Machine

/-- Entries of the distribution ring. -/
def Dev.distSize (d : Dev) : Nat := 2 ^ d.fld F.PEL_DIST_RING_log2_size

/-- Place of the next command in the ring. -/
def Dev.distHead (d : Dev) : Nat := d.fld F.PEL_DIST_PTR_head % d.distSize

/-- Whether the ring has a command to fetch: its size allowed, DMA possible, not stopped by a fetch error (R412, R427). -/
def Dev.distReady (d : Dev) : Bool :=
  2 ≤ d.fld F.PEL_DIST_RING_log2_size && d.fld F.PEL_DIST_RING_log2_size ≤ 16 && d.host.linkUp && !d.host.d3hot &&
  !d.host.stopped.contains 2 && d.dist.cur.isNone && d.distHead != d.fld F.PEL_DIST_PTR_tail % d.distSize

/-- The 32 bytes of a command, as host memory holds them. -/
def Dev.distBytes (d : Dev) : List Byte × Dev :=
  (List.range 4).foldl (fun (x : List Byte × Dev) _ =>
    let (w, d) := x.2.draw Config.hostWord
    (x.1 ++ leBytes 8 w, d)) ([], d)

/-- Host address of an entry. -/
def Dev.distAddr (d : Dev) (ix : Nat) : Nat := d.fld F.PEL_DIST_RING_base * 2 ^ 8 + 32 * ix

/-- The command at the head completes with its two result bytes written back. -/
def Dev.distDone (d : Dev) (bytes : List Byte) : Dev :=
  let d := d.emit (.hostWrite (d.distAddr d.distHead + 28) ((bytes.drop 28).take 2))
  let d := d.put F.PEL_DIST_PTR_head 0 ((d.distHead + 1) % d.distSize)
  { d with dist := { d.dist with cur := none } }

/-- A link that reaches a position (4 the twin on another board). -/
def Dev.linkTo (d : Dev) (q : Nat) : Option Nat := (List.range 64).find? (fun g => d.linkUp g && d.linkPeer g == q)

/-- Channel 5 fields of a message of this device to position `q` (R104). -/
def Dev.distHeader (d : Dev) (type q tag : Nat) : Nat :=
  type + d.boardPos % 4 * 2 ^ 2 + bit (q == 4) * 2 ^ 4 + tag * 2 ^ 5

/-- Commands of the ring go out in order, until one waits for its targets. -/
def Dev.distNext (d : Dev) (c : Clock) : Nat → Dev
  | 0 => d
  | n + 1 =>
    if !d.distReady then d
    else
      let (bytes, d) := d.distBytes
      let op := (bytes.getD 0 0).toNat
      let mask := (bytes.getD 1 0).toNat % 2 ^ 5
      let targets := (List.range 5).filter (bitOf mask)
      if op == 0 || 4 < op then (d.distDone ((bytes.set 28 0).set 29 (BitVec.ofNat 8 mask))).distNext c n
      else if targets.isEmpty then (d.distDone ((bytes.set 28 0).set 29 0)).distNext c n
      else
        let tag := d.dist.tag
        let cmd : DistCmd := ⟨(bytes.set 28 0).set 29 0, targets, tag, c.phys⟩
        let d := { d with dist := { d.dist with cur := some cmd, tag := (tag + 1) % 2 ^ 16 } }
        targets.foldl (fun (d : Dev) q =>
          match d.linkTo q with
          | some g => d.pealSend c g ⟨5, d.distHeader 0 q tag, bytes.take 28, 0⟩
          | none => d) d

/-- The host wrote the tail: a stopped ring resumes from its head. -/
def Dev.distTail (d : Dev) (c : Clock) : Dev := (d.ringResume 2).distNext c d.distSize

/-- A target of the command in progress is marked in byte 28, or in byte 29 when it refused or fell silent. -/
def Dev.distMark (d : Dev) (c : Clock) (q : Nat) (refused : Bool) : Dev :=
  match d.dist.cur with
  | none => d
  | some k =>
    if !k.waiting.contains q then d
    else
      let i := if refused then 29 else 28
      let bytes := k.bytes.set i (BitVec.ofNat 8 (putBit (k.bytes.getD i 0).toNat q true))
      let left := k.waiting.filter (fun x => x != q)
      if left.isEmpty then (d.distDone bytes).distNext c d.distSize
      else { d with dist := { d.dist with cur := some { k with bytes := bytes, waiting := left } } }

/-- A result or digest list received on link `g` (R412); one whose tag is not the present command's is ignored. -/
def Dev.distResult (d : Dev) (c : Clock) (g tag : Nat) (refused : Bool) : Dev :=
  let d := d.takeInbox g 5
  if d.dist.cur.any (fun k => k.tag == tag) then d.distMark c (d.linkPeer g) refused else d

/-- A target has been silent for 1 ms. -/
def Dev.distSilent (d : Dev) (c : Clock) (q : Nat) : Dev :=
  if d.dist.cur.any (fun k => k.sentAt + edgesMs 1 ≤ c.phys) then d.distMark c q true else d

end Sys2Proof.Machine
end

