-- ==== Sys2Proof/Machine/Power.lean ====
section
/-! DEFINITION. Adaptive voltage, the Damper, sensors, the emergency trip, the reference clock and the sideband status
(18, R28). -/
namespace Sys2Proof.Machine

/-! ### Sensors' views (R491) -/

/-- Reading of a sensor, signed, in units of 0.125 °C. -/
def Dev.sensor (d : Dev) (s : Nat) : Int := d.sfld F.PWR_TEMP_temp s

/-- The highest of some sensors and the lowest index that has it. -/
def Dev.hottest (d : Dev) (ss : List Nat) : Int × Nat :=
  match ss with
  | [] => (0, 0)
  | s :: t => t.foldl (fun m i => if m.1 < d.sensor i then (d.sensor i, i) else m) (d.sensor s, s)

/-- Whole degrees of a reading, none below 0. -/
def degrees (t : Int) : Nat := (t / 8).toNat

/-- Highest reading of a forwarding die in °C (R159, R491). -/
def Dev.dieDegrees (d : Dev) (die : Nat) : Nat := degrees (d.hottest ((List.range 10).map (fun i => 10 * die + i))).1

/-! ### The emergency trip (R493–R495) -/

/-- A current of the Damper in units of 1 µA, from A. -/
def microAmps (a : Nat) : Nat := a * 1000000

/-- slew_eff of a rail in µA for each 0.8 ns edge, 800 for 1 A/µs, rounded down (R489). -/
def Dev.slewEff (d : Dev) (rail : Nat) : Nat :=
  let l := max 1 (d.liveFld F.PWR_RAIL_CFG_l_eff_nh rail)
  let t := max 1 (d.liveFld F.PWR_RAIL_CFG_resp_us rail)
  let top := 800 * min 40 (max 1 (d.liveFld F.PWR_RAIL_CFG_slew rail))
  (List.range 15).foldl (fun n i =>
    let m := n + 2 ^ (14 - i)
    if m ≤ top && m * m * l * t * t ≤ 2560000000000 then m else n) 0

/-- Edges a trip's ramp takes (R492, R494): the longer of ramp_us, 200 µs for the comparator, and every rail's fall to
its clock-stopped current at slew_eff. -/
def Dev.rampEdges (d : Dev) (cause : Nat) : Nat :=
  let us := if cause == 1 then 200 else min 10000 (max 200 (d.liveFld F.PWR_TRIP_CFG_ramp_us))
  let falls := [0, 1, 2].map (fun r => (d.pwr.estimate.num r - microAmps (Config.stoppedAmps r)) / max 1 (d.slewEff r))
  if cause == 1 then edgesUs us else falls.foldl max (edgesUs us)

/-- A trip starts (R494 step 1), or a second cause is counted. -/
def Dev.trip (d : Dev) (c : Clock) (cause sensor : Nat) (temp : Int) : Dev :=
  if d.pwr.tripAt.isSome then d.bumpSat F.PWR_TRIP_CAPTURE_seconds 0
  else
    let d := { d with net := { d.net with shut := true },
                      pwr := { d.pwr with tripAt := some c.phys, tripRamp := d.rampEdges cause, waiting := [] } }
    let d := if d.flag F.PWR_TRIP_CAPTURE_valid then d
      else
        let d := (d.put F.PWR_TRIP_CAPTURE_cause 0 cause).put F.PWR_TRIP_CAPTURE_sensor 0 sensor
        let d := (d.put F.PWR_TRIP_CAPTURE_temp 0 (unsigned 12 temp)).put F.PWR_TRIP_CAPTURE_time_s 0 (c.sec % 2 ^ 32)
        (d.put F.PWR_TRIP_CAPTURE_seconds 0 0).put F.PWR_TRIP_CAPTURE_valid 0 1
    (((d.put F.PWR_STATUS_trip 0 1).raise c .PWR_TRIP 0 0).emit (.pin .tripN false)).smbAlert

/-- The trip's ramp ends (R494 step 3): the forwarding dies' clocks stop and every transmitter goes to electrical idle. -/
def Dev.rampDone (d : Dev) (c : Clock) : Dev :=
  match d.pwr.tripAt with
  | none => d
  | some t =>
    if d.pwr.stopped || c.phys - t < d.pwr.tripRamp then d
    else
      let lanes := (List.range 512).filter (fun l => d.fld F.LANE_STATUS_state l != 0)
      let d := lanes.foldl (fun (d : Dev) l => (d.put F.LANE_STATUS_state l 0).emit (.laneSignal l 2)) d
      { d with pwr := { d.pwr with stopped := true } }

/-- A forwarding die's analog comparator (R492). -/
def Dev.analogTrip (d : Dev) (c : Clock) (die : Nat) : Dev :=
  let h := d.hottest ((List.range 10).map (fun i => 10 * die + i))
  d.trip c 1 h.2 h.1

/-- COOLANT_FAULT_N (R493). -/
def Dev.coolantFault (d : Dev) (c : Clock) : Dev := if d.liveFld F.PWR_TRIP_CFG_coolant_en == 1 then d.trip c 3 0 0 else d

/-! ### Temperature (R479, R491, R492) -/

/-- warn, crit and trip in force, in °C (PWR_THERM_CFG). -/
def Dev.thresholds (d : Dev) : Nat × Nat × Nat :=
  let warn := d.liveFld F.PWR_THERM_CFG_warn
  let crit := max (d.liveFld F.PWR_THERM_CFG_crit) (warn + 1)
  (warn, crit, max (min 120 (d.liveFld F.PWR_THERM_CFG_trip)) (crit + 1))

/-- therm_state after a highest reading, from the present one: a state clears below its threshold less 3 °C. -/
def thermNext (was warn crit : Nat) (t : Int) : Nat :=
  if (8 * crit : Int) ≤ t then 2
  else if was == 2 && (8 * crit : Int) - 24 ≤ t then 2
  else if (8 * warn : Int) ≤ t then 1
  else if 1 ≤ was && (8 * warn : Int) - 24 ≤ t then 1
  else 0

/-- Band of GLB_LIFE_HIST that a reading lies in; each band includes its upper edge (R479). -/
def lifeBand (t : Int) : Nat :=
  if t ≤ 600 then 0 else if t ≤ 680 then 1 else if t ≤ 760 then 2 else if t ≤ 800 then 3 else if t ≤ 840 then 4 else 5

/-- Whole seconds since the last count go to the band of the highest reading (R479). -/
def Dev.lifeCount (d : Dev) (c : Clock) : Dev :=
  let n := (c.phys - d.pwr.lifeAt) / edgesS 1
  if n == 0 then d
  else
    let d := d.bump F.GLB_LIFE_HIST_seconds (lifeBand (d.sfld F.PWR_STATUS_temp_max)) n
    { d with pwr := { d.pwr with lifeAt := d.pwr.lifeAt + n * edgesS 1 } }

/-- The device-wide thresholds evaluated on the highest sensor (R492). -/
def Dev.thermEval (d : Dev) (c : Clock) : Dev :=
  let h := d.hottest (List.range 32)
  let (warn, crit, tripAt) := d.thresholds
  let was := d.fld F.PWR_STATUS_therm_state
  let now := thermNext was warn crit h.1
  let d := (d.put F.PWR_STATUS_temp_max 0 (unsigned 12 h.1)).put F.PWR_STATUS_temp_sensor 0 h.2
  let d := d.put F.PWR_STATUS_therm_state 0 now
  let d := if was == 0 && 1 ≤ now then d.raise c .PWR_THERM_WARN 0 0 else d
  let d := if was < 2 && now == 2 then (d.raise c .PWR_THERM_CRIT 0 0).bump F.PWR_CNT_count 5 else d
  let d := if now == was then d else d.smbAlert
  if (8 * tripAt : Int) ≤ h.1 then d.trip c 0 h.2 h.1 else d

/-- A sensor's reading: 0–31 on die, signed in units of 0.125 °C; 32–35 the HBM stacks, whole °C (R491, R492). -/
def Dev.sensorReading (d : Dev) (c : Clock) (s : Nat) (value : BitVec 12) : Dev :=
  if s < 32 then ((d.lifeCount c).put F.PWR_TEMP_temp s value.toNat).thermEval c
  else if s < 36 && !(d.flw.twoStack && 34 ≤ s) then
    let d := (d.put F.PWR_HBM_TEMP_temp (s - 32) (value.toNat % 256)).put F.PWR_HBM_TEMP_present (s - 32) 1
    let top := ([0, 1, 2, 3].map (fun i => d.fld F.PWR_HBM_TEMP_temp i)).foldl max 0
    let d := d.put F.PWR_STATUS_hbm_max 0 top
    if 105 ≤ value.toNat % 256 then d.trip c 4 0 0 else d
  else d

/-- The temperature terms of the stamps follow the chiplet sensors (R377). -/
def Dev.tempTerms (d : Dev) : Dev :=
  let t := (List.range 8).foldl (fun (t : Tbl Int) j => t.set (fun _ => 0) ⟨j, 0, 0⟩ (d.sensor (24 + j))) d.tim.chipTemp
  { d with tim := { d.tim with chipTemp := t } }

/-! ### Adaptive voltage (R482, R483) -/

/-- Target of a core rail in mV. -/
def Dev.railMv (d : Dev) (rail : Nat) : Nat := d.fld F.PWR_RAIL_STATUS_setpoint_mv rail

/-- An AVSBus command: the monitors ask for `want` mV; the target moves toward it by at most 5 mV within 620–780 mV,
once per 10 µs and rail; a regulator that does not acknowledge keeps its voltage. -/
def Dev.avsCommand (d : Dev) (c : Clock) (rail want : Nat) (ack : Bool) : Dev :=
  let last := d.pwr.avsAt.num rail
  if 2 < rail || d.phase == 0 || (last != 0 && c.phys + 1 - last < edgesUs 10) then d
  else
    let now := d.railMv rail
    let goal := min 780 (max 620 want)
    let target := if now ≤ goal then min goal (now + 5) else max goal (now - 5)
    let k : Key := ⟨rail, 0, 0⟩
    let d := { d with pwr := { d.pwr with avsWant := d.pwr.avsWant.setNum k want } }
    let beyond := [0, 1, 2].any (fun r => 780 < d.pwr.avsWant.num r)
    let d := d.putB F.PWR_STATUS_avs_limit 0 beyond
    let d := if 780 < want then d.raiseLim c .PWR_AVS_LIMIT 0 0 [] 1000 else d
    if target == now then d
    else
      let fails := if ack then 0 else d.pwr.avsFails.num rail + 1
      let d := { d with pwr := { d.pwr with avsAt := d.pwr.avsAt.setNum k (c.phys + 1), avsFails := d.pwr.avsFails.setNum k fails } }
      let d := (d.bump F.PWR_CNT_count 4).emit (.avs rail target)
      let d := if ack then d.put F.PWR_RAIL_STATUS_setpoint_mv rail target else d
      if fails == 3 then d.raise c .PWR_RAIL_FAULT 10 rail else d

/-- Negative margin at 0.78 V for 100 µs (R483). -/
def Dev.marginFail (d : Dev) (c : Clock) (rail : Nat) : Dev :=
  if rail ≤ 2 && d.railMv rail == 780 then d.trip c 5 0 0 else d

/-! ### The Damper (R486–R490) -/

/-- Maximum current of a core rail (R480), in µA. -/
def railMax (rail : Nat) : Nat := microAmps (if rail == 2 then 30 else 385)

/-- The ceiling may rise to this (R486, R492). -/
def Dev.ceilTop (d : Dev) (rail : Nat) : Nat :=
  if rail != 2 && d.fld F.PWR_STATUS_therm_state == 2 then min (railMax rail) (microAmps (d.liveFld F.PWR_THERM_CFG_crit_ceiling_a))
  else railMax rail

/-- The ceiling of a rail after `n` edges: rising while something waits and no trip runs, else following the estimate,
never falling faster than slew_eff. -/
def Dev.ceilAfter (d : Dev) (rail n : Nat) (waits : Bool) (est : Nat) : Nat :=
  let now := d.pwr.ceiling.num rail
  let s := d.slewEff rail * n
  let top := d.ceilTop rail
  if waits && d.pwr.tripAt.isNone && now ≤ top then min top (now + s) else max (now - s) (min est top)

/-- A rail's estimate is `amps` µA now, held up to its floor by ballast for `ballast` CLK_SLOW cycles since the last
report; its ceiling is settled (R486). -/
def Dev.damper (d : Dev) (c : Clock) (rail amps ballast : Nat) (waits : Bool) : Dev :=
  let k : Key := ⟨rail, 0, 0⟩
  let est := max amps (microAmps (d.liveFld F.PWR_RAIL_CFG_floor_a rail))
  let waits := waits || d.pwr.waiting.any (fun q => q.rail == rail)
  let ceil := d.ceilAfter rail (c.phys - d.pwr.ceilAt.num rail) waits est
  let d := { d with pwr := { d.pwr with
    estimate := d.pwr.estimate.setNum k est, ceiling := d.pwr.ceiling.setNum k ceil, ceilAt := d.pwr.ceilAt.setNum k c.phys } }
  let d := (d.put F.PWR_RAIL_STATUS_estimate_a rail (est / 1000000)).put F.PWR_RAIL_STATUS_ceiling_a rail (ceil / 1000000)
  let d := d.put F.PWR_RAIL_STATUS_static_a rail (Config.staticAmps rail (d.sfld F.PWR_STATUS_temp_max))
  if ballast == 0 then d else d.bump F.PWR_CNT_count 3 ballast

/-- A staged change of activity asks for its step (R488). During a trip none is taken (R490). -/
def Dev.damperRequest (d : Dev) (c : Clock) (rail step amps ballast : Nat) : Dev :=
  if 2 < rail || d.pwr.tripAt.isSome then d
  else
    let d := d.damper c rail amps ballast false
    { d with pwr := { d.pwr with waiting := d.pwr.waiting ++ [⟨rail, step, c.phys, false⟩] } }

/-- The oldest request of a rail is granted when its step fits under the ceiling (R488). -/
def Dev.damperGrant (d : Dev) (c : Clock) (rail amps ballast : Nat) : Dev :=
  if 2 < rail then d
  else
    let d := d.damper c rail amps ballast false
    match d.pwr.waiting.find? (fun q => q.rail == rail) with
    | none => d
    | some q =>
      let est := d.pwr.estimate.num rail + q.step
      if d.pwr.ceiling.num rail < est then d
      else
        let d := { d with pwr := { d.pwr with
          waiting := d.pwr.waiting.erase q, estimate := d.pwr.estimate.setNum ⟨rail, 0, 0⟩ est } }
        (d.put F.PWR_RAIL_STATUS_estimate_a rail (est / 1000000)).bump F.PWR_CNT_count 0

/-- A request has waited more than 100 µs (R488). -/
def Dev.damperDefer (d : Dev) (c : Clock) (rail : Nat) : Dev :=
  match d.pwr.waiting.find? (fun q => q.rail == rail && !q.deferred && edgesUs 100 < c.phys - q.at_) with
  | none => d
  | some q =>
    let d := { d with pwr := { d.pwr with waiting := d.pwr.waiting.map (fun x => if x == q then { x with deferred := true } else x) } }
    (d.bump F.PWR_CNT_count 1).raiseLim c .PWR_DAMPER_DEFER 10 rail

/-- An intake slot that the ceiling of its die holds back (R487). -/
def Dev.intakeHeld (d : Dev) (c : Clock) (p amps : Nat) : Dev :=
  (d.damper c (p / 16) amps 0 true).bump F.PWR_CNT_count 2

/-! ### The reference (R28, R500) -/

/-- The reference has been absent or out of tolerance for 1 µs. -/
def Dev.refLost (d : Dev) (c : Clock) : Dev :=
  if d.flag F.CLK_REF_STATUS_lost then d else (d.putB F.CLK_REF_STATUS_lost 0 true).raise c .CLK_REF_LOST 0 0

/-- The reference has been back in tolerance for 10 ms. -/
def Dev.refRestored (d : Dev) (c : Clock) : Dev :=
  if d.flag F.CLK_REF_STATUS_lost then (d.putB F.CLK_REF_STATUS_lost 0 false).raise c .CLK_REF_RESTORED 0 0 else d

/-- The frequency of CLK10M_IN measured over a second (R374, R500): `local_` against local time in 0.01 ppb, `ref` the
reference against it in 0.01 ppm; none without a signal. -/
def Dev.clk10Measure (d : Dev) (m : Option (BitVec 24 × BitVec 24)) : Dev :=
  match m with
  | none => (d.putB F.TIM_CLK10_STATUS_present 0 false).putB F.CLK_REF_STATUS_ref10_valid 0 false
  | some (local_, ref) =>
    let d := (d.putB F.TIM_CLK10_STATUS_present 0 true).put F.TIM_CLK10_STATUS_offset 0 local_.toNat
    (d.putB F.CLK_REF_STATUS_ref10_valid 0 true).put F.CLK_REF_STATUS_offset 0 ref.toNat

/-! ### The sideband (R502) -/

/-- The sideband status word. -/
def Dev.sbWord (d : Dev) : Nat :=
  d.phase + bit (d.flag F.HST_HOSTLOSS_CTRL_absent) * 2 ^ 4 + bit (d.flag F.GLB_ECC_CAPTURE_valid) * 2 ^ 5 +
    d.fld F.GLB_CORE_STATUS_in_service * 2 ^ 6 + bit (d.flag F.PWR_STATUS_trip) * 2 ^ 14 +
    d.fld F.PWR_TRIP_CAPTURE_cause * 2 ^ 15 + d.fld F.PWR_STATUS_therm_state * 2 ^ 18 +
    min 255 (degrees (d.sfld F.PWR_STATUS_temp_max)) * 2 ^ 20 + bit (d.flag F.SEC_STATUS_debug_opened) * 2 ^ 28 +
    bit (d.flag F.PWR_STATUS_avs_limit) * 2 ^ 29

/-- Sideband STATUS: the word to requester 11, and SMB_ALERT_N released. -/
def Dev.sbStatus (d : Dev) : Dev :=
  let d := d.emit (.readData 11 d.sbWord)
  if d.pwr.smbAlert then ({ d with pwr := { d.pwr with smbAlert := false } }).emit (.pin .smbAlertN true) else d

end Sys2Proof.Machine
end

