-- ==== Sys2Proof/Machine/Reliability.lean ====
section
/-! DEFINITION. Scrubbing, channel loss, control cores, firmware swap and rollout (17, R248–R252). -/
namespace Sys2Proof.Machine

/-! ### Errors of HBM channels (R464, R466–R468) -/

/-- Entries of a die's backlog lost with their storage: an overflow under R399. -/
def Dev.backlogLoss (d : Dev) (c : Clock) (die : Nat) (lost : Nat → Bool) : Dev :=
  let all := (d.backlog die).zipIdx
  let gone := all.countP (fun x => lost x.2)
  if gone == 0 then d
  else
    let d := d.setBacklog die ((all.filter (fun x => !lost x.2)).map (fun x => x.1))
    let first := d.twn.overflow.num die == 0
    let d := (d.twnCnt die 10 gone).put F.TWN_STATUS_backlog_lost 0 1
    let d := { d with twn := { d.twn with overflow := d.twn.overflow.setNum ⟨die, 0, 0⟩ 1 } }
    if first then d.raise c .TWN_BACKLOG_OVERFLOW 1 die else d

/-- A lost ledger record reads zero. -/
def Dev.ledgerLoss (d : Dev) (place : Nat) : Dev :=
  match d.tim.ledger[place]? with
  | some r => { d with tim := { d.tim with ledger := d.tim.ledger.set place (List.replicate r.length 0) } }
  | none => d

/-- The retained image no longer reads as it was kept (R468). -/
def Dev.retainedLoss (d : Dev) : Dev := { d with boot := { d.boot with retainedHash := [] } }

/-- Number of the standby firmware slot (R474). -/
def Dev.standbySlot (d : Dev) : Nat := 1 - d.fld F.BOOT_SWAP_STATUS_running_slot

/-- The image of a firmware slot. -/
def Dev.slot (d : Dev) (s : Nat) : FwSlot := d.rel.slots.get (fun _ => ⟨[], true⟩) ⟨s, 0, 0⟩

/-- A firmware slot with an uncorrectable word (R468). -/
def Dev.slotLoss (d : Dev) (s : Nat) : Dev :=
  { d with rel := { d.rel with slots := d.rel.slots.put ⟨s, 0, 0⟩ { d.slot s with sound := false } } }

/-- A firmware swap ends without the standby image: BOOT_SWAP_STATUS.error, the running slot untouched (R474). -/
def Dev.swapFail (d : Dev) (c : Clock) (error : Nat) : Dev :=
  ((d.put F.BOOT_SWAP_STATUS_state 0 6).put F.BOOT_SWAP_STATUS_error 0 error).raise c .BOOT_FW_REJECTED 0 0

/-- Misses of a die that a loss leaves without a readable record are shed with RECORD_ERROR (R212, R466). -/
def Dev.shedLost (d : Dev) (c : Clock) (die : Nat) : Dev :=
  let bad := fun (m : Miss) => m.die == die && (match (d.lookup die m.key).2 with
    | .error => true
    | _ => false)
  (d.flw.misses.filter bad).foldl (fun (d : Dev) m => (d.dropMiss die m.key).shedAll c die 7 m.waiters) d

/-- Regions other than records and buckets that lay in a lost channel (R466): bit 0 the NAT quarantine ring, 1 the
Ember backlog, 2 the retained image, 3 the standby firmware slot; `records` the ledger's places. -/
def Dev.regionLoss (d : Dev) (c : Clock) (die regions : Nat) (records : List Nat) : Dev :=
  let d := if bitOf regions 0 then d.quarLost c die (fun _ => true) else d
  let d := if bitOf regions 1 then d.backlogLoss c die (fun _ => true) else d
  let d := if bitOf regions 2 then d.retainedLoss else d
  let d := if bitOf regions 3 then
      let d := d.slotLoss d.standbySlot
      if d.swapBusy then d.swapFail c 10 else d
    else d
  records.foldl (fun (d : Dev) i => d.ledgerLoss i) d

/-- Whether a die's reserve is free to take a channel's pages. -/
def Dev.reserveFree (d : Dev) (die : Nat) : Bool :=
  d.flw.noReserve.num die == 0 && d.fld F.FLW_HBM_EVAC_state die != 1 && d.fld F.FLW_HBM_EVAC_state die != 2

/-- A channel is lost in service (R466, R467). A channel in its own copy uses the reserve its copy held; one already
mapped loses nothing. -/
def Dev.channelLost (d : Dev) (c : Clock) (die ch regions : Nat) (records : List Nat) : Dev :=
  let ix := chIx die ch
  let own := d.fld F.FLW_HBM_EVAC_state die == 1 || d.fld F.FLW_HBM_EVAC_state die == 2
  let own := own && d.evacChannel die == ch
  let st := d.fld F.FLW_HBM_CH_STATUS_state ix
  let none_ := fun (d : Dev) => { d with flw := { d.flw with noReserve := d.flw.noReserve.setNum ⟨die, 0, 0⟩ 1 } }
  if d.channels ≤ ch || st == 3 then d
  else if st == 2 then (if own then none_ (d.put F.FLW_HBM_EVAC_state die 3) else d)
  else
    let reserve := own || d.reserveFree die
    let d := d.put F.FLW_HBM_CH_STATUS_state ix (if reserve then 2 else 3)
    let d := if own then d.put F.FLW_HBM_EVAC_state die 3 else d
    let d := if reserve then none_ d else d
    let d := { d with flw := { d.flw with lost := d.flw.lost.setNum ⟨die, ch, 0⟩ (if reserve then 1 else 2) } }
    ((d.quarStatus die).shedLost c die).regionLoss c die regions records

/-- The twin's die of this number lost a channel: die-repair Kindling while this device serves and the die's stream is
up (R466). -/
def Dev.dieRepair (d : Dev) (c : Clock) (die : Nat) : Dev :=
  if d.isTwin && d.twinState == 3 && d.emberUp die then d.kindleDie c die 2 (fun _ => true) else d

/-- Whether the die starts an evacuation of a channel by itself (R464). -/
def Dev.evacDue (d : Dev) (die ch : Nat) : Bool :=
  let ce := d.fld F.FLW_HBM_CH_STATUS_ce_window (chIx die ch)
  ce != 0 && d.fld F.FLW_HBM_CE_CTRL_ce_thresh die ≤ ce && d.flag F.FLW_HBM_CE_CTRL_auto_evac die && d.reserveFree die &&
    d.fld F.FLW_HBM_CH_STATUS_state (chIx die ch) == 0

/-- A channel whose UE count in the window reached ue_fail is lost (R466); one over ce_thresh is evacuated when it may
be (R464). Applied after every command that counts errors or ends an evacuation. -/
def Dev.channelWatch (d : Dev) (c : Clock) (die : Nat) : Dev :=
  (List.range d.channels).foldl (fun (d : Dev) ch =>
    let ue := d.fld F.FLW_HBM_CH_STATUS_ue_window (chIx die ch)
    if ue != 0 && max 1 (d.fld F.FLW_HBM_CE_CTRL_ue_fail die) ≤ ue then d.channelLost c die ch 0 []
    else if d.evacDue die ch then d.evacStart c die ch
    else d) d

/-- Both dies' channels watched. -/
def Dev.watchBoth (d : Dev) (c : Clock) : Dev := (d.channelWatch c 0).channelWatch c 1

/-- Edge at which a channel's window ends; the first window runs from reset (log entry 81). -/
def Dev.windowDue (d : Dev) (die ch : Nat) : Nat :=
  let t := d.rel.windowAt.num die ch
  if t == 0 then edgesS 60 else t

/-- A channel's error window ends and the next begins, its length read now (R464). -/
def Dev.ceWindowEnd (d : Dev) (c : Clock) (die ch : Nat) : Dev :=
  if d.channels ≤ ch || c.phys < d.windowDue die ch then d
  else
    let d := d.channelWatch c die
    let d := (d.put F.FLW_HBM_CH_STATUS_ce_window (chIx die ch) 0).put F.FLW_HBM_CH_STATUS_ue_window (chIx die ch) 0
    let due := c.phys + edgesS (max 1 (d.fld F.FLW_HBM_CE_CTRL_window_s die))
    { d with rel := { d.rel with windowAt := d.rel.windowAt.setNum ⟨die, ch, 0⟩ due } }

/-! ### Control cores (R471, R472) -/

/-- Whether any control core serves: without one firmware's duties stop (R472). -/
def Dev.coresUp (d : Dev) : Bool := d.fld F.GLB_CORE_STATUS_in_service != 0

/-- State version bytes of an image's control-core component: state_out and state_in_min (R473). -/
def stateVersions (image : List Byte) : Nat × Nat :=
  match (fwComponents image).find? (fun k => k.1 == 1) with
  | some k => (leAt k.2 0 1, leAt k.2 1 1)
  | none => (0, 0)

/-- The microcode units a rollout visits (R250 steps 3–5): standby spares, clusters, Sweepers; those of a kind without
components are left alone. -/
def Dev.rollUnits (d : Dev) (ks : List Component) : List (Nat × Nat) :=
  let spares := spareInsts.filter (fun i => d.spareState (instDie i) (i % 8 - 6) == 2)
  (if ks.any (fun k => k.kind == 2) then spares.map (fun i => (0, i)) ++ clusterInsts.map (fun i => (1, i)) else []) ++
    (if ks.any (fun k => k.kind == 3) then (List.range 64).map (fun n => (2, n)) else [])

/-- A rollout ends (R250 step 6, R252): done, or stopped with an error. M3 is extended by the digest of a rollout image
that ends so (R447). -/
def Dev.rollEnd (d : Dev) (c : Clock) (state error : Nat) : Dev :=
  let r := d.roll
  let d := (d.put F.ENG_ROLL_STATUS_state 0 state).put F.ENG_ROLL_STATUS_error 0 error
  let running := if state == 6 then runningAfter r.running r.comps else r.running
  let d := { d with roll := { RollSt.init with running } }
  let d := if r.swap then d else { d.extendMeas 3 r.digest with sec := { (d.extendMeas 3 r.digest).sec with minEpoch := min d.sec.minEpoch r.epoch } }
  let d := if r.swap && d.fld F.BOOT_SWAP_STATUS_state == 4 then d.put F.BOOT_SWAP_STATUS_state 0 5 else d
  d.raise c (if state == 6 then .ENG_ROLL_DONE else .ENG_ROLL_REJECTED) 0 0

/-- ENG_ROLL_STATUS.state while a unit of a kind is next. -/
def rollState (kind : Nat) : Nat := 3 + kind

/-- The step of the next unit begins (R250 steps 3–5): units that are not in service are passed over; a cluster drains
once a loaded spare of its die stands in for it, or without one when allow_reduced is 1. -/
def Dev.rollNext (d : Dev) (c : Clock) : List (Nat × Nat) → Dev
  | [] => ({ d with roll := { d.roll with left := [] } }).rollEnd c 6 0
  | (kind, i) :: rest =>
    let here := fun (d : Dev) (spare : Option Nat) (begun : Bool) =>
      ({ d with roll := { d.roll with left := (kind, i) :: rest, spare, begun } }).put F.ENG_ROLL_STATUS_state 0 (rollState kind)
    let p := instPipe i
    let k := i % 8
    if kind == 0 then (if d.spareState (instDie i) (k - 6) == 2 then here d none true else d.rollNext c rest)
    else if kind == 1 then
      let st := d.fld F.ENG_CLUSTER_STATUS_state (6 * p + k)
      if st == 5 then d.rollNext c rest
      else if st != 0 then here d none false
      else match d.standby (instDie i) with
        | some s => ((here d (some s) true).standIn p k s).setCluster p k 1 |>.put F.ENG_ROLL_STATUS_error 0 0
        | none =>
          if d.flag F.ENG_ROLL_CTRL_allow_reduced then ((here d none true).setCluster p k 1).put F.ENG_ROLL_STATUS_error 0 0
          else (here d none false).put F.ENG_ROLL_STATUS_error 0 6
    else (if d.swpState (i / 32) (i % 32) == 3 then d.rollNext c rest else here d none true)

/-- A rollout of checked components starts (R250 step 3). From here both versions run until it ends (R249, R251). -/
def Dev.rollStart (d : Dev) (c : Clock) (ks : List Component) (swap : Bool) (digest : List Byte) (epoch : Nat) : Dev :=
  let d := ((d.put F.ENG_ROLL_STATUS_clusters_done 0 0).put F.ENG_ROLL_STATUS_sweepers_done 0 0).put F.ENG_ROLL_STATUS_error 0 0
  let d := d.put F.ENG_ROLL_STATUS_compat 0 (((ks.find? (fun k => k.region == 0)).map Component.compat).getD 0)
  let running := d.roll.running ++ ks.filter (fun k => !d.roll.running.contains k)
  let d := { d with roll := { RollSt.init with comps := ks, swap, digest, epoch, running } }
  d.rollNext c (d.rollUnits ks)

/-- A firmware hand-over (R474 steps 3–5): the cores restart on the standby slot, M2 is extended, EV_BOOT_RUNNING is
raised again, and differing microcode is rolled. `auto`: the device reverts by itself (R475). -/
def Dev.handover (d : Dev) (c : Clock) (auto : Bool) : Dev :=
  let old := d.fld F.BOOT_SWAP_STATUS_running_slot
  let slot := 1 - old
  let image := (d.slot slot).image
  let version := leAt image 20 4
  let d := ((d.put F.BOOT_SWAP_STATUS_running_slot 0 slot).put F.BOOT_SWAP_STATUS_standby_version 0
    (leAt (d.slot old).image 20 4)).put F.BOOT_SWAP_STATUS_state 0 (if auto then 7 else 5)
  let anchorIx := d.boot.anchors.findIdx (fun a => a == anchorOf (sigBlock image))
  let d := { d with rel := { d.rel with handoverAt := if auto then none else some c.phys, coreFails := [] } }
  let d := { d with boot := { d.boot with fw := image }, sec := { d.sec with fwAnchor := anchorIx, fwVersion := version } }
  let d := (d.extendMeas 2 (sha512 image)).raise c .BOOT_RUNNING 0 0
  let ks := microOf image
  if ks.all (fun k => d.roll.running.contains k) then d
  else (if auto then d else d.put F.BOOT_SWAP_STATUS_state 0 4).rollStart c ks (!auto) [] 64

/-- The checks of an image in the standby slot (R442, R249, R474, R475): 0, or the error. -/
def Dev.swapCheck (d : Dev) (slot : FwSlot) (revert : Bool) : Nat :=
  let run := stateVersions (d.slot (d.fld F.BOOT_SWAP_STATUS_running_slot)).image
  let new := stateVersions slot.image
  let r := d.fwCheck slot.image false
  if revert && leAt slot.image 23 1 < d.fuse.epoch then 9
  else if 0 < r && r < 3 then r
  else if !slot.sound then 3
  else if r != 0 then r
  else if !d.compatible (microOf slot.image) then 5
  else if !(new.2 ≤ run.1 && run.1 ≤ new.1) then 6
  else 0

/-- The check of the standby image ends: the hand-over begins (state 3), or the swap is rejected. -/
def Dev.swapChecked (d : Dev) (c : Clock) (revert : Bool) : Dev :=
  let slot := d.slot d.standbySlot
  let e := d.swapCheck slot revert
  if e == 0 then d.put F.BOOT_SWAP_STATUS_state 0 3
  else
    let d := if 1 ≤ e && e ≤ 4 then d.fwReject c slot.image e else d
    let d := if e == 5 then d.raise c .ENG_COMPAT 0 0 else d
    d.swapFail c e

/-- Whether a rollout is in progress. -/
def Dev.rollBusy (d : Dev) : Bool := 1 ≤ d.fld F.ENG_ROLL_STATUS_state && d.fld F.ENG_ROLL_STATUS_state ≤ 5

/-- BOOT_SWAP_CTRL.go with its extents already written (R474 step 1, R476). -/
def Dev.swapGo (d : Dev) (c : Clock) : Dev :=
  let n := d.fld F.BOOT_SWAP_CTRL_extents
  if d.swapBusy then d.triggerBusy c .BOOT_SWAP_CTRL
  else if d.rollBusy || d.flag F.HST_MODE_STATUS_busy then (d.put F.BOOT_SWAP_STATUS_error 0 7).put F.BOOT_SWAP_STATUS_state 0 0
  else if d.phase != 7 || !d.coresUp then d
  else if n == 0 || 1024 < n then d.swapFail c 1
  else
    let d := (d.put F.BOOT_SWAP_STATUS_state 0 1).put F.BOOT_SWAP_STATUS_error 0 0
    d.emit (.hostRead (64 * d.fld F.BOOT_SWAP_LIST_list_addr) (16 * n))

/-- The standby image has been fetched and is checked (state 1), or the pause of the hand-over ends (state 3). -/
def Dev.swapVerified (d : Dev) (c : Clock) (image : List Byte) : Dev :=
  let st := d.fld F.BOOT_SWAP_STATUS_state
  if !d.coresUp then d
  else if st == 1 then
    let d := { d with rel := { d.rel with slots := d.rel.slots.put ⟨d.standbySlot, 0, 0⟩ ⟨image, true⟩ } }
    (d.put F.BOOT_SWAP_STATUS_standby_version 0 (leAt image 20 4)).swapChecked c false
  else if st == 3 then d.handover c false
  else d

/-- BOOT_SWAP_CTRL.revert (R475): the sequence of R474 with the other slot's image, its fetch skipped. -/
def Dev.swapRevert (d : Dev) (c : Clock) : Dev :=
  if d.swapBusy then d.triggerBusy c .BOOT_SWAP_CTRL
  else if d.rollBusy || d.flag F.HST_MODE_STATUS_busy then (d.put F.BOOT_SWAP_STATUS_error 0 7).put F.BOOT_SWAP_STATUS_state 0 0
  else if d.phase != 7 || !d.coresUp then d
  else (d.put F.BOOT_SWAP_STATUS_error 0 0).swapChecked c true

/-- The device reverts by itself to the firmware before the hand-over (R475); the old image's checks are repeated. -/
def Dev.autoRevert (d : Dev) (c : Clock) : Dev :=
  let slot := d.slot d.standbySlot
  let r := d.fwCheck slot.image false
  let d := { d with rel := { d.rel with handoverAt := none } }
  if leAt slot.image 23 1 < d.fuse.epoch then d.swapFail c 9
  else if r != 0 || !slot.sound then d.swapFail c (if r != 0 then r else 3)
  else d.handover c true

/-- The new firmware has not beaten 100 ms after the hand-over (R475). -/
def Dev.autoRevertDue (d : Dev) (c : Clock) : Dev :=
  match d.rel.handoverAt with
  | some t => if t + edgesMs 100 ≤ c.phys then d.autoRevert c else d
  | none => d

/-- A control core fails (R471): its tasks restart on the survivors. During a hand-over the swap is abandoned with error
8; the second failure within 10 s of a hand-over reverts it (R475, R476). -/
def Dev.coreFail (d : Dev) (c : Clock) (core : Nat) : Dev :=
  let up := d.fld F.GLB_CORE_STATUS_in_service
  if !bitOf up core then d
  else
    let d := (d.put F.GLB_CORE_STATUS_in_service 0 (putBit up core false)).put F.GLB_CORE_STATUS_failed 0
      (putBit (d.fld F.GLB_CORE_STATUS_failed) core true)
    if d.fld F.BOOT_SWAP_STATUS_state == 3 then d.swapFail c 8
    else match d.rel.handoverAt with
      | some t =>
        let fails := core :: d.rel.coreFails
        let d := { d with rel := { d.rel with coreFails := fails } }
        if c.phys - t ≤ edgesS 10 && 2 ≤ fails.length then d.autoRevert c else d
      | none => d

/-- A core machine check (R471); `ue` gives the address when a memory UE raised it (R460). -/
def Dev.coreMchk (d : Dev) (c : Clock) (core : Nat) (ue : Option Nat) : Dev :=
  let d := match ue with
    | some a => d.ue 5 8 2 a
    | none => d
  d.coreFail c core

/-- GLB_CORE_CTRL.go: the 1 ms self-test of a core starts. -/
def Dev.coreGo (d : Dev) (c : Clock) : Dev :=
  if d.rel.returning.isSome then d.triggerBusy c .GLB_CORE_CTRL
  else { d with rel := { d.rel with returning := some (d.fld F.GLB_CORE_CTRL_core) } }

/-- The self-test of a core ends (R471): it reloads from the running slot, whose image is checked (R468). Without a go
in progress the command stands for the go of GLB_CORE_CTRL.core and its end. -/
def Dev.coreReturn (d : Dev) (pass : Bool) : Dev :=
  let core := d.rel.returning.getD (d.fld F.GLB_CORE_CTRL_core)
  let d := { d with rel := { d.rel with returning := none } }
  let slot := d.slot (d.fld F.BOOT_SWAP_STATUS_running_slot)
  if bitOf (d.fld F.GLB_CORE_STATUS_failed) core && pass && slot.sound && d.fwCheck slot.image false == 0 then
    (d.put F.GLB_CORE_STATUS_in_service 0 (putBit (d.fld F.GLB_CORE_STATUS_in_service) core true)).put
      F.GLB_CORE_STATUS_failed 0 (putBit (d.fld F.GLB_CORE_STATUS_failed) core false)
  else d

/-! ### Rollout (R250–R252) -/

/-- ENG_ROLL_CTRL.go with its extents already written (R250 step 1, R476). -/
def Dev.rollGo (d : Dev) (c : Clock) : Dev :=
  let n := d.fld F.ENG_ROLL_CTRL_extents
  if d.rollBusy || d.swapBusy then d.triggerBusy c .ENG_ROLL_CTRL
  else if !d.coresUp then d
  else
    let d := ((d.put F.ENG_ROLL_STATUS_clusters_done 0 0).put F.ENG_ROLL_STATUS_sweepers_done 0 0).put F.ENG_ROLL_STATUS_compat 0 0
    if n == 0 || 1024 < n then
      ((d.put F.ENG_ROLL_STATUS_state 0 7).put F.ENG_ROLL_STATUS_error 0 3).raise c .ENG_ROLL_REJECTED 0 0
    else
      let d := (d.put F.ENG_ROLL_STATUS_state 0 1).put F.ENG_ROLL_STATUS_error 0 0
      d.emit (.hostRead (64 * d.fld F.ENG_ROLL_LIST_list_addr) (16 * n))

/-- The rollout image is fetched and checked (R250 step 2). -/
def Dev.rollFetched (d : Dev) (c : Clock) (image : List Byte) : Dev :=
  let refuse := fun (d : Dev) (e : Nat) =>
    let d := (d.put F.ENG_ROLL_STATUS_state 0 7).put F.ENG_ROLL_STATUS_error 0 e
    ({ d with roll := { d.roll with aborting := false } }).raise c .ENG_ROLL_REJECTED 0 0
  if d.fld F.ENG_ROLL_STATUS_state != 1 || !d.coresUp then d
  else
    let r := d.fwCheck image true
    let ks := microOf image
    if r == 1 then refuse (d.fwReject c image r) 3
    else if r == 2 || r == 3 then refuse (d.fwReject c image r) 1
    else if r == 4 then refuse (d.fwReject c image r) 4
    else if !d.compatible ks then
      let d := d.put F.ENG_ROLL_STATUS_compat 0 (((ks.find? (fun k => k.region == 0)).map Component.compat).getD 0)
      refuse (d.raise c .ENG_COMPAT 0 0) 2
    else if d.roll.aborting then
      let d := { d with roll := { RollSt.init with running := d.roll.running } }
      ((d.put F.ENG_ROLL_STATUS_state 0 8).put F.ENG_ROLL_STATUS_error 0 7).raise c .ENG_ROLL_REJECTED 0 0
    else d.rollStart c ks false (sha512 image) (leAt image 23 1)

/-- A unit loaded with the rollout's components, its compatibility word shown. -/
def Dev.rollLoad (d : Dev) (kind i : Nat) : Dev :=
  let ks := d.roll.comps
  if kind == 2 then d.loadKind 3 i ks
  else
    let new := compatOf ks 2
    let d := d.loadKind 2 i ks
    if (ks.find? (fun k => k.kind == 2 && k.region == 0)).isNone then d
    else if kind == 0 then d.put F.ENG_SPARE_STATUS_compat (2 * instDie i + (i % 8 - 6)) new
    else d.put F.ENG_CLUSTER_STATUS_compat (6 * instPipe i + i % 8) new

/-- A step of the rollout ends: the unit passed its self-test with the new components, or runs its old ones again and
the rollout stops (R252). A cluster ends its step once its routines have ended, a Sweeper between visits. While the
next step waits, for a spare or for a repair, the command asks again. -/
def Dev.rollStep (d : Dev) (c : Clock) (pass : Bool) : Dev :=
  match d.roll.left with
  | [] => d
  | (kind, i) :: rest =>
    let p := instPipe i
    let k := i % 8
    if !d.coresUp then d
    else if !d.roll.begun then (if d.roll.aborting then d.rollEnd c 8 7 else d.rollNext c ((kind, i) :: rest))
    else if kind == 1 && (List.range 8).any (fun e => (d.run i e).isSome) then d
    else if kind == 2 && ((d.sweep (i / 32) (i % 32)).visit.isSome || d.swpState (i / 32) (i % 32) == 2) then d
    else
      let d := if pass then d.rollLoad kind i else d
      let d := if kind == 1 then (d.setCluster p k 0).standDown p k else d
      let d := { d with roll := { d.roll with left := rest, spare := none, begun := false } }
      let d := if !pass then d
        else if kind == 1 then d.bump F.ENG_ROLL_STATUS_clusters_done 0
        else if kind == 2 then d.bump F.ENG_ROLL_STATUS_sweepers_done 0
        else d
      if !pass then d.rollEnd c 8 5
      else if d.roll.aborting then d.rollEnd c 8 7
      else d.rollNext c rest

/-- ENG_ROLL_CTRL.abort (R252): after the step in progress; at once when a step waits to begin. -/
def Dev.rollAbort (d : Dev) (c : Clock) : Dev :=
  if !d.rollBusy then d
  else
    let d := { d with roll := { d.roll with aborting := true } }
    if d.fld F.ENG_ROLL_STATUS_state != 1 && !d.roll.begun then d.rollEnd c 8 7 else d

/-! ### Scrubbing (R460–R463, R468) -/

/-- An uncorrectable HBM word handled by what it holds (R212, R468). -/
def Dev.hbmLoss (d : Dev) (c : Clock) (die : Nat) : HbmWhat → Dev
  | .record n =>
    if d.recOut die n then d
    else
      let d := (d.quarRecord die n 1).raise c .FLW_RECORD_UE 1 die [(28, n)]
      d.shedLost c die
  | .bucket b => { d with swp := { d.swp with badBuckets := d.swp.badBuckets.setNum ⟨die, b, 0⟩ 1 } }
  | .freeRing nums =>
    let free := nums.filter (fun n => decide (n < d.recCount) && (d.frec die n).isNone && !d.recOut die n)
    let old := d.rel.lostFree.get (fun _ => []) ⟨die, 0, 0⟩
    { d with rel := { d.rel with lostFree := d.rel.lostFree.set (fun _ => []) ⟨die, 0, 0⟩ (old ++ free) } }
  | .natRing places =>
    let ring := d.nat.quar.filter (fun q => q.die == die)
    let named := places.filterMap (fun i => ring[i]?)
    d.quarLost c die (fun q => named.contains q)
  | .backlog places => d.backlogLoss c die (fun i => places.contains i)
  | .reserve => d
  | .ledger place => d.ledgerLoss place
  | .retained => d.retainedLoss
  | .standbySlot => d.slotLoss d.standbySlot
  | .runningSlot => d.slotLoss (d.fld F.BOOT_SWAP_STATUS_running_slot)

/-- Class of store of a scrub target in GLB_ECC_CNT: 0 HBM, 1 Hearth, 2 buffer, 4 tables, 5 control-core memory. -/
def ScrubAt.cls : ScrubAt → Nat
  | .hbm _ _ _ _ => 0
  | .hearth _ _ _ => 1
  | .buffer _ => 2
  | .core _ _ => 5
  | _ => 4

/-- An uncorrectable word found by a scrub, handled as one found by an ordinary read (R460, R461). -/
def Dev.scrubUe (d : Dev) (c : Clock) : ScrubAt → Dev
  | .hbm die ch word what =>
    let d := (d.ue 0 0 die (ch % 32 * 2 ^ 27 + word % 2 ^ 27)).bumpSat F.FLW_HBM_CH_STATUS_ue_window (chIx die ch)
    (d.hbmLoss c die what).channelWatch c die
  | .hearth b s w => d.entryUe c b s w
  | .buffer h => d.segUe c h
  | .graph p state => (d.ue 4 4 (p / 16) state).raise c .PRS_GRAPH_ECC 2 p
  | .table p addr _ => d.ue 4 5 (p / 16) addr
  | .tcam p i => (d.ue 4 6 (p / 16) i).shadowCheck c p i true
  | .store inst => d.clusterParity c inst
  | .swpStore die n => d.swpMchk c die n false
  | .core n a => d.coreMchk c n (some a)

/-- Whether a word is under scrub now: HBM only in a pass and never in a channel that retrains or is lost (R461, R462). -/
def Dev.scrubbed (d : Dev) : ScrubAt → Bool
  | .hbm die ch _ _ =>
    (d.rel.hbmPass || d.flag F.GLB_SCRUB_CTRL_hbm_en) && decide (ch < d.channels) &&
      d.fld F.FLW_HBM_CH_STATUS_state (chIx die ch) != 2 && d.fld F.FLW_HBM_CH_STATUS_state (chIx die ch) != 3
  | _ => true

/-- A patrol read (R461, R462): 0 clean, 1 corrected and written back, 2 corrected with its write-back overtaken by a
write, 3 uncorrectable. `last` ends an HBM pass. -/
def Dev.scrubRead (d : Dev) (c : Clock) (t : ScrubAt) (result : Nat) (last : Bool) : Dev :=
  if !d.scrubbed t then d
  else
    let hbm := t.cls == 0
    let d := if hbm then { d with rel := { d.rel with hbmPass := !last } } else d
    let d := if hbm && last then d.bump F.GLB_ECC_CNT_count 12 else d
    if result == 3 then d.scrubUe c t
    else if result == 0 then d
    else
      let d := d.ce t.cls
      let d := if result == 2 then d.bump F.GLB_ECC_CNT_count 13 else d
      match t with
      | .hearth b _ _ =>
        d.bumpWrap F.HRT_BANK_STATUS_ce_count b F.HRT_CNT_WRAP_wrap (4 * (b / 128) + 2 * (b % 128) / 64) (2 * (b % 128) % 64)
      | .hbm die ch _ _ => (d.bumpSat F.FLW_HBM_CH_STATUS_ce_window (chIx die ch)).channelWatch c die
      | _ => d

end Sys2Proof.Machine
end

