-- ==== Sys2Proof/Machine/Keying.lean ====
section
/-! DEFINITION. The key exchange of a Peal link (R446). -/
namespace Sys2Proof.Machine

/-- An identity as the exchange carries it: modulus, exponent, certificate signature. -/
def ownIdentity : List Byte := Config.identityModulus ++ beBytes 4 65537 ++ Config.identityCertificate

/-- Whether an identity's certificate verifies against the CA key in boot ROM (R445, R446). -/
def certified (identity : List Byte) : Bool :=
  pssVerify Config.caModulus (identity.take 516) ((identity.drop 516).take 512)

/-- Whether the identity `key` signed a transcript. -/
def transcriptSigned (key transcript sig : List Byte) : Bool := pssVerify key transcript sig

/-- A failure leaves the link in state 3, counts, and waits to retry (R446). -/
def Dev.keyingFailed (d : Dev) (c : Clock) (g : Nat) : Dev :=
  let l := d.link g
  let d := d.setLink g { l with keying := some ⟨false, [], [], [], some c.phys⟩ }
  { d with net := { d.net with keyFails := d.net.keyFails.setNum ⟨g, 0, 0⟩ (d.net.keyFails.num g + 1) } }

/-- Both secrets known: the master is formed and the link comes up (R446). `si`, `sr`: the initiator's and the
responder's secrets. -/
def Dev.keyed (d : Dev) (c : Clock) (g : Nat) (si sr transcript : List Byte) : Dev :=
  let m := hmacSha512 (si ++ sr) (sha512 transcript)
  let d := { d with net := { d.net with masters := d.net.masters.put ⟨d.linkPeer g, 0, 0⟩ m } }
  d.linkComeUp c g

/-- The link key of an epoch under a peer's master (R446): bits [255:0], bytes 0–31 under R5, of HMAC-SHA-512(M, "peal" ‖ lane group of
each end ‖ epoch). -/
def linkKey (master : List Byte) (own peer epoch : Nat) : List Byte :=
  (hmacSha512 master ([0x70, 0x65, 0x61, 0x6C] ++ leBytes 1 own ++ leBytes 1 peer ++ leBytes 1 epoch)).take 32

/-- Whether a link takes part in an exchange. -/
def Dev.keyable (d : Dev) (g : Nat) : Bool :=
  d.linkState g == 3 && !d.net.keysDead && d.flag F.SEC_STATUS_ladder_ready

/-- KX1 sent by the initiator. -/
def Dev.kx1Send (d : Dev) (c : Clock) (g : Nat) : Dev :=
  let (d, ni) := d.randomBytes 4
  let m := ownIdentity ++ ni
  (d.setLink g { d.link g with keying := some ⟨true, m, [], [], none⟩ }).pealSend c g ⟨15, 1, m, 0⟩

/-- KX1 received by the responder, which answers with KX2. -/
def Dev.kx1Take (d : Dev) (c : Clock) (g : Nat) (m : List Byte) : Dev :=
  if m.length != 1060 || !certified m then d.keyingFailed c g
  else
    let (d, nr) := d.randomBytes 4
    let (d, sr) := d.randomBytes 4
    let (d, seed) := d.randomBytes 8
    let key := m.take 512
    let body := ownIdentity ++ nr ++ oaepEncrypt key sr seed
    let m2 := body ++ Config.identitySign (m ++ body)
    (d.setLink g { d.link g with keying := some ⟨false, m ++ m2, sr, key, none⟩ }).pealSend c g ⟨15, 2, m2, 0⟩

/-- The exchange of a link begins (R446): the device with the lower fused serial sends KX1, the other takes it. -/
def Dev.kx1 (d : Dev) (c : Clock) (g : Nat) (peerSerial : Nat) (m : List Byte) : Dev :=
  if !d.keyable g || (d.link g).keying.isSome then d
  else if d.fuse.serial.toNat < peerSerial then d.kx1Send c g
  else d.kx1Take c g m

/-- KX2 received and verified by the initiator, which answers with KX3; both secrets are then known to it. -/
def Dev.kx2 (d : Dev) (c : Clock) (g : Nat) (m : List Byte) : Dev :=
  match (d.link g).keying with
  | none => d
  | some k =>
    if !d.keyable g || !k.initiator || k.failedAt.isSome then d
    else
      let body := m.take 1572
      let key := m.take 512
      if m.length != 2084 || !certified m || !transcriptSigned key (k.transcript ++ body) (m.drop 1572) then d.keyingFailed c g
      else
        let sr := Config.identityDecrypt (body.drop 1060)
        let (d, si) := d.randomBytes 4
        let (d, seed) := d.randomBytes 8
        let body3 := oaepEncrypt key si seed
        let m3 := body3 ++ Config.identitySign (k.transcript ++ m ++ body3)
        let d := d.pealSend c g ⟨15, 3, m3, 0⟩
        d.keyed c g si sr (k.transcript ++ m ++ m3)

/-- KX3 received and verified by the responder. -/
def Dev.kx3 (d : Dev) (c : Clock) (g : Nat) (m : List Byte) : Dev :=
  match (d.link g).keying with
  | none => d
  | some k =>
    if !d.keyable g || k.initiator || k.failedAt.isSome then d
    else
      let body := m.take 512
      if m.length != 1024 || !transcriptSigned k.peerKey (k.transcript ++ body) (m.drop 512) then d.keyingFailed c g
      else d.keyed c g (Config.identityDecrypt body) k.secret (k.transcript ++ m)

/-- A failed exchange may start again after 100 ms (R446). -/
def Dev.keyingRetry (d : Dev) (c : Clock) (g : Nat) : Dev :=
  match (d.link g).keying.bind Keying.failedAt with
  | some t => if c.phys - t < edgesMs 100 then d else d.setLink g { d.link g with keying := none }
  | none => d

end Sys2Proof.Machine
end

