-- ==== Sys2Proof/Machine/Security.lean ====
section
/-! DEFINITION. Commands of the security core, debug access, fuses, quotes and JTAG (R437–R458). -/
namespace Sys2Proof.Machine

/-- The first `n` bytes of SEC_BLOB. -/
def Dev.blob (d : Dev) (n : Nat) : List Byte :=
  (((List.range 512).map (fun w => leBytes 8 (d.tw .SEC_BLOB 0 0 w))).flatten).take n

/-- Bytes written over the start of SEC_BLOB; a multiple of 8 of them. -/
def Dev.setBlob (d : Dev) (bs : List Byte) : Dev :=
  (List.range (bs.length / 8)).foldl (fun (d : Dev) w => d.setTw .SEC_BLOB 0 0 w (leAt bs (8 * w) 8)) d

/-- A SEC command ends with a result (R458). -/
def Dev.secDone (d : Dev) (result : Nat) : Dev :=
  (d.put F.SEC_CMD_STATUS_result 0 result).putB F.SEC_CMD_STATUS_busy 0 false

/-- The challenge in force as 32 bytes. -/
def Dev.challenge (d : Dev) : List Byte := ((List.range 4).map (fun k => leBytes 8 (d.fld F.SEC_CHAL_value k))).flatten

/-- The challenge is gone: consumed or lapsed (R450). -/
def Dev.dropChallenge (d : Dev) : Dev :=
  ((List.range 4).foldl (fun (d : Dev) k => d.put F.SEC_CHAL_value k 0) d).putB F.SEC_STATUS_chal_valid 0 false

/-- NEW_CHALLENGE (R450). -/
def Dev.newChallenge (d : Dev) (c : Clock) : Dev :=
  let d := (List.range 4).foldl (fun (d : Dev) k =>
    let (x, d) := d.draw Config.random
    d.put F.SEC_CHAL_value k x.toNat) d
  let d := { d with sec := { d.sec with chalAt := c.phys } }
  (d.putB F.SEC_STATUS_chal_valid 0 true).secDone 0

/-- A challenge lapses 600 s after it was drawn (R450). -/
def Dev.challengeLapse (d : Dev) (c : Clock) : Dev :=
  if d.flag F.SEC_STATUS_chal_valid && edgesS 600 ≤ c.phys - d.sec.chalAt then d.dropChallenge else d

/-- Whether a body names this device's serial and the challenge in force. -/
def Dev.aimed (d : Dev) (body : List Byte) : Bool :=
  leAt body 8 8 == d.fuse.serial.toNat && d.flag F.SEC_STATUS_chal_valid && (body.drop 16).take 32 == d.challenge

/-! ### Debug access (R451–R455) -/

/-- The checks of a debug token in the order of their result codes (R451, R452). -/
def Dev.tokenCheck (d : Dev) (bs : List Byte) : Nat :=
  let block := sigBlock bs
  if 8 ≤ d.fld F.SEC_STATUS_deny_count then 8
  else if !(d.phase == 4 || d.phase == 7 || d.phase == 8) then 5
  else if bs.length != 1600 || leAt bs 0 8 != 0x31304742444B5843 || 16 ≤ leAt bs 48 1 || leAt bs 49 15 != 0 ||
      !blockFormed block then 1
  else if (d.slotOf true (anchorOf block)).isNone then 2
  else if !imageSigned bs then 3
  else if !d.aimed bs then 4
  else 0

/-- A packet discarded by the opening of debug access: a lifetime drop; an inject descriptor that waits completes with
status 1 (R425, R453). -/
def Dev.discardPkt (d : Dev) (c : Clock) (x : Pkt) : Dev :=
  let d := match x.txRing with
    | some (r, slot) => d.txComplete c r slot 1 none
    | none => d
  d.clsCnt x.pipe 4

/-- A queued frame discarded: counted likewise, a direct descriptor completed with status 1. -/
def Dev.discardFrame (d : Dev) (c : Clock) (f : EFrame) : Dev :=
  match f.txRing with
  | some (r, slot) => d.txComplete c r slot 1 none
  | none => d.clsCnt (pipeOf f.port) 4

/-- A rollout, evacuation, Kindling, swap or download in progress is abandoned (R453, R476). -/
def Dev.abandonAll (d : Dev) (c : Clock) : Dev :=
  let d := d.fetchAbandon c
  let st := d.fld F.ENG_ROLL_STATUS_state
  let d := if 1 ≤ st && st ≤ 5 then
      let d := (d.put F.ENG_ROLL_STATUS_state 0 8).put F.ENG_ROLL_STATUS_error 0 7
      { d with roll := { d.roll with left := [], begun := false } }
    else d
  let d := (List.range 2).foldl (fun (d : Dev) die =>
    if d.fld F.FLW_HBM_EVAC_state die == 1 || d.fld F.FLW_HBM_EVAC_state die == 2 then
      (d.put F.FLW_HBM_EVAC_state die 0).put F.FLW_HBM_CH_STATUS_state (chIx die (d.evacChannel die)) 0
    else d) d
  let d := if d.kstate == 0 then d else d.setKstate 5
  if d.swapBusy then (d.put F.BOOT_SWAP_STATUS_state 0 6).put F.BOOT_SWAP_STATUS_error 0 10 else d

/-- Steps 1 to 4 of R453: keys zeroized, Peal links down, intake and ports closed, packets discarded, and the store
clear begins. -/
def Dev.debugOpen (d : Dev) (c : Clock) (scope : Nat) : Dev :=
  let d := (d.putB F.SEC_STATUS_debug_opened 0 true).putB F.SEC_STATUS_ladder_blocked 0 true
  let zero := fun (d : Dev) (r : Reg) => (d.setReg r 0 0).setReg r 1 0
  let d := zero (zero { d with flw := { d.flw with fpKey := (0, 0) } } .FLW_BANK_KEY) .NAT_HASH_KEY
  let d := { d with net := { d.net with keysDead := true, masters := ⟨[]⟩, r75 := true, shut := true } }
  let d0 := d
  let d := (List.range 64).foldl (fun (d : Dev) g => if d.linkState g == 0 then d else d.linkDown c g) d
  let d := d.emberReroute d0 c
  let d := d.pkts.vals.foldl (fun (d : Dev) x => d.discardPkt c x) d
  let d := (d.sch.leaf.vals.flatten ++ d.sch.wire.vals.flatten.map TxFrame.frame).foldl (fun (d : Dev) f => d.discardFrame c f) d
  let d := d.abandonAll c
  { d with
    pkts := ⟨[]⟩, pipes := ⟨[]⟩, sec := { d.sec with clearing := some scope },
    sch := { d.sch with leaf := ⟨[]⟩, wire := ⟨[]⟩, gateWait := ⟨[]⟩ } }

/-- DEBUG_TOKEN (R450–R453): the challenge is consumed; the token opens debug access or is denied. -/
def Dev.debugToken (d : Dev) (c : Clock) (req length : Nat) : Dev :=
  let bs := d.blob length
  let r := d.tokenCheck bs
  let d := d.dropChallenge
  if r == 0 then d.debugOpen c (leAt bs 48 1)
  else
    let d := d.put F.SEC_STATUS_deny_count 0 (min 8 (d.fld F.SEC_STATUS_deny_count + 1))
    (d.raise c .SEC_DEBUG_DENIED 0 0 [(8, r), (4, req)]).secDone r

/-- The stores of R454 cleared. -/
def Dev.clearStores (d : Dev) (c : Clock) : Dev :=
  let fifos := d.fifos.cells.map (fun x => x.1.a)
  let d := fifos.foldl (fun (d : Dev) f =>
    let x := d.fifo f
    ((d.fifReturn f (x.whole ++ x.partialItem.toList)).setFifo f Fifo.init).fifStatus f) d
  let segs := d.bpm.segs.filter (fun _ s => s.retired)
  let d := { d with
    fifos := ⟨[]⟩,
    bpm := { d.bpm with segs := segs, retries := [] },
    eng := { d.eng with runs := ⟨[]⟩ },
    swp := { d.swp with sweeps := d.swp.sweeps.map (fun _ s =>
      { s with visit := none, waiting := none, ctx := SwpCtx.init, ckpt := SwpCtx.init, slots := Slots.none, calls := [] }) },
    nat := { d.nat with ports := ⟨[]⟩, subs := ⟨[]⟩, quar := [], binds := [] },
    twn := { d.twn with unacked := ⟨[]⟩, backlog := ⟨[]⟩, held := [] },
    flw := { d.flw with
      recs := ⟨[]⟩, index := ⟨[]⟩, spill := ⟨[]⟩, hearth := ⟨[]⟩, misses := [], fresh := ⟨[]⟩, returned := ⟨[]⟩,
      tags := ⟨[]⟩, quar := d.flw.quar.filter (fun _ v => v == 3) } }
  let d := (List.range 8).foldl (fun (d : Dev) s => d.put F.CLS_GEN_INFLIGHT_packets s 0) d
  let d := ((d.warnEvalAll c 0).warnEvalAll c 1).natStatus
  (((((d.holdOcc 0).holdOcc 1).recLive 0).recLive 1).quarStatus 0).quarStatus 1

/-- Steps 5 and 6 of R453: the clear ends, new keys are drawn, intake and ports reopen, the scope opens. -/
def Dev.storeCleared (d : Dev) (c : Clock) : Dev :=
  match d.sec.clearing with
  | none => d
  | some scope =>
    let d := ((d.clearStores c).drawKeys).raise c .SEC_ZEROIZED 0 0
    let d := { d with sec := { d.sec with clearing := none }, net := { d.net with r75 := false, shut := d.pwr.tripAt.isSome } }
    let d := d.put F.SEC_STATUS_scope 0 scope
    (d.raise c .SEC_DEBUG_OPENED 0 0 [(8, scope)]).secDone 0

/-! ### Fuse requests (R439, R440) -/

/-- Whether a request changes a debug slot, and whether it programs. -/
def fuseDbg (op : Nat) : Bool := op == 3 || op == 4
/-- Whether an op programs a slot. -/
def fuseProgram (op : Nat) : Bool := op == 1 || op == 3

/-- Whether a revocation would leave no usable configuration anchor or take the applied image's (R439). -/
def Dev.revokesLast (d : Dev) (op slot : Nat) : Bool :=
  op == 2 && ((d.boot.accepted && d.fld F.SEC_ANCHOR_STATUS_slot_used == slot) ||
    !(slotsOf false).any (fun s => s != slot && d.slotUsable false s))

/-- The checks of a fuse request in the order of their result codes (R439, R440). -/
def Dev.fuseCheck (d : Dev) (bs : List Byte) : Nat :=
  let op := leAt bs 48 1
  let slot := leAt bs 49 1
  let block := sigBlock bs
  let unsigned_ := d.phase == 8 && d.provisioning && bs.length == 128 && op == 1 && slot == 0
  if !(unsigned_ || bs.length == 1664) || leAt bs 0 8 != 0x31305355464B5843 || op == 0 || 4 < op ||
      !(slotsOf (fuseDbg op)).contains slot || leAt bs 50 14 != 0 || (!fuseProgram op && leAt bs 64 64 != 0) ||
      !(unsigned_ || blockFormed block) then 1
  else if !unsigned_ && (d.slotOf false (anchorOf block)).isNone then 2
  else if !unsigned_ && !imageSigned bs then 3
  else if !d.aimed bs then 4
  else if d.flag F.SEC_STATUS_debug_opened || d.revokesLast op slot then 5
  else if (d.anchor (fuseDbg op) slot).programmed == fuseProgram op then 9
  else 0

/-- FUSE_REQUEST (R439, R440, R450): refused, or the burn starts. -/
def Dev.fuseRequest (d : Dev) (length : Nat) : Dev :=
  let bs := d.blob length
  let r := d.fuseCheck bs
  let d := d.dropChallenge
  if r != 0 then d.secDone r
  else
    let op : FuseOp := ⟨leAt bs 48 1, leAt bs 49 1, (bs.drop 64).take 64⟩
    ({ d with sec := { d.sec with burning := some op } }).putB F.SEC_CMD_STATUS_busy 0 true

/-- A slot written. -/
def Dev.setAnchor (d : Dev) (dbg : Bool) (slot : Nat) (a : Anchor) : Dev :=
  if dbg then { d with fuse := { d.fuse with dbg := d.fuse.dbg.set (fun _ => Anchor.empty) ⟨slot, 0, 0⟩ a } }
  else { d with fuse := { d.fuse with cfg := d.fuse.cfg.set (fun _ => Anchor.empty) ⟨slot, 0, 0⟩ a } }

/-- The burn ends (R439): `verified` false leaves the programmed or revoked bit unblown, with result 7. -/
def Dev.fuseProgrammed (d : Dev) (c : Clock) (verified : Bool) : Dev :=
  match d.sec.burning with
  | none => d
  | some op =>
    let dbg := fuseDbg op.op
    let a := d.anchor dbg op.slot
    let a := if fuseProgram op.op then { a with digest := op.digest, programmed := verified }
      else { a with revoked := a.revoked || verified }
    let d := (({ d with sec := { d.sec with burning := none } }).setAnchor dbg op.slot a)
    let d := d.putB F.SEC_STATUS_provisioning 0 d.provisioning
    if verified then d.secDone 0 else (d.raise c .SEC_FUSE_FAULT 0 0).secDone 7

/-! ### Quotes and the epoch (R443, R447–R449) -/

/-- M4: every component digest as DIGEST_LIST has them (R447). -/
def Dev.componentDigests (d : Dev) : List Byte :=
  (d.digestParts.map (fun p => leBytes 4 p.1 ++ leBytes 4 p.2.1 ++ leBytes 8 p.2.2)).flatten

/-- Bytes 0–511 of a quote (R448). -/
def Dev.quoteBody (d : Dev) (c : Clock) (nonce : List Byte) : List Byte :=
  leBytes 8 0x31304554514B5843 ++ leBytes 8 d.fuse.serial.toNat ++ nonce ++ c.stamp.bytes ++
  leBytes 1 (d.fld F.SEC_STATUS_debug_opened + 2 * bit d.sec.recovery + 4 * bit d.provisioning) ++ leBytes 1 d.fuse.epoch ++
  leBytes 1 (d.fld F.SEC_ANCHOR_STATUS_slot_used % 16 + 16 * d.sec.fwAnchor) ++ leBytes 1 0 ++
  leBytes 8 (d.fld F.BOOT_IMAGE_SERIAL_image_serial) ++ leBytes 4 d.sec.fwVersion ++ leBytes 4 d.sec.warmResets ++
  leBytes 8 d.devDigest ++ List.replicate 40 (0 : Byte) ++ d.sec.meas.flatten ++ List.replicate 64 (0 : Byte)

/-- QUOTE (R448, R449): unsigned once debug access has opened. -/
def Dev.quote (d : Dev) (c : Clock) : Dev :=
  if d.phase < 4 || d.phase == 9 || !d.flag F.SEC_STATUS_ladder_ready then d.secDone 5
  else
    let d := d.setMeas 4 (sha512 d.componentDigests)
    let body := d.quoteBody c (d.blob 32)
    let sig := if d.flag F.SEC_STATUS_debug_opened then List.replicate 512 (0 : Byte)
      else (Config.identitySign body ++ List.replicate 512 (0 : Byte)).take 512
    (d.setBlob (body ++ sig)).secDone 0

/-- EPOCH_COMMIT (R443). -/
def Dev.epochCommit (d : Dev) : Dev :=
  if d.phase != 7 || d.flag F.SEC_STATUS_debug_opened then d.secDone 5
  else ({ d with fuse := { d.fuse with epoch := max d.fuse.epoch (min (d.sec.fwVersion / 2 ^ 24) (min d.sec.minEpoch 64)) } }).secDone 0

/-- SEC_CMD.go with its op and length already written (R458). -/
def Dev.secGo (d : Dev) (c : Clock) (req : Nat) : Dev :=
  if d.flag F.SEC_CMD_STATUS_busy then d.triggerBusy c .SEC_CMD
  else
    let op := d.fld F.SEC_CMD_op
    let length := d.fld F.SEC_CMD_length
    let d := (d.put F.SEC_CMD_STATUS_requester 0 req).putB F.SEC_CMD_STATUS_busy 0 true
    match op with
    | 1 => d.debugToken c req length
    | 2 => d.fuseRequest length
    | 3 => d.quote c
    | 4 => d.newChallenge c
    | 5 => d.epochCommit
    | _ => d.secDone 1

/-- SEC_CMD written by a requester with an op, a length and go. -/
def Dev.secCmd (d : Dev) (c : Clock) (req op length : Nat) : Dev :=
  ((d.put F.SEC_CMD_op 0 op).put F.SEC_CMD_length 0 length).secGo c req

/-! ### JTAG (R456) -/

/-- A JTAG instruction that leaves the pins under functional control. -/
def Dev.jtagSelect (d : Dev) (code : Nat) : Dev := { d with sec := { d.sec with jtag := code } }

/-- A JTAG instruction that takes the pins from functional control until the next cold reset. -/
def Dev.jtagPins (d : Dev) (code : Nat) : Dev := { d with sec := { d.sec with jtag := code, pinsOut := true } }

/-- The IDCODE of A0: version 0, part number 0xC410, the manufacturer of the BSDL file, and the fixed low bit. -/
def idcode : Nat := 0xC410 * 2 ^ 12 + Config.jtagManufacturer.toNat * 2 + 1

/-- IDCODE shifts the identification register out. -/
def Dev.jtagIdcode (d : Dev) : Dev := (d.jtagSelect 1).emit (.readData 10 idcode)

end Sys2Proof.Machine
end

