-- ==== Sys2Proof/Machine/RegAccess.lean ====
section
/-! DEFINITION. Access to BAR0 by every requester: registers, table windows, SEC_BLOB, the SDT (R29–R60). -/
namespace Sys2Proof.Machine

/-! ### Where an address leads -/

/-- What a 4-byte aligned BAR0 address reaches: the SDT; a byte of SEC_BLOB; half 0 or 1 of a register copy; half 0 or 1
of a word of a table entry; nothing that the SDT describes (R44). -/
inductive Place where
  | sdt
  | blob (off : Nat)
  | reg (r : Reg) (ix half : Nat)
  | window (t : TableId) (inst entry word half : Nat)
  | none
  deriving DecidableEq

/-- Flat index of the copy that an offset from a register's base lies in, and the offset within the copy. -/
def copyOf : List (Nat × Nat) → Nat → Option (Nat × Nat)
  | [], off => some (0, off)
  | (n, s) :: t, off =>
    if n ≤ off / s then Option.none
    else (copyOf t (off % s)).map (fun x => (off / s * (t.foldl (fun k y => k * y.1) 1) + x.1, x.2))

/-- The register copy and half that an address lies in. -/
def regAt (addr : Nat) : Option (Reg × Nat × Nat) :=
  Reg.all.findSome? (fun r =>
    if addr < r.base then Option.none
    else match copyOf r.dims (addr - r.base) with
      | some (ix, off) => if off < r.width / 8 then some (r, ix, off / 4) else Option.none
      | Option.none => Option.none)

/-- Every table, in the order of its number. -/
def TableId.all : List TableId :=
  [.PRS_STATE_TBL, .PRS_TRANS_TBL, .CLS_PROFILE_TBL, .CLS_RANGE_TBL, .TCAM, .CLS_RULE_TBL, .CLS_ACTION_TBL,
   .CLS_TEMPLATE_TBL, .CLS_LPM_TBL, .CLS_EXM_TBL, .FLW_ZONE_TBL, .ENG_CSTORE, .ENG_DISPATCH, .SWP_CSTORE] ++
  [.NAT_ADDR_TBL, .NAT_SUB_TBL, .LBL_SVC_TBL, .LBL_BACKEND_TBL, .LBL_SLOT_TBL, .LBL_NH_TBL, .LBL_NH_MEMBER_TBL,
   .LBL_SMAC_TBL, .TEL_ACT_CNT, .TEL_HIST, .PRF_SAMPLE_TBL, .SCH_PORT_TBL, .SCH_PG_TBL, .SCH_CG_TBL, .SCH_LEAF_TBL] ++
  [.SCH_LEAF_PROFILE, .SCH_ECN_PROFILE, .SCH_POL_TBL, .SCH_POL_CNT, .SCH_LEAF_CNT, .SCH_GATE_TBL, .TIM_PTP_DS,
   .TIM_LEDGER_TBL, .SEC_ANCHOR_TBL, .SEC_ID_TBL, .SEC_BLOB, .PEL_DIGEST_SEL]

/-- A table by its number. -/
def TableId.ofNum (n : Nat) : Option TableId := TableId.all[n]?

/-- What an address reaches. -/
def placeOf (addr : Nat) : Place :=
  if addr < 128 || (0x4000000 ≤ addr && addr < 0x4400000) then .sdt
  else if 0x31000 ≤ addr && addr < 0x32000 then .blob (addr - 0x31000)
  else if 0x4400000 ≤ addr then
    match Config.windowAt (addr / 8 * 8) with
    | some (n, inst, entry, word) =>
      match TableId.ofNum n with
      | some t => .window t inst entry word (addr / 4 % 2)
      | Option.none => .none
    | Option.none => .none
  else match regAt addr with
    | some (r, ix, half) => .reg r ix half
    | Option.none => .none

/-- An access the fabric serves (R37): 4 or 8 bytes, aligned to its size, inside BAR0. -/
def accessOk (addr size : Nat) : Bool := (size == 4 || size == 8) && addr % size == 0 && addr + size ≤ 0x8000000

/-- Any other access completes with Unsupported Request (R37). -/
def Dev.badAccess (d : Dev) (c : Clock) (req : Nat) : Dev :=
  ((d.emit (.unsupported req)).bump F.HST_CNT_count 1).raise c .HST_BAD_ACCESS 0 0

/-! ### What a read returns -/

/-- Whether the transmitter of a port is idle and the port disabled (R96). -/
def Dev.portDrained (d : Dev) (p : Nat) : Bool := !d.flag F.MAC_PORT_CFG_enable p

/-- Value of a register copy as a read returns it: values that are computed on the fly, and secrets as zero (R42). -/
def Dev.regView (d : Dev) (c : Clock) (r : Reg) (ix : Nat) : Nat :=
  let raw := (d.reg r ix).toNat
  let with_ := fun (f : Fld) (v : Nat) => putBits raw f.lo f.bits v
  let head := d.tim.txq.head?
  if r.fields.any (fun fi => fi.secret) then 0
  else if digestRegs.contains r then d.blockDigest r ix
  else match r with
    | .BOOT_STATUS => with_ F.BOOT_STATUS_fw_window_ms (d.windowMs c)
    | .SEC_STATUS => with_ F.SEC_STATUS_epoch d.fuse.epoch
    | .SEC_ANCHOR_STATUS => raw + d.anchorStatus
    | .EVT_INTN => with_ F.EVT_INTN_event (bit d.intnEvent)
    | .TIM_NOW_LO => c.stamp.lo
    | .TIM_NOW_HI => c.stamp.hi
    | .TIM_ADJ_STATUS =>
      match c.slew with
      | some w => putBits (with_ F.TIM_ADJ_STATUS_remaining (unsigned 48 w.remaining)) 48 1 1
      | Option.none => raw
    | .TIM_TXQ_DATA0 => (head.map (fun e => e.stamp.lo)).getD 0
    | .TIM_TXQ_DATA1 =>
      (head.map (fun e => e.stamp.sec / 2 ^ 16 % 2 ^ 32 + e.id % 2 ^ 16 * 2 ^ 32 + e.port % 2 ^ 9 * 2 ^ 48 + 2 ^ 63)).getD 0
    | .TIM_TXQ_STATUS => with_ F.TIM_TXQ_STATUS_depth d.tim.txq.length
    | .GLB_DEV_DIGEST => d.devDigest
    | .PEL_GROUP_DIGEST => d.groupDigest
    | .MAC_PORT_STATUS => with_ F.MAC_PORT_STATUS_drained (bit (d.portDrained ix))
    | .GLB_LIFE_HIST => ((d.lifeCount c).reg .GLB_LIFE_HIST ix).toNat
    | _ => raw

/-- A 32-bit word of the SDT (R32–R34); before publication everything reads zero. -/
def Dev.sdtRead (d : Dev) (addr : Nat) : Nat :=
  if !d.boot.published then 0
  else match addr with
    | 0 => 0x534B5843
    | 4 => 0x31305444
    | 8 => 0x00010000
    | 12 => 0x00003041
    | 16 => if d.flw.twoStack then 2 else 4
    | 24 => 0x04000000
    | _ => if 40 ≤ addr && addr < 64 then 0 else (Config.sdtWord addr).toNat

/-- Tables with one bank for each generation slot, reached through windows only (R164). -/
def windowBanked (t : TableId) : Bool := [TableId.PRS_STATE_TBL, .PRS_TRANS_TBL, .CLS_PROFILE_TBL, .CLS_RANGE_TBL].contains t

/-- Level of a scheduling node table. -/
def nodeLevel : TableId → Option Nat
  | .SCH_LEAF_TBL => some 0
  | .SCH_CG_TBL => some 1
  | .SCH_PG_TBL => some 2
  | .SCH_PORT_TBL => some 3
  | _ => Option.none

/-- A bucket value as the host reads it: whole bytes, signed, 32 bits. -/
def bucketBytes (v : Int) : Nat := unsigned 32 (v / 16000000)

/-- An anchor slot as SEC_ANCHOR_TBL shows it: configuration slots 0–7, then debug slots 0–1; 8 words of digest. -/
def Dev.anchorWord (d : Dev) (entry word : Nat) : Nat :=
  let a := if entry < 8 then d.anchor false entry else d.anchor true (entry - 8)
  leAt a.digest (8 * word) 8

/-- A word of a table entry as its window reads. -/
def Dev.windowRead (d : Dev) (c : Clock) (t : TableId) (inst entry word : Nat) : Nat :=
  if windowBanked t then d.tw t (if d.stageOpen then d.stagedSlot else d.liveGen.2) entry word
  else match nodeLevel t, word with
    | some 0, 2 => d.tw t inst entry 2 % 2 ^ 12 + d.leafBytes inst entry % 2 ^ 28 * 2 ^ 20
    | some l, 3 => bucketBytes (d.bucket c inst l entry 0).value + bucketBytes (d.bucket c inst l entry 1).value * 2 ^ 32
    | _, _ => match t with
      | .SCH_POL_TBL =>
        if word == 2 then bucketBytes (d.polBuckets c inst entry).1.value + bucketBytes (d.polBuckets c inst entry).2.value * 2 ^ 32
        else d.tw t inst entry word
      | .TIM_LEDGER_TBL =>
        if entry < 86400 then leAt (d.tim.ledger.getD entry []) (8 * word) 8
        else leAt (d.tim.blocks.getD (entry - 86400) []) (8 * word) 8
      | .SEC_ANCHOR_TBL => d.anchorWord entry word
      | .SEC_ID_TBL => leAt (Config.identityModulus ++ leBytes 4 65537 ++ List.replicate 508 0 ++ Config.identityCertificate) (8 * word) 8
      | .SEC_BLOB => 0
      | _ => if versioned t || t == .TCAM || t == .CLS_RULE_TBL then 0 else d.tw t inst entry word

/-! ### Reads -/

/-- Key of a requester's captures and held halves for a register copy. -/
def halfKey (req : Nat) (r : Reg) (ix : Nat) : Key := ⟨req, r.num, ix⟩

/-- A register access by a requester ends its capture of the high half (R38). -/
def Dev.dropCapture (d : Dev) (req : Nat) (r : Reg) (ix : Nat) : Dev :=
  { d with acc := { d.acc with halfRead := d.acc.halfRead.erase (halfKey req r ix) } }

/-- HI register of a LO register that carries half of a TS96 (R383). -/
def hiOf (r : Reg) : Option Reg :=
  match r with
  | .TIM_NOW_LO => some .TIM_NOW_HI
  | .TIM_SET_LO => some .TIM_SET_HI
  | .TIM_PPS_IN_LO => some .TIM_PPS_IN_HI
  | _ => none

/-- LO register of a HI register that carries half of a TS96 (R383). -/
def loOf (r : Reg) : Option Reg :=
  match r with
  | .TIM_NOW_HI => some .TIM_NOW_LO
  | .TIM_SET_HI => some .TIM_SET_LO
  | .TIM_PPS_IN_HI => some .TIM_PPS_IN_LO
  | _ => none

/-- Key of a requester's capture of a HI register, and of its held write of a LO register (R383). -/
def pairKey (req : Nat) (r : Reg) : Key := ⟨req, r.num, 1⟩

/-- A requester's capture of the HI register of a pair ends. -/
def Dev.dropPair (d : Dev) (req : Nat) (hi : Reg) : Dev :=
  { d with acc := { d.acc with halfRead := d.acc.halfRead.erase (pairKey req hi) } }

/-- A read of a LO register captures its HI register for the requester (R383). -/
def Dev.capturePair (d : Dev) (c : Clock) (req : Nat) (r : Reg) : Dev :=
  match hiOf r with
  | some hi => { d with acc := { d.acc with halfRead := d.acc.halfRead.put (pairKey req hi) (d.regView c hi 0) } }
  | none => d

/-- The value of a register as a requester reads it: a captured HI register holds its captured value (R383). -/
def Dev.pairView (d : Dev) (c : Clock) (req : Nat) (r : Reg) (ix : Nat) : Nat :=
  if (loOf r).isSome then (d.acc.halfRead.find? (pairKey req r)).getD (d.regView c r ix) else d.regView c r ix

/-- A read of BOOT_STATUS clears the boot bit that drives INT_N (R434). -/
def Dev.readEffect (d : Dev) (r : Reg) : Dev := if r == .BOOT_STATUS then d.bootStatusRead else d

/-- One 32-bit read (R37, R38). -/
def Dev.read32 (d : Dev) (c : Clock) (req addr : Nat) : Dev × Nat :=
  match placeOf addr with
  | .sdt => (d, d.sdtRead addr)
  | .blob off => (d, d.tw .SEC_BLOB 0 0 (off / 8) / 2 ^ (32 * (off / 4 % 2)) % 2 ^ 32)
  | .window t inst entry word half => (d, d.windowRead c t inst entry word / 2 ^ (32 * half) % 2 ^ 32)
  | .none => (d, 0)
  | .reg r ix half =>
    let v := d.pairView c req r ix
    let k := halfKey req r ix
    let d := if (loOf r).isSome then d.dropPair req r else d
    if half == 0 then
      let d := (d.readEffect r).capturePair c req r
      if r.width == 64 then ({ d with acc := { d.acc with halfRead := d.acc.halfRead.put k (v / 2 ^ 32) } }, v % 2 ^ 32)
      else (d, v % 2 ^ 32)
    else match d.acc.halfRead.find? k with
      | some h => (d.dropCapture req r ix, h)
      | Option.none => (d.readEffect r, v / 2 ^ 32)

/-- A read by a requester of 4 or 8 bytes; `none` when it completes with Unsupported Request. -/
def Dev.read (d : Dev) (c : Clock) (req addr size : Nat) : Dev × Option Nat :=
  if !accessOk addr size then (d.badAccess c req, Option.none)
  else if size == 4 then
    let (d, v) := d.read32 c req addr
    (d, some v)
  else match placeOf addr with
    | .reg r ix 0 =>
      if r.width == 64 then
        let v := d.pairView c req r ix
        let d := if (loOf r).isSome then d.dropPair req r else d
        (((d.dropCapture req r ix).readEffect r).capturePair c req r, some v)
      else
        let (d, lo) := d.read32 c req addr
        let (d, hi) := d.read32 c req (addr + 4)
        (d, some (lo + hi * 2 ^ 32))
    | .window t inst entry word _ => (d, some (d.windowRead c t inst entry word))
    | _ =>
      let (d, lo) := d.read32 c req addr
      let (d, hi) := d.read32 c req (addr + 4)
      (d, some (lo + hi * 2 ^ 32))

/-- A read whose value goes back to its requester. -/
def Dev.readOut (d : Dev) (c : Clock) (req addr size : Nat) : Dev :=
  match d.read c req addr size with
  | (d, some v) => d.emit (.readData req v)
  | (d, Option.none) => d

/-! ### Drained conditions (R47, R48) -/

/-- Whether the unit of a drain-gated field is drained. -/
def Dev.drained (d : Dev) (r : Reg) (ix : Nat) : Bool :=
  match r with
  | .MAC_PORT_CFG => d.portDrained ix
  | .PEL_GROUP_CFG =>
    !d.net.configured.any (fun p => p / 8 == ix && d.flag F.MAC_PORT_CFG_enable p) &&
      (!d.flag F.PEL_GROUP_CFG_peal_en ix || d.linkState ix == 0)
  | .CLS_EXM_CFG => !d.cls.entries.any (fun e => e.tbl == TableId.CLS_EXM_TBL.num && e.key.headD 0 == ix)
  | .BPM_POOL_CFG => !d.bpm.segs.cells.any (fun x => x.1.a == ix / 3 && !x.2.retired)
  | .FIF_CFG => !d.flag F.FIF_CFG_enable ix && (d.fifo ix).whole.isEmpty && (d.fifo ix).partialItem.isNone
  | .FLW_CMD_RING => d.fld F.FLW_CMD_PTR_head ix == d.fld F.FLW_CMD_PTR_tail ix
  | .PEL_DIST_RING => d.fld F.PEL_DIST_PTR_head == d.fld F.PEL_DIST_PTR_tail
  | .HST_RXR_CFG => !d.flag F.HST_RXR_CFG_enable ix
  | .HST_TXR_CFG => !d.flag F.HST_TXR_CFG_enable ix && (d.txList ix).isEmpty
  | .EVT_RING_CFG => !d.flag F.EVT_RING_CFG_enable ix
  | _ => true

/-! ### Writes of fields (R39, R48, R55, R56) -/

/-- Whether a requester is firmware: control cores 0–7 (R55, R56). -/
def isFirmware (req : Nat) : Bool := 1 ≤ req && req ≤ 8

/-- What a write does to one field under its access type. `free`: the unit was drained before the write. -/
def Dev.writeField (d : Dev) (c : Clock) (req : Nat) (fi : FieldInfo) (ix v : Nat) (free : Bool) : Dev :=
  let f := fi.fld
  let x := bitsOf v f.lo f.bits
  let now := d.fld f ix
  let addr := f.reg.addr ix
  let written : Key := ⟨f.reg.num, ix, f.lo⟩
  match fi.acc with
  | .ro | .rc | .wt => d
  | _ =>
    if fi.fwOwned && !isFirmware req then d.lockViolation c 2 req addr
    else match fi.acc with
      | .w1c => d.put f ix (now - (now &&& x))
      | .w1s => d.put f ix (now ||| x)
      | .wo1 =>
        if d.acc.wo1.num written.a written.b written.c != 0 then d.lockViolation c 0 req addr
        else ({ d with acc := { d.acc with wo1 := d.acc.wo1.setNum written 1 } }).put f ix x
      | .rw => if fi.drain && !free && x != now then d.notDrained c req addr else d.put f ix x
      | _ => d.put f ix x

/-- Trigger bits of a register that a write sets. -/
def triggers (r : Reg) (v : Nat) : List Fld :=
  (r.fields.filter (fun fi => fi.acc == .wt && fi.fld.bits == 1 && bitOf v fi.fld.lo)).map (fun fi => fi.fld)

/-- Whether a write sets triggers that no rule orders (R54); PRF_CTRL orders its own (R302). -/
def conflicting (r : Reg) (v : Nat) : Bool := r != .PRF_CTRL && 2 ≤ (triggers r v).length

/-! ### What a write starts -/

/-- HOLD.req written (R50): a hold starts only from ack 0; 0 releases it. -/
def Dev.holdRequest (d : Dev) (c : Clock) (r : Reg) (ix : Nat) : Dev :=
  let ack : Fld := ⟨r, 1, 1⟩
  if d.flag ack ix then d
  else
    let d := { d with acc := { d.acc with holdAck := d.acc.holdAck.setNum ⟨r.num, ix, 0⟩ (c.phys + 1) } }
    (d.put ack ix 1).put ⟨r, 0, 0⟩ ix 1

/-- The HOLD registers of R51. -/
def holdRegs : List Reg :=
  [.PRS_HOLD, .CLS_HOLD, .FLW_HOLD, .ENG_HOLD, .BPM_HOLD, .SCH_HOLD, .NAT_HOLD, .LBL_HOLD, .TEL_HOLD, .TWN_HOLD]

/-- Intake resumes: a released TWN hold lets the entries that waited go (R50, R51). -/
def Dev.holdResume (d : Dev) (c : Clock) (r : Reg) (ix : Nat) : Dev :=
  if r != .TWN_HOLD || !d.emberUp ix then d
  else (d.backlog ix).foldl (fun (d : Dev) m => d.emberOut c ix m) (d.setBacklog ix [])

/-- HOLD.req written to 0 (R50). -/
def Dev.holdRelease (d : Dev) (c : Clock) (r : Reg) (ix : Nat) : Dev :=
  if !d.flag ⟨r, 1, 1⟩ ix then d.put ⟨r, 0, 0⟩ ix 0
  else ((d.put ⟨r, 1, 1⟩ ix 0).put ⟨r, 0, 0⟩ ix 0).holdResume c r ix

/-- A hold stands 1 µs after its ack: the block releases itself (R50). -/
def Dev.holdExpired (d : Dev) (c : Clock) (r : Reg) (ix : Nat) : Dev :=
  let t := d.acc.holdAck.num r.num ix
  if !holdRegs.contains r || !d.flag ⟨r, 1, 1⟩ ix || c.phys + 1 - t < edgesUs 1 then d
  else
    let d := ((d.put ⟨r, 1, 1⟩ ix 0).put ⟨r, 0, 0⟩ ix 0).put ⟨r, 2, 2⟩ ix 1
    (d.holdResume c r ix).raise c .GLB_HOLD_EXPIRED 0 ix [(27, r.addr ix)]

/-- A write of CLS_TBL_CMD runs its operation (R165, R511); operation codes that are not listed are ignored. -/
def Dev.tblOp (d : Dev) (c : Clock) (op : Nat) : Dev :=
  let index := d.fld F.CLS_TBL_CMD_index
  match tableOfIndex (d.fld F.CLS_TBL_CMD_table) with
  | Option.none => if 1 ≤ op && op ≤ 6 then d.tblStatus 8 else d
  | some t =>
    match op with
    | 1 => d.tblAdd c t index
    | 2 => d.tblDelete c t index
    | 3 => d.tblWriteAt c t index
    | 4 => d.tblMove t index
    | 5 => d.tblRead t index
    | 6 => d.tblLocate t index
    | _ => d

/-- A port is enabled and its lanes train (R74, R96), or its configuration is invalid and it stays disabled; a disabled
port's link goes down. -/
def Dev.portWritten (d d0 : Dev) (c : Clock) (p : Nat) : Dev :=
  let was := d0.flag F.MAC_PORT_CFG_enable p
  let now := d.flag F.MAC_PORT_CFG_enable p
  let n := d.portLanes p
  if now && !was then
    if d.portCfgInvalid p n then ((d.setReg .MAC_PORT_CFG p (d0.reg .MAC_PORT_CFG p)).raise c .MAC_CFG_INVALID 8 p)
    else
      let others := d.net.configured.filter (fun q => q + d0.portLanes q ≤ p || p + n ≤ q)
      let d := { d with net := { d.net with configured := p :: others } }
      if d.phase < 6 then d
      else ((List.range n).map (fun i => p + i)).foldl (fun (d : Dev) l =>
        if d.laneState l == 5 || d.laneState l == 6 then d else d.put F.LANE_STATUS_state l 1) d
  else if was && !now then d.linkEval c p false
  else d

/-- A group enters Peal mode: its lanes train, or its masks break R100 and it stays down. -/
def Dev.groupWritten (d d0 : Dev) (c : Clock) (g : Nat) : Dev :=
  if !d.flag F.PEL_GROUP_CFG_peal_en g || d.reg .PEL_GROUP_CFG g == d0.reg .PEL_GROUP_CFG g then d
  else if d.pealCfgInvalid g then d.raise c .PEL_CFG_INVALID 10 g [(8, g)]
  else if d.phase < 6 then d
  else ((List.range 8).map (fun i => 8 * g + i)).foldl (fun (d : Dev) l =>
    if d.laneState l == 0 || d.laneState l == 4 then d.put F.LANE_STATUS_state l 1 else d) d

/-- A write of FIF_CFG or FIF_PROD that leaves an enabled FIFO invalid is refused, and the FIFO stays disabled (R324). A
raised credit count gives its producer the difference (R327). -/
def Dev.fifoWritten (d d0 : Dev) (c : Clock) (r : Reg) (ix : Nat) : Dev :=
  let f := if r == .FIF_PROD then ix / 4 else ix
  if d.flag F.FIF_CFG_enable f && d.fifCfgInvalid f then
    ((d.setReg r ix (d0.reg r ix)).put F.FIF_CFG_enable f (d0.fld F.FIF_CFG_enable f)).raise c .FIF_CFG_INVALID 1 (f / 512) [(10, f)]
  else if r == .FIF_PROD then
    let more := d.fld F.FIF_PROD_credits ix - d0.fld F.FIF_PROD_credits ix
    d.put F.FIF_PROD_held ix (d.fld F.FIF_PROD_held ix + more)
  else d.fifWake c f

/-- A write of pool sizes that exceed the buffer is ignored (R310); thresholds act at once (R317). -/
def Dev.poolWritten (d d0 : Dev) (c : Clock) (ix : Nat) : Dev :=
  let die := ix / 3
  let d := if d.poolsTooBig die then
      (d.put F.BPM_POOL_CFG_segments ix (d0.fld F.BPM_POOL_CFG_segments ix)).raise c .BPM_CFG_INVALID 1 die [(2, ix % 3)]
    else d
  (d.overcommitEval c die).warnEvalAll c die

/-- A vector unmasked with its PBA bit set fires (R426). -/
def Dev.msixWritten (d : Dev) (v : Nat) : Dev :=
  if d.flag F.MSIX_DATA_mask v || !bitOf (d.fld F.MSIX_PBA_pending) v then d
  else (d.put F.MSIX_PBA_pending 0 (putBit (d.fld F.MSIX_PBA_pending) v false)).fire v

/-- A receive ring's tail written through the register: the buffer addresses are what host memory holds (R420, R421). -/
def Dev.rxTailWritten (d d0 : Dev) (c : Clock) (r : Nat) : Dev :=
  let n := d.rxSize r
  let tail := d.fld F.HST_RXR_PTR_tail r
  let old := d0.fld F.HST_RXR_PTR_tail r
  let more := (tail % n + n - old % n) % n
  let (d, bufs) := (List.range more).foldl (fun (x : Dev × List Nat) _ =>
    let (b, d) := x.1.draw Config.hostWord
    (d, x.2 ++ [b])) (d, [])
  (d.put F.HST_RXR_PTR_tail r old).rxDoorbell c r tail bufs

/-- The capture counts of R40 restart when valid is cleared. -/
def Dev.captureWritten (d : Dev) (valid count : Fld) (ix : Nat) : Dev := if d.flag valid ix then d else d.put count ix 0

/-- What a trigger of a register starts. -/
def Dev.trigger (d : Dev) (c : Clock) (req : Nat) (f : Fld) (ix : Nat) : Dev :=
  if f == F.GLB_RESET_warm then d.warmReset c false
  else if f == F.GLB_CORE_CTRL_go then d.coreGo c
  else if f == F.BOOT_FW_CTRL_go then d.downloadGo c
  else if f == F.BOOT_SWAP_CTRL_go then d.swapGo c
  else if f == F.BOOT_SWAP_CTRL_revert then d.swapRevert c
  else if f == F.SEC_CMD_go then d.secGo c req
  else if f == F.HST_MODE_CTRL_go then d.modeGo c
  else if f == F.HST_HOST_ALIVE_beat then d.hostBeat c
  else if f == F.TIM_TXQ_CTRL_pop then d.txqPop
  else if f == F.TWN_KINDLE_CTRL_done then d.kindleHostDone c
  else if f == F.TWN_KINDLE_CTRL_merge then d.kindleMerge c
  else if f == F.LANE_CTRL_recal then d.laneRecal c ix
  else if f == F.CLS_GEN_CTRL_commit then d.genCommit c
  else if f == F.CLS_GEN_CTRL_abort then d.genAbort c
  else if f == F.HRT_SPARE_CTRL_retire_go then d.bankRetire c ix
  else if f == F.FLW_HBM_EVAC_start then d.evacStart c ix (d.fld F.FLW_HBM_EVAC_channel ix)
  else if f == F.FLW_QUAR_CTRL_release then d.quarRequest ix (d.fld F.FLW_QUAR_CTRL_record ix)
  else if f == F.ENG_ROLL_CTRL_go then d.rollGo c
  else if f == F.ENG_ROLL_CTRL_abort then d.rollAbort c
  else if f == F.FIF_CTRL_flush then d.fifFlush c ix
  else if f == F.SCH_GATE_CTRL_go then d.gateGo c ix
  else if f == F.SCH_GATE_CTRL_abort then d.gateAbort ix
  else if f == F.PRF_CTRL_snap then d.prfSnap
  else if f == F.PRF_CTRL_clear then d.prfClear
  else if f == F.LBL_SVC_CMD_go then d.rebuildGo c (d.fld F.LBL_SVC_CMD_service)
  else d

/-- What follows a register's new fields, beside its triggers. -/
def Dev.regEffect (d d0 : Dev) (c : Clock) (r : Reg) (ix v : Nat) : Dev :=
  match r with
  | .GLB_LOCK_CAPTURE => d.captureWritten F.GLB_LOCK_CAPTURE_valid F.GLB_LOCK_CAPTURE_count 0
  | .GLB_ECC_CAPTURE =>
    let d := d.captureWritten F.GLB_ECC_CAPTURE_valid F.GLB_ECC_CAPTURE_count 0
    if d0.flag F.GLB_ECC_CAPTURE_valid && !d.flag F.GLB_ECC_CAPTURE_valid then d.smbAlert else d
  | .ENG_MCHK_CAPTURE => d.captureWritten F.ENG_MCHK_CAPTURE_valid F.ENG_MCHK_CAPTURE_count ix
  | .SWP_MCHK_CAPTURE => d.captureWritten F.SWP_MCHK_CAPTURE_valid F.SWP_MCHK_CAPTURE_count ix
  | .BPM_FREE_CAPTURE => d.captureWritten F.BPM_FREE_CAPTURE_valid F.BPM_FREE_CAPTURE_count ix
  | .EVT_RING_CFG => d.evtRingStart ix (d0.evtEnabled ix)
  | .MSIX_DATA => d.msixWritten ix
  | .HST_RXR_CFG => d.fifOffer c
  | .HST_RXR_PTR => d.rxTailWritten d0 c ix
  | .HST_TXR_PTR => d.txDoorbell ix (d.fld F.HST_TXR_PTR_tail ix)
  | .FLW_CMD_PTR => d.ringResume ix
  | .PEL_DIST_PTR => d.distTail c
  | .TIM_RCLK_CFG => d.rclkEval c
  | .TIM_LEDGER_HOST => { d with tim := { d.tim with hostLedger := true } }
  | .PEL_GROUP_CFG => d.groupWritten d0 c ix
  | .LANE_CTRL =>
    if d0.flag F.LANE_CTRL_tx_enable ix && !d.flag F.LANE_CTRL_tx_enable ix then d.emit (.laneSignal ix 2) else d
  | .MAC_PORT_CFG => d.portWritten d0 c ix
  | .PRS_ENGINE_CTRL =>
    let d := (d.put F.PRS_ENGINE_CTRL_retire ix (d0.fld F.PRS_ENGINE_CTRL_retire ix)).put F.PRS_ENGINE_CTRL_retired ix
      (d0.fld F.PRS_ENGINE_CTRL_retired ix)
    (d.parseReturn ix (bitsOf v 16 12)).parseRetire ix (bitsOf v 0 12)
  | .ENG_ENGINE_RETIRED =>
    (d.put F.ENG_ENGINE_RETIRED_retired ix (d0.fld F.ENG_ENGINE_RETIRED_retired ix)).engineReturn ix (bitsOf v 0 48)
  | .CLS_TBL_CMD => d.tblOp c (bitsOf v 28 4)
  | .TCM_SLICE_CFG => d.holesEval c ix
  | .FLW_INSERT_CTRL =>
    let k : Key := ⟨ix, 0, 0⟩
    { d with flw := { d.flw with insTok := d.flw.insTok.setNum k (d0.insertTokens c ix), insAt := d.flw.insAt.setNum k c.phys } }
  | .FLW_CLASS_PUNT =>
    let k : Key := ⟨ix, 0, 0⟩
    let now := refillTo (d0.flw.puntTok.num ix) (d0.flw.puntAt.num ix) c.phys (d0.fld F.FLW_CLASS_PUNT_rate ix)
      (d0.fld F.FLW_CLASS_PUNT_burst ix) 1250000000
    { d with flw := { d.flw with puntTok := d.flw.puntTok.setNum k now, puntAt := d.flw.puntAt.setNum k c.phys } }
  | .SWP_CTRL => d.swpPause c ix (d.fld F.SWP_CTRL_pause ix)
  | .BPM_POOL_CFG => d.poolWritten d0 c ix
  | .BPM_REQ_QUOTA => (d.overcommitEval c (ix / 768)).warnEvalAll c (ix / 768)
  | .BPM_PRIO_CFG => d.warnEvalAll c (ix / 128)
  | .FIF_CFG => d.fifoWritten d0 c r ix
  | .FIF_PROD => d.fifoWritten d0 c r ix
  | .SCH_GATE_CTRL =>
    if d0.flag F.SCH_GATE_CTRL_enable ix && !d.flag F.SCH_GATE_CTRL_enable ix then d.gateDisable ix else d
  | .TEL_EXP_CFG2 =>
    if !d0.flag F.TEL_EXP_CFG2_enable ix && d.flag F.TEL_EXP_CFG2_enable ix then d.templateSend c ix else d
  | .PWR_THERM_CFG => d
  | .PRS_HOLD | .CLS_HOLD | .FLW_HOLD | .ENG_HOLD | .BPM_HOLD | .SCH_HOLD | .NAT_HOLD | .LBL_HOLD | .TEL_HOLD | .TWN_HOLD =>
    let d := d.put ⟨r, 0, 0⟩ ix (d0.fld ⟨r, 0, 0⟩ ix)
    if bitOf v 0 then d.holdRequest c r ix else d.holdRelease c r ix
  | _ => d

/-- A write of a slow register waits in its shadow until the second CLK_SLOW edge (R46). CLK_SLOW has 40 edges of
CLK_TIME to its period. -/
def Dev.slowWritten (d : Dev) (c : Clock) (r : Reg) (ix : Nat) : Dev :=
  if !r.slow then d
  else
    let e : Key × Word × Nat := (⟨r.num, ix, 0⟩, d.reg r ix, (c.phys / 40 + 2) * 40)
    { d with acc := { d.acc with slowQueue := d.acc.slowQueue ++ [e] } }

/-- Shadows whose CLK_SLOW edge has come reach their logic. -/
def Dev.slowDue (d : Dev) (c : Clock) : Dev :=
  let due := d.acc.slowQueue.filter (fun e => e.2.2 ≤ c.phys)
  let live := due.foldl (fun (t : Tbl Word) e => t.put e.1 e.2.1) d.acc.slowLive
  { d with acc := { d.acc with slowLive := live, slowQueue := d.acc.slowQueue.filter (fun e => !(e.2.2 ≤ c.phys)) } }

/-- A register written at one edge (R38, R47): its fields, then what the write starts. `high`: a 32-bit write of the
high half with no held low half, so that the low half stays as it is. -/
def Dev.writeReg (d : Dev) (c : Clock) (req : Nat) (r : Reg) (ix v : Nat) (high : Bool := false) : Dev :=
  let free := d.drained r ix
  let fields := if high then r.fields.filter (fun fi => 32 < fi.fld.lo + fi.fld.bits) else r.fields
  let d' := fields.foldl (fun (d : Dev) fi => d.writeField c req fi ix v free) d
  let d' := (d'.regEffect d c r ix v).slowWritten c r ix
  if conflicting r v then d'.triggerConflict c r
  else (triggers r v).foldl (fun (d : Dev) f => d.trigger c req f ix) d'

/-! ### Writes of table windows -/

/-- Whether a control store or dispatch table may be written: its unit is out of service or on standby (08). -/
def Dev.storeDrained (d : Dev) (t : TableId) (inst : Nat) : Bool :=
  match t with
  | .SWP_CSTORE => d.swpState (inst / 32) (inst % 32) == 3
  | .ENG_CSTORE | .ENG_DISPATCH =>
    if isSpare inst then
      let st := d.spareState (instDie inst) (inst % 8 - 6)
      st == 0 || st == 2 || st == 4
    else
      let st := d.fld F.ENG_CLUSTER_STATUS_state (6 * instPipe inst + inst % 8)
      st == 2 || st == 5
  | _ => true

/-- Whether a leaf under a node holds a frame (R332). -/
def Dev.nodeHolds (d : Dev) (die level n : Nat) : Bool :=
  d.sch.leaf.cells.any (fun x => x.1.a == die && !x.2.isEmpty &&
    (let p := d.leafPath die x.1.b
     match level with
     | 0 => x.1.b == n
     | 1 => p.1 == n
     | _ => p.2.1 == n))

/-- Configuration bits of word 2 of a node, and those that may change only while no leaf below holds a frame. -/
def word2Masks : Nat → Nat × Nat
  | 0 => (0xFFF, 0x700)
  | 1 => (0x7FF, 0x3FF)
  | 2 => (0x1FF, 0x0FF)
  | _ => (0, 0)

/-- A word of a scheduling node written (R332, R342). -/
def Dev.nodeWrite (d : Dev) (c : Clock) (req addr : Nat) (t : TableId) (level die n word v : Nat) : Dev :=
  if word == 3 then d
  else if word == 2 then
    let (keep, fixed) := word2Masks level
    let old := d.tw t die n 2
    if (old &&& fixed) != (v &&& fixed) && d.nodeHolds die level n then
      (d.setTw t die n 2 ((v &&& keep) - (v &&& fixed) + (old &&& fixed))).notDrained c req addr
    else d.setTw t die n 2 (v &&& keep)
  else (d.setTw t die n word v).settle d c die level n

/-- A word of a table entry written through its window. -/
def Dev.windowWrite (d : Dev) (c : Clock) (req addr : Nat) (t : TableId) (inst entry word v : Nat) : Dev :=
  if windowBanked t then
    if d.stageOpen then d.setTw t d.stagedSlot entry word v else d.raise c .CLS_STAGE_CLOSED 0 0
  else match nodeLevel t with
    | some l => d.nodeWrite c req addr t l inst entry word v
    | Option.none =>
      match t with
      | .ENG_CSTORE | .ENG_DISPATCH | .SWP_CSTORE =>
        if v == d.tw t inst entry word then d
        else if !d.storeDrained t inst then d.notDrained c req addr
        else if t == .ENG_DISPATCH then d.setTw t inst entry word v
        else (d.setTw t inst entry word v).setTw t inst entry 3 1
      | .SCH_GATE_TBL =>
        if d.flag F.SCH_GATE_STATUS_pending inst && v != d.tw t inst entry word then d.notDrained c req addr
        else (d.setTw t inst entry word v).gateRefresh c inst
      | .SCH_POL_TBL =>
        if 2 ≤ word then d else (d.setTw t inst entry word v).setPol inst entry (d.polBuckets c inst entry)
      | .FLW_ZONE_TBL | .NAT_ADDR_TBL | .LBL_SLOT_TBL | .LBL_SMAC_TBL | .TEL_ACT_CNT | .TEL_HIST | .PRF_SAMPLE_TBL
      | .SCH_LEAF_PROFILE | .SCH_ECN_PROFILE | .SCH_POL_CNT | .SCH_LEAF_CNT | .TIM_PTP_DS | .PEL_DIGEST_SEL =>
        d.setTw t inst entry word v
      | _ => d

/-! ### Writes -/

/-- A whole register written: a write of a LO register is held until the same requester writes its HI register (R383),
and ends the requester's capture. -/
def Dev.writePair (d : Dev) (c : Clock) (req : Nat) (r : Reg) (ix v : Nat) (high : Bool := false) : Dev :=
  match hiOf r, loOf r with
  | some hi, _ =>
    let d := d.dropPair req hi
    { d with acc := { d.acc with halfWrite := d.acc.halfWrite.put (pairKey req r) v } }
  | none, some lo =>
    let d := d.dropPair req r
    (match d.acc.halfWrite.find? (pairKey req lo) with
    | some held =>
      let d := { d with acc := { d.acc with halfWrite := d.acc.halfWrite.erase (pairKey req lo) } }
      (d.writeReg c req lo 0 held).writeReg c req r ix v high
    | none => d.writeReg c req r ix v high)
  | none, none => d.writeReg c req r ix v high

/-- A word of SEC_BLOB's bytes written; ignored while a command runs. -/
def Dev.blobWrite (d : Dev) (off v : Nat) : Dev :=
  if d.flag F.SEC_CMD_STATUS_busy then d
  else d.setTw .SEC_BLOB 0 0 (off / 8) (putBits (d.tw .SEC_BLOB 0 0 (off / 8)) (32 * (off / 4 % 2)) 32 v)

/-- One 32-bit write (R37, R38): the low half of a 64-bit register is held for the high half. -/
def Dev.write32 (d : Dev) (c : Clock) (req addr v : Nat) : Dev :=
  match placeOf addr with
  | .sdt => d.raise c .SDT_WRITE 0 0 [(27, addr)]
  | .blob off => d.blobWrite off v
  | .window t inst entry word half =>
    d.windowWrite c req addr t inst entry word (putBits (d.windowRead c t inst entry word) (32 * half) 32 v)
  | .none => d
  | .reg r ix half =>
    let d := d.dropCapture req r ix
    let k := halfKey req r ix
    if r.width == 32 then d.writeReg c req r ix (v % 2 ^ 32)
    else if half == 0 then { d with acc := { d.acc with halfWrite := d.acc.halfWrite.put k (v % 2 ^ 32) } }
    else
      let held := d.acc.halfWrite.find? k
      let low := held.getD ((d.reg r ix).toNat % 2 ^ 32)
      let d := { d with acc := { d.acc with halfWrite := d.acc.halfWrite.erase k } }
      d.writePair c req r ix (low + v % 2 ^ 32 * 2 ^ 32) held.isNone

/-- A write by a requester, but for what it does to the local clock. -/
def Dev.write (d : Dev) (c : Clock) (req addr size v : Nat) : Dev :=
  if !accessOk addr size then d.badAccess c req
  else if size == 4 then d.write32 c req addr v
  else match placeOf addr with
    | .reg r ix 0 =>
      if r.width == 64 then
        let d := d.dropCapture req r ix
        let d := { d with acc := { d.acc with halfWrite := d.acc.halfWrite.erase (halfKey req r ix) } }
        d.writePair c req r ix (v % 2 ^ 64)
      else (d.write32 c req addr (v % 2 ^ 32)).write32 c req (addr + 4) (v / 2 ^ 32 % 2 ^ 32)
    | .window t inst entry word _ => d.windowWrite c req addr t inst entry word (v % 2 ^ 64)
    | _ => (d.write32 c req addr (v % 2 ^ 32)).write32 c req (addr + 4) (v / 2 ^ 32 % 2 ^ 32)

/-- Offset of TIM_ADJ_CTRL. -/
def adjCtrl : Nat := Reg.TIM_ADJ_CTRL.base

/-- A write by a requester (R47). A trigger of TIM_ADJ_CTRL also acts on the local clock (R370). -/
def writeState (s : State) (req addr size v : Nat) : State :=
  let s := { s with dev := s.dev.write s.clk req addr size v }
  let t := v % 16
  if !accessOk addr size || addr != adjCtrl || conflicting .TIM_ADJ_CTRL t then s
  else if bitOf t 0 then stepClock s
  else if bitOf t 1 then setClock s
  else if bitOf t 2 then slewStart s
  else if bitOf t 3 then slewStop s
  else s

/-- A write of BAR2 (R30). -/
def Dev.bar2Write (d : Dev) (c : Clock) : Dev := d.raise c .HST_BAR2_WRITE 0 0

/-! ### The sideband and JTAG (R456, R457, R502) -/

/-- Whether an offset is a register of PWR or CLK. -/
def sbWritable (addr : Nat) : Bool := 0x10600 ≤ addr && addr < 0x10C00

/-- Sideband READ: one 64-bit read as requester 11. -/
def Dev.sbRead (d : Dev) (c : Clock) (addr : Nat) : Dev := d.readOut c 11 addr 8

/-- Sideband WRITE: PWR and CLK registers only; another offset is ignored and recorded with type 2. -/
def Dev.sbWrite (d : Dev) (c : Clock) (addr v : Nat) : Dev :=
  if sbWritable addr then d.write c 11 addr 8 v else d.lockViolation c 2 11 addr

/-- Offsets SECACC reaches (R456). -/
def secReach (addr : Nat) : Bool :=
  (addr == 0x30000 || addr == 0x30100 || addr == 0x30108 || (0x30010 ≤ addr && addr < 0x30030)) ||
    (addr / 4 == 0x30004 / 4) || (0x31000 ≤ addr && addr < 0x32000)

/-- SECACC: one access to SEC_CMD, SEC_CMD_STATUS, SEC_CHAL, SEC_STATUS or SEC_BLOB as requester 10 (R456). -/
def Dev.secAcc (d : Dev) (c : Clock) (write : Bool) (addr size v : Nat) : Dev :=
  if !secReach addr then (if write then d else d.emit (.readData 10 0))
  else if write then d.write c 10 addr size v
  else d.readOut c 10 addr size

/-- REGACC: one access to BAR0 as requester 10 while scope bit 3 is open; otherwise it reads zero and is ignored and
captured (R457). -/
def regAcc (s : State) (write : Bool) (addr size v : Nat) : State :=
  let d := s.dev
  if bitOf (d.fld F.SEC_STATUS_scope) 3 then
    if write then writeState s 10 addr size v else { s with dev := d.readOut s.clk 10 addr size }
  else
    let d := d.lockCapture 2 10 addr
    { s with dev := if write then d else d.emit (.readData 10 0) }

end Sys2Proof.Machine
end

