-- ==== Sys2Proof/Machine/Apply.lean ====
section
/-! DEFINITION. The configuration image applied in phase 3 (R65, R68, R89). -/
namespace Sys2Proof.Machine

/-- A register write of the boot ROM, under R47 as the security core. -/
def bootWrite (s : State) (w : Nat × Nat × Nat) : State := writeState s 9 w.1 w.2.1 w.2.2

/-- Register initialisation entries of 16 bytes, in list order (R65). -/
def initWrites : List Byte → Nat → List (Nat × Nat × Nat)
  | _, 0 => []
  | bs, n + 1 => (leAt bs 0 4, leAt bs 4 1, leAt bs 8 (leAt bs 4 1)) :: initWrites (bs.drop 16) n

/-- Generation 0 entries: table, entry index and content, padded to 8 bytes (R65). -/
def genEntries : List Byte → Nat → List (Nat × Nat × List Byte)
  | _, 0 => []
  | bs, n + 1 =>
    if bs.length < 12 then []
    else
      let len := leAt bs 8 4
      (leAt bs 0 4, leAt bs 4 4, (bs.drop 12).take len) :: genEntries (bs.drop (12 + (len + 7) / 8 * 8)) n

/-- The registers of CLS_TBL_*, which the boot ROM does not use. -/
def tblRegs : List (Reg × Nat) :=
  (.CLS_TBL_CMD, 0) :: (.CLS_TBL_STATUS, 0) :: (.CLS_TBL_SLICES, 0) :: (List.range 32).map (fun i => (Reg.CLS_TBL_DATA, i))

/-- An entry staged by a table operation, the operation's registers as before. -/
def Dev.stageBy (d : Dev) (content : List Byte) (slices : Nat) (f : Dev → Dev) : Dev :=
  let d' := f ((d.put F.CLS_TBL_SLICES_slices 0 slices).setTblData content)
  tblRegs.foldl (fun (e : Dev) r => e.setReg r.1 r.2 (d.reg r.1 r.2)) d'

/-- One generation 0 entry (R65, R68). A TCAM index counts slice by slice; other tables take instance 0 of the entry. -/
def Dev.stageEntry (d : Dev) (c : Clock) (e : Nat × Nat × List Byte) : Dev :=
  match TableId.all.find? (fun t => (Config.sdtIndexOf t.num).toNat == e.1) with
  | none => d
  | some .TCAM =>
    d.stageBy e.2.2 (2 ^ (e.2.1 / tcamSize % 32)) (fun d => d.tcamWriteAt c (e.2.1 % tcamSize))
  | some t =>
    if t == .CLS_RULE_TBL || versioned t then d.stageBy e.2.2 0 (fun d => d.tblAdd c t e.2.1)
    else
      (List.range ((e.2.2.length + 7) / 8)).foldl (fun (d : Dev) w => d.setTw t 0 e.2.1 w (leAt e.2.2 (8 * w) 8)) d

/-- The port map: its ports exist, with their lanes (R65, R95). -/
def Dev.applyPorts (d : Dev) (body : List Byte) : Dev :=
  let ports := Config.portMap body
  let d := { d with net := { d.net with configured := ports.map Prod.fst } }
  ports.foldl (fun (d : Dev) p =>
    (d.put F.MAC_PORT_CFG_lanes p.1 (p.2.length.log2)).putB F.MAC_PORT_CFG_enable p.1 true) d

/-- The peer lane groups of a position (R65). -/
def Dev.applyPeals (d : Dev) (body : List Byte) : Dev :=
  (Config.pealMap body).foldl (fun (d : Dev) m =>
    ((d.putB F.PEL_GROUP_CFG_peal_en m.2 true).putB F.PEL_GROUP_CFG_cable m.2 (m.1 == 4)).put
      F.PEL_GROUP_CFG_peer_pos m.2 (m.1 % 4)) d

/-- The twin role: its links and its place (R65, R386). -/
def Dev.applyTwin (d : Dev) (body : List Byte) : Dev :=
  let d := d.put F.TWN_STATUS_role 0 (Config.twinRole body).val
  let d := { d with twn := { d.twn with emberLinks := Config.emberGroups body, twinPos := Config.twinPlace body } }
  if d.isTwin then d.emberStatus else d

/-- Trust anchors of 64 bytes each. -/
def anchorsOf : List Byte → Nat → List (List Byte)
  | _, 0 => []
  | bs, n + 1 => if bs.length < 64 then [] else bs.take 64 :: anchorsOf (bs.drop 64) n

/-- One section of the image (R65). -/
def applySection (s : State) (x : Nat × List Byte) : State :=
  let onD := fun (f : Dev → Dev) => { s with dev := f s.dev }
  let writes := fun (s : State) => (Config.sectionWrites x.1 x.2).foldl bootWrite s
  match x.1 with
  | 1 => writes s
  | 2 => writes (onD (fun d => d.applyPorts x.2))
  | 3 => writes (onD (fun d => d.applyPeals x.2))
  | 4 => writes (onD (fun d => d.applyTwin x.2))
  | 5 => onD (fun d => { d with boot := { d.boot with anchors := anchorsOf x.2 4 } })
  | 6 => bootWrite (bootWrite s (Reg.GLB_DIGEST_KEY.base, 8, leAt x.2 0 8)) (Reg.GLB_DIGEST_KEY.base + 8, 8, leAt x.2 8 8)
  | 7 => (initWrites x.2 (x.2.length / 16)).foldl bootWrite s
  | 8 => onD (fun d => (genEntries x.2 (x.2.length / 12)).foldl (fun (d : Dev) e => d.stageEntry s.clk e) d)
  | _ => s

/-- Phase 3 ends: every own section applied in order; the image is kept, and the firmware window opens (R68, R74, R89,
R447). -/
def imageApplied (s : State) : State :=
  if s.dev.phase != 3 then s
  else
    let image := s.dev.boot.image
    let s := (ownSections image s.dev.boardPos).foldl applySection s
    let d := s.dev
    let d := d.setReg .BOOT_IMAGE_SERIAL 0 (BitVec.ofNat 64 (leAt image 24 8))
    let hash := sha512 image
    let d := (d.setMeas 1 hash).enterPhase s.clk 4
    let d := { d with
      twn := { d.twn with members := (List.range 4).filter (bitOf d.boot.members) }
      boot := { d.boot with retained := image, retainedHash := hash, image := [], windowAt := some s.clk.phys, expired := false } }
    { s with dev := d.startTraining }

end Sys2Proof.Machine
end

