-- ==== Sys2Proof/Machine/DistTarget.lean ====
section
/-! DEFINITION. Distribution commands on their target (R413). -/
namespace Sys2Proof.Machine

/-- Whether this device takes distribution commands of a position. -/
def Dev.distAccepts (d : Dev) (q : Nat) : Bool := bitOf (d.fld F.PEL_DIST_CFG_accept) q

/-- The result of a command goes back on the link it came on. -/
def Dev.distAnswer (d : Dev) (c : Clock) (g tag : Nat) (refused : Bool) : Dev :=
  d.pealSend c g ⟨5, d.distHeader 1 (d.linkPeer g) tag, leBytes 8 (bit refused), 0⟩

/-- A command is refused: evented on the target and answered. -/
def Dev.distRefuse (d : Dev) (c : Clock) (g tag : Nat) : Dev := (d.raise c .PEL_DIST_REFUSED 0 0).distAnswer c g tag true

/-- Whether R37, R48 or R56 turns a write of requester 12 away: it is not served, or it would record a violation. -/
def Dev.writeRefused (d : Dev) (c : Clock) (size offset value : Nat) : Bool :=
  !accessOk offset size ||
    ((d.put F.GLB_LOCK_CAPTURE_valid 0 0).write c 12 offset size value).flag F.GLB_LOCK_CAPTURE_valid

/-- A write executes as requester 12 and is answered. -/
def distWriteNow (s : State) (g tag size offset value : Nat) : State :=
  let no := s.dev.writeRefused s.clk size offset value
  let s := writeState s 12 offset size value
  { s with dev := if no then s.dev.distRefuse s.clk g tag else s.dev.distAnswer s.clk g tag false }

/-- WRITE32 and WRITE64 received on link `g`. -/
def distWrite (s : State) (g tag size offset value : Nat) : State :=
  let s := { s with dev := s.dev.takeInbox g 5 }
  if s.dev.distAccepts (s.dev.linkPeer g) then distWriteNow s g tag size offset value
  else { s with dev := s.dev.distRefuse s.clk g tag }

/-- WRITE64_AT received: it is held until its time. -/
def Dev.distWriteAt (d : Dev) (c : Clock) (g tag offset value : Nat) (at_ : Stamp) : Dev :=
  let d := d.takeInbox g 5
  let q := d.linkPeer g
  if !d.distAccepts q then d.distRefuse c g tag
  else { d with dist := { d.dist with held := d.dist.held ++ [⟨g, tag, q, offset, value, at_.units * 2 ^ 32⟩] } }

/-- The oldest held write whose time has come executes. -/
def distExecute (s : State) : State :=
  match s.dev.dist.held.find? (fun h => h.due ≤ s.clk.units) with
  | none => s
  | some h =>
    let d := s.dev
    distWriteNow { s with dev := { d with dist := { d.dist with held := d.dist.held.erase h } } } h.link h.tag 8 h.offset h.value

/-- DIGEST_LIST received: the digests of this device's components go back (R104, R413). -/
def Dev.distDigests (d : Dev) (c : Clock) (g tag : Nat) : Dev :=
  let d := d.takeInbox g 5
  if !d.distAccepts (d.linkPeer g) then d.distRefuse c g tag
  else
    let parts := d.digestParts
    let body := leBytes 8 parts.length ++ parts.flatMap (fun p => leBytes 4 p.1 ++ leBytes 4 p.2.1 ++ leBytes 8 p.2.2)
    d.pealSend c g ⟨5, d.distHeader 2 (d.linkPeer g) tag, body, 0⟩

end Sys2Proof.Machine
end

