-- ==== Sys2Proof/Machine/Effects.lean ====
section
/-! DEFINITION. The forms of a command's effect. Every command answers a next state. -/
namespace Sys2Proof.Machine

/-- What a command does to a state. -/
abbrev Effect := State → Host.Outcome State Fault Refusal

/-- An effect on the whole state. -/
def onState (f : State → State) : Effect := fun s => .next (f s)

/-- An effect on the device at the present clock. -/
def onDev (f : Clock → Dev → Dev) : Effect := onState fun s => { s with dev := f s.clk s.dev }

/-- Whether the forwarding dies, their lanes and their pins work: not stopped by a trip (R494), not taken by a boundary
instruction (R456). -/
def Dev.forwards (d : Dev) : Bool := !d.pwr.stopped && !d.sec.pinsOut

/-- An effect of the forwarding dies and lanes, which have none while they are stopped. -/
def onFwd (f : Clock → Dev → Dev) : Effect := onDev fun c d => if d.forwards then f c d else d

/-- An effect that may change links: the Ember streams follow them (R399). -/
def onLink (f : Clock → Dev → Dev) : Effect := onFwd fun c d => (f c d).emberReroute d c

/-- An effect of firmware, which has none while no control core serves (R472). -/
def onCores (f : Clock → Dev → Dev) : Effect := onFwd fun c d => if d.coresUp then f c d else d

/-- The Ember streams follow links that a write changed. -/
def relink (s t : State) : State := { t with dev := t.dev.emberReroute s.dev t.clk }

/-- The HOLD register of a block. -/
def holdReg (n : Fin 10) : Reg := holdRegs.getD n .PRS_HOLD

end Sys2Proof.Machine
end

