-- ==== Sys2Proof/Machine/CmdBoot.lean ====
section
/-! DEFINITION. The commands' meanings: Bring-up, resets and downloads (R61–R91, R437). -/
namespace Sys2Proof.Machine

/-- PWRGD_RISE (R61): A rising PWRGD is a cold reset: the straps are sampled and the device starts at phase 0. -/
def execPwrgdRise (boardPos : Fin 4) (bootSrc : Bool) : Effect :=
  onState fun s => coldReset s boardPos bootSrc

/-- SYS_RST_RELEASE (R61): Release of SYS_RST_N is a cold reset: the straps are sampled and the device restarts at
phase 0. -/
def execSysRstRelease (boardPos : Fin 4) (bootSrc : Bool) : Effect :=
  onState fun s => coldReset s boardPos bootSrc

/-- PWRGD_FALL (R493): A falling PWRGD starts an emergency trip with cause 6. -/
def execPwrgdFall : Effect :=
  onDev fun c d => d.trip c 6 0 0

/-- WARM_RESET (R89): A write of 1 to GLB_RESET.warm re-hashes the retained image and enters phase 3 on a match or
phase 8 on a mismatch. -/
def execWarmReset (damaged : Bool) : Effect :=
  onDev fun c d => d.warmReset c damaged

/-- PCIE_RESET (R88): PERST_N, a PCIe hot reset or a function-level reset resets the HST block, its rings and MSI-X
while forwarding continues. -/
def execPcieReset (flr : Bool) : Effect :=
  onDev fun c d => d.pcieReset c flr

/-- PCIE_LINK_DOWN (R79): A drop of the PCIe link abandons any fetch in progress and starts host-absence timing. -/
def execPcieLinkDown : Effect :=
  onDev fun c d => d.pcieDown c

/-- FUSE_CHECK_DONE (R437): The boot ROM finishes checking every fuse field, and the device goes on to phase 1 or
halts in phase 9. -/
def execFuseCheckDone (sound : Bool) (badCfg : BitVec 8) (badDbg : BitVec 2) : Effect :=
  onDev fun c d => d.fuseChecked c sound badCfg.toNat badDbg.toNat

/-- SDT_PUBLISH (R32): The boot ROM publishes the SDT, which starts HBM training, the NVM read and boot-link training.
-/
def execSdtPublish : Effect :=
  onDev fun c d => d.sdtPublish c

/-- NVM_READ_DONE (R69): The single NVM burst has delivered image_length bytes, which are hashed and staged in the
packet buffer. -/
def execNvmReadDone (answered : Bool) (image : List Byte) : Effect :=
  onDev fun c d => d.nvmRead c answered image

/-- IMAGE_VERIFY_DONE (R67): The configuration-image checks finish in order, and the image is accepted or rejected
with its error code. -/
def execImageVerifyDone : Effect :=
  onDev fun c d => d.imageVerified c

/-- IMAGE_APPLY_DONE (R68): Phase 3 finishes applying every section, the firmware window opens, its timer starts and
lane training begins. -/
def execImageApplyDone : Effect :=
  onState fun s => imageApplied s

/-- RELAY_TIMEOUT (R70): A member that has received no complete image 2,000 ms after SDT publication enters recovery.
-/
def execRelayTimeout : Effect :=
  onDev fun c d => d.relayTimeout c

/-- BOOT_LINK_UP (R71): A boot link finishes training in Peal boot mode. -/
def execBootLinkUp (g : Fin 64) : Effect :=
  onDev fun c d => d.bootLinkUp c g

/-- BOOT_IMAGE_MESSAGE (R104): A channel 6 message delivers image bytes at its offset, and an offset of 0 restarts the
copy. -/
def execBootImageMessage (g : Fin 64) (kind : Fin 2) (offset : BitVec 25) (body : List Byte) : Effect :=
  onDev fun c d => d.bootImageMessage c g kind offset.toNat body

/-- HBM_TRAINING_DONE (R73): HBM training ends, and any channel that failed training is retired to the reserve. -/
def execHbmTrainingDone (failed : List (Fin 2 × Fin 32)) : Effect :=
  onDev fun _ d => d.hbmTrained (failed.map (fun x => (x.1.val, x.2.val)))

/-- LANE_TRAINING_DONE (R74): A lane finishes training, and its port sends Remote Fault until generation 0 is live. -/
def execLaneTrainingDone (lane : Fin 512) (trained : Bool) : Effect :=
  onLink fun c d => d.laneTrained c lane trained

/-- FW_DOWNLOAD_GO (R77): BOOT_FW_CTRL.go with kind 0 starts the DMA fetch of a firmware image from its extent list.
-/
def execFwDownloadGo (extents : BitVec 11) : Effect :=
  onDev fun c d => ((d.put F.BOOT_FW_CTRL_kind 0 0).put F.BOOT_FW_CTRL_extents 0 extents.toNat).downloadGo c

/-- CFG_DOWNLOAD_GO (R70): BOOT_FW_CTRL.go with kind 1 in phase 8 starts the fetch of a recovery configuration image.
-/
def execCfgDownloadGo (extents : BitVec 11) : Effect :=
  onDev fun c d => ((d.put F.BOOT_FW_CTRL_kind 0 1).put F.BOOT_FW_CTRL_extents 0 extents.toNat).downloadGo c

/-- FW_FETCH_DONE (R77): The firmware fetch and verification complete, and the device enters phase 6 on success or
returns to phase 4 on failure. -/
def execFwFetchDone (relayed : Bool) (image : List Byte) : Effect :=
  onDev fun c d => d.fwFetched c relayed image

/-- CFG_FETCH_DONE (R70): A recovery configuration image is fetched and checked under R67, and on success the device
enters phase 3. -/
def execCfgFetchDone (image : List Byte) : Effect :=
  onDev fun c d => d.cfgFetched c image

/-- FW_WINDOW_TIMEOUT (R78): The 60 s firmware window expires, which sets hold_lanes and idles every lane. -/
def execFwWindowTimeout : Effect :=
  onLink fun c d => d.windowTimeout c

/-- GENERATION_0_LIVE (R83): The end of phase 6 commits generation 0, opens intake and enters phase 7. -/
def execGeneration0Live : Effect :=
  onDev fun c d => d.generation0 c

/-- FORMATION_TIMER (R84): The 400 ms formation timer expires, and the device forms its view of the Peal group. -/
def execFormationTimer : Effect :=
  onDev fun c d => d.formationTimer c

/-- HOST_ABSENT (R90): Link-down or heartbeat timeout marks the host absent and moves functions whose stay bit is 0 to
hardware mode. -/
def execHostAbsent : Effect :=
  onDev fun c d => d.hostAbsent c

/-- HOST_ALIVE_BEAT (R91): A write to HST_HOST_ALIVE.beat restarts the absence timer. -/
def execHostAliveBeat : Effect :=
  onDev fun c d => d.hostBeat c

end Sys2Proof.Machine
end

