-- ==== Sys2Proof/Machine/CmdBuf.lean ====
section
/-! DEFINITION. The commands' meanings: Packet buffer, FIFOs, scheduling and gates (R314–R359). -/
namespace Sys2Proof.Machine

/-- SEGMENT_REQUEST (R314): A requester asks for a segment, which is granted or refused with QUOTA or EMPTY. -/
def execSegmentRequest (die : Fin 2) (requester : Fin 256) (pool : Fin 3) : Effect :=
  onFwd fun c d => d.segAsk c die requester pool

/-- SEGMENT_RETRY (R315): A loser below its minimum retries its request, and the refusal becomes final after 64
retries. -/
def execSegmentRetry (n : Nat) : Effect :=
  onFwd fun c d => d.segRetry c n

/-- SEGMENT_FREE (R320): A free decrements a reference and returns the segment, or is ignored as double or foreign. -/
def execSegmentFree (handle : BitVec 24) (requester : Fin 256) : Effect :=
  onFwd fun c d => d.segFree c handle.toNat requester

/-- FIFO_WRITE (R325): A producer writes a word into a FIFO, which completes an item at its end bit or declared
length. -/
def execFifoWrite (fifo : Fin 1024) (slot : Fin 4) (data : Word) (endBit : Bool) (len : BitVec 16) : Effect :=
  onFwd fun c d => d.fifWrite c fifo slot data endBit len.toNat

/-- FIFO_READ (R327): The consumer reads a word, and its credit returns to the producer. -/
def execFifoRead (fifo : Fin 1024) (parity : Fin 3) : Effect :=
  onFwd fun c d => d.fifoConsume c fifo parity

/-- FIFO_IDLE_TIMEOUT (R328): A whole item unread for the idle time wakes the consumer. -/
def execFifoIdleTimeout (fifo : Fin 1024) : Effect :=
  onFwd fun c d => d.fifIdle c fifo

/-- FIFO_FLUSH (R330): FIF_CTRL.flush discards every item and sets flush_busy. -/
def execFifoFlush (fifo : Fin 1024) : Effect :=
  onFwd fun c d => d.fifFlush c fifo

/-- FLUSH_DONE (R330): The flushed tail has ended and every credit has returned, so flush_busy clears. -/
def execFlushDone (fifo : Fin 1024) : Effect :=
  onFwd fun c d => d.fifFlushDone c fifo

/-- PRODUCER_STALL (R331): A producer silent mid-item for 1 µs has its partial item discarded. -/
def execProducerStall (fifo : Fin 1024) : Effect :=
  onFwd fun c d => d.fifStall c fifo

/-- DEQUEUE (R337): The scheduler picks the next frame of a port and charges its shapers. -/
def execDequeue (port lane : Fin 512) (ahead : BitVec 24) (var : BitVec 24) (rd : BufRead) : Effect :=
  onFwd fun c d => d.dequeue c port lane ahead.toNat var.toInt rd

/-- EGRESS_CAPTURE (R359): A frame's timestamp point crosses the egress plane and takes its egress stamp. -/
def execEgressCapture (port : Fin 512) : Effect :=
  onFwd fun c d => d.egressCapture c port

/-- GATE_GO (R352): SCH_GATE_CTRL.go makes the written bank pending with change instant T. -/
def execGateGo (port : Fin 512) : Effect :=
  onFwd fun c d => d.gateGo c port

/-- GATE_ABORT (R352): SCH_GATE_CTRL.abort cancels the pending gate list. -/
def execGateAbort (port : Fin 512) : Effect :=
  onFwd fun _ d => d.gateAbort port

/-- GATE_DISABLE (R352): A write of enable = 0 cancels the pending list, ends the operating list and opens every gate.
-/
def execGateDisable (port : Fin 512) : Effect :=
  onFwd fun _ d => (d.putB F.SCH_GATE_CTRL_enable port false).gateDisable port

/-- GATE_BOUNDARY (R351): Local time reaches an entry boundary, and the next gate entry takes effect. -/
def execGateBoundary (port : Fin 512) : Effect :=
  onFwd fun c d => d.gateRefresh c port

/-- GATE_TAKEOVER (R352): At T the gate banks swap, pending clears and EV_SCH_GATE_TAKEOVER is raised. -/
def execGateTakeover (port : Fin 512) : Effect :=
  onFwd fun c d => d.gateTakeover c port

end Sys2Proof.Machine
end

