-- ==== Sys2Proof/Machine/CmdClass.lean ====
section
/-! DEFINITION. The commands' meanings: Classification, tables and generations (R141–R172, R511–R514). -/
namespace Sys2Proof.Machine

/-- CLASSIFY (R141): A classification pass runs profile, lookups, range comparators, TCAM search and resolution in the
packet's generation. -/
def execClassify (pipe : Fin 32) (wrong lost again : List (Fin 16384)) (ue : Option (BitVec 32 × Bool)) : Effect :=
  onFwd fun c d => d.classifyWith c pipe (wrong.map Fin.val) (lost.map Fin.val) (again.map Fin.val) ue

/-- TCAM_SHADOW_CHECK (R158): Every 128 ns a slice compares one entry with its shadow and repairs any difference. -/
def execTcamShadowCheck (pipe : Fin 32) (index : Fin 16384) (differs : Bool) : Effect :=
  onFwd fun c d => d.shadowCheck c pipe index differs

/-- THROTTLE_CHANGE (R159): A die temperature reading moves a TCAM slice between throttle states. -/
def execThrottleChange (pipe : Fin 32) : Effect :=
  onFwd fun c d => d.throttle c pipe (d.dieDegrees (pipe.val / 16))

/-- TBL_ADD (R511): CLS_TBL_CMD op ADD stages an entry into the named table. -/
def execTblAdd (table : TableId) (index : BitVec 32) : Effect :=
  onFwd fun c d => d.tblAdd c table index.toNat

/-- TBL_DELETE (R511): CLS_TBL_CMD op DELETE stages a death for, or frees, the named entry. -/
def execTblDelete (table : TableId) (index : BitVec 32) : Effect :=
  onFwd fun c d => d.tblDelete c table index.toNat

/-- TBL_WRITE_AT (R511): CLS_TBL_CMD op WRITE_AT writes a TCAM entry at an index, or a load-balancer table entry at
once. -/
def execTblWriteAt (table : TableId) (index : BitVec 32) : Effect :=
  onFwd fun c d => d.tblWriteAt c table index.toNat

/-- TBL_MOVE (R153): CLS_TBL_CMD op MOVE copies a TCAM entry to a free index and invalidates the old one. -/
def execTblMove (table : TableId) (index : BitVec 32) : Effect :=
  onFwd fun _ d => d.tblMove table index.toNat

/-- TBL_READ (R511): CLS_TBL_CMD op READ returns an entry into CLS_TBL_DATA. -/
def execTblRead (table : TableId) (index : BitVec 32) : Effect :=
  onFwd fun _ d => d.tblRead table index.toNat

/-- TBL_LOCATE (R511): CLS_TBL_CMD op LOCATE returns the lowest TCAM index that holds a rule ID. -/
def execTblLocate (table : TableId) (index : BitVec 32) : Effect :=
  onFwd fun _ d => d.tblLocate table index.toNat

/-- TCAM_HOLE_RESTORE (R514): Background restoration makes a free index in the first window of N indices that has
none. -/
def execTcamHoleRestore (pipe : Fin 32) : Effect :=
  onFwd fun c d => d.holeRestore c pipe

/-- GEN_COMMIT (R168): A write of 1 to CLS_GEN_CTRL.commit makes the staged generation live at one edge, or holds the
commit as pending. -/
def execGenCommit : Effect :=
  onFwd fun c d => d.genCommit c

/-- GEN_ABORT (R168): A write of 1 to CLS_GEN_CTRL.abort discards the stage and prepares the slot again. -/
def execGenAbort : Effect :=
  onFwd fun c d => d.genAbort c

/-- STAGE_PREPARE_DONE (R169): Preparation of a free slot completes, and the stage opens. -/
def execStagePrepareDone : Effect :=
  onFwd fun _ d => d.prepareDone

/-- GEN_DRAINED (R170): A superseded generation with no packets in flight drains, its entries are reclaimed and its
slot is freed. -/
def execGenDrained : Effect :=
  onFwd fun c d => d.genDrained c

/-- PACKET_LIFETIME (R171): A packet aged 10 ms in the lookup domain is dropped. -/
def execPacketLifetime (pkt : Nat) : Effect :=
  onFwd fun c d => d.lifetime c pkt

/-- EGRESS_REORDER_RELEASE (R24): The egress reorder releases a packet once every earlier packet of its pair has left,
and the packet is enqueued. -/
def execEgressReorderRelease (pkt : Nat) (copy : Nat) : Effect :=
  onFwd fun c d => d.egressRelease c pkt copy

end Sys2Proof.Machine
end

