-- ==== Sys2Proof/Machine/CmdClk.lean ====
section
/-! DEFINITION. The commands' meanings: Local time (R368–R380). -/
namespace Sys2Proof.Machine

/-- STEP_GO (R370): TIM_ADJ_CTRL.step_go adds TIM_STEP.amount to the clock. -/
def execStepGo : Effect :=
  onState fun s => stepClock s

/-- SET_GO (R370): TIM_ADJ_CTRL.set_go loads the clock from TIM_SET. -/
def execSetGo : Effect :=
  onState fun s => setClock s

/-- SLEW_GO (R370): TIM_ADJ_CTRL.slew_go starts an exact slew at rate_ppm. -/
def execSlewGo : Effect :=
  onState fun s => slewStart s

/-- SLEW_ABORT (R370): TIM_ADJ_CTRL.slew_abort stops the slew at once, keeping the remainder readable. -/
def execSlewAbort : Effect :=
  onState fun s => slewStop s

/-- SLEW_DONE (R370): The slew reaches its amount and raises EV_TIM_SLEW_DONE. -/
def execSlewDone : Effect :=
  onState fun s => if s.clk.slewDue then tickClock s else s

/-- TXQ_POP (R368): TIM_TXQ_CTRL.pop removes the head of the compatibility queue. -/
def execTxqPop : Effect :=
  onDev fun _ d => d.txqPop

/-- PPS_IN_EDGE (R374): A rising PPS_IN edge is stamped into TIM_PPS_IN. -/
def execPpsInEdge : Effect :=
  onDev fun c d => d.ppsEdge c

/-- PPS_IN_LOST (R374): No PPS_IN edge for 1.5 s raises EV_TIM_PPS_IN_LOST. -/
def execPpsInLost : Effect :=
  onDev fun c d => d.ppsLost c

/-- SOURCE_LOST (R373): A selected time source lost for 3 s puts the firmware servo into holdover. -/
def execSourceLost : Effect :=
  onCores fun _ d => d.servoHoldover

/-- TIME_REQUEST (R376): Every 1 ms a follower sends a time transfer REQUEST on channel 4. -/
def execTimeRequest : Effect :=
  onCores fun c d => d.timeRequest c

/-- TIME_REQUEST_RECEIVE (R376): The source stamps a REQUEST and answers with a RESPONSE carrying t2 and t3. -/
def execTimeRequestReceive (g : Fin 64) (seq : BitVec 16) : Effect :=
  onFwd fun c d => d.timeAnswer c g seq.toNat

/-- TIME_RESPONSE (R376): The follower computes its offset from a matching RESPONSE, or discards a mismatched one. -/
def execTimeResponse (g : Fin 64) (seq : BitVec 16) (t2 t3 : Stamp) : Effect :=
  onCores fun c d => d.timeResponse c g seq.toNat t2 t3

/-- PEAL_TIME_LOST (R376): No completed exchange for 10 ms sends the follower to holdover. -/
def execPealTimeLost : Effect :=
  onCores fun c d => d.pealTimeLost c

/-- LEDGER_RECORD (R380): Each second the device appends a 64-byte ledger record. -/
def execLedgerRecord (info : LedgerInfo) : Effect :=
  onDev fun c d => d.ledgerAppend c info

/-- SERVO_LOCKED (R373): The firmware servo enters Locked once the offset has stayed within ±10 ns for 16 s. -/
def execServoLocked : Effect :=
  onCores fun _ d => d.servoLocked

/-- TEMPERATURE_TERM_UPDATE (R377): Every 1 ms the device applies each lane's fused temperature coefficient to its
chiplet sensor reading. -/
def execTemperatureTermUpdate : Effect :=
  onDev fun _ d => d.tempTerms

/-- PPS_OUT_RISE (R374): PPS_OUT rises when local time reaches each whole second plus out_offset. -/
def execPpsOutRise : Effect :=
  onDev fun c d => d.ppsRise c

/-- PPS_OUT_FALL (R374): PPS_OUT falls out_width µs after it rose. -/
def execPpsOutFall : Effect :=
  onDev fun c d => d.ppsFall c

/-- CLK10M_MEASURE (R374): Each second the CLK10M_IN frequency is measured against local time and reported in
TIM_CLK10_STATUS. -/
def execClk10mMeasure (m : Option (BitVec 24 × BitVec 24)) : Effect :=
  onDev fun _ d => d.clk10Measure m

end Sys2Proof.Machine
end

