-- ==== Sys2Proof/Machine/CmdFlow.lean ====
section
/-! DEFINITION. The commands' meanings: The flow table (R190–R214). -/
namespace Sys2Proof.Machine

/-- HEARTH_REQUEST (R190): A stateful packet makes its Hearth request to its bank in counter or lock mode. -/
def execHearthRequest (pkt : Nat) (busy : Bool) : Effect :=
  onFwd fun c d => d.hearthRequest c pkt busy

/-- MISS_FILL (R194): The index lookup completes, and the entry or alias is installed or the insert path decides. -/
def execMissFill (pkt : Nat) (hbm : Fin 4) : Effect :=
  onFwd fun c d => (d.missFill c pkt hbm false).watchBoth c

/-- FILL_WAY_RETRY (R195): A fill that found no qualifying way retries when a way of its set changes. -/
def execFillWayRetry (pkt : Nat) (hbm : Fin 4) : Effect :=
  onFwd fun c d => (d.missFill c pkt hbm true).watchBoth c

/-- BANK_QUEUE_ENTER (R197): A bank-busy waiter enters its bank's queue when a place frees. -/
def execBankQueueEnter (bank : Fin 256) : Effect :=
  onFwd fun c d => d.bankEnter c bank

/-- HBM_WRITE_ACK (R198): HBM acknowledges a new record's writes, and pinned clears. -/
def execHbmWriteAck (die : Fin 2) (record : BitVec 28) : Effect :=
  onFwd fun c d => d.writeAck c die record.toNat

/-- HOST_PENDING_TIMEOUT (R200): A pending entry with no INSERT within timeout_us is removed, and its waiters are
shed. -/
def execHostPendingTimeout (die : Fin 2) : Effect :=
  onFwd fun c d => d.pendingTimeout c die

/-- FLOW_INSERT (R202): Command INSERT creates a record from the body, checks the bank rule and journals it. -/
def execFlowInsert (die : Fin 2) (release : Bool) (body : List Byte) : Effect :=
  onFwd fun c d => d.flowInsert c die release body

/-- FLOW_UPDATE (R202): Command UPDATE replaces the decision fields of a flow under its lock and journals it. -/
def execFlowUpdate (die : Fin 2) (body : List Byte) : Effect :=
  onFwd fun c d => d.flowUpdate c die body

/-- FLOW_DELETE (R203): Command DELETE deletes a record in the order of R203. -/
def execFlowDelete (die : Fin 2) (key : List Byte) : Effect :=
  onFwd fun c d => d.flowDelete c die key

/-- FLOW_READ (R202): Command READ writes the record image with exact counts to host memory. -/
def execFlowRead (die : Fin 2) (result : BitVec 64) (key : List Byte) : Effect :=
  onFwd fun _ d => d.flowRead die result.toNat key

/-- FLOW_BAD_OP (R201): A command with an unknown op completes with BAD_OP. -/
def execFlowBadOp (die : Fin 2) : Effect :=
  onFwd fun _ d => d.flowBadOp die

/-- HBM_EVAC_START (R213): A write of 1 to FLW_HBM_EVAC.start copies a channel's pages into the evacuation reserve. -/
def execHbmEvacStart (die : Fin 2) (channel : Fin 32) : Effect :=
  onFwd fun c d => d.evacStart c die channel

/-- EVAC_DONE (R213): The evacuation copy ends, EV_FLW_EVAC_DONE is raised and the channel retrains. -/
def execEvacDone (die : Fin 2) : Effect :=
  onFwd fun c d => (d.evacDone c die).watchBoth c

/-- CHANNEL_RETRAIN_DONE (R213): The evacuated channel becomes the new reserve if retraining passes, and stays retired
otherwise. -/
def execChannelRetrainDone (die : Fin 2) (pass : Bool) : Effect :=
  onFwd fun c d => (d.retrainDone die pass).watchBoth c

/-- BANK_RETIRE (R214): HRT_SPARE_CTRL.retire_go replaces the named bank by a spare. -/
def execBankRetire (die : Fin 2) : Effect :=
  onFwd fun c d => d.bankRetire c die

/-- BANK_CONTROL_PARITY (R214): A parity error in a bank's control logic starts its replacement by a spare. -/
def execBankControlParity (bank : Fin 256) : Effect :=
  onFwd fun c d => d.bankReplace c bank

/-- BANK_COPY_DONE (R214): The copy to the spare ends, the spare takes the bank number and the waiters enter its
queue. -/
def execBankCopyDone (bank : Fin 256) : Effect :=
  onFwd fun c d => d.bankCopyDone c bank

/-- SWEEPER_VISIT (R207): A Sweeper holds the next record of its range by lock or sweep tag and starts its routine at
address 0. -/
def execSweeperVisit (die : Fin 2) (n : Fin 32) (corrected : Bool) : Effect :=
  onFwd fun c d => (d.sweeperVisit c die n corrected).watchBoth c

/-- SWEEPER_SCAN_END (R207): A die completes a scan of every record. -/
def execSweeperScanEnd (die : Fin 2) (bad : List (BitVec 28)) : Effect :=
  onFwd fun c d => d.scanEnd c die (bad.map BitVec.toNat)

/-- VISIT_SLOW (R239): A visit that holds a record for more than 10 µs raises EV_SWP_VISIT_SLOW. -/
def execVisitSlow (die : Fin 2) (n : Fin 32) : Effect :=
  onFwd fun c d => d.visitSlow c die n

end Sys2Proof.Machine
end

