-- ==== Sys2Proof/Machine/CmdHost.lean ====
section
/-! DEFINITION. The commands' meanings: The host interface (R417–R433, R484). -/
namespace Sys2Proof.Machine

/-- RX_DOORBELL (R420): A write of a receive ring's tail posts descriptors. -/
def execRxDoorbell (ring : Fin 2048) (tail : BitVec 16) (buffers : List (BitVec 64)) : Effect :=
  onDev fun c d => d.rxDoorbell c ring tail.toNat (buffers.map BitVec.toNat)

/-- TX_DOORBELL (R420): A write of a transmit ring's tail posts descriptors for fetch. -/
def execTxDoorbell (ring : Fin 2048) (tail : BitVec 16) : Effect :=
  onDev fun _ d => d.txDoorbell ring tail.toNat

/-- TX_DIRECT (R424): A direct transmit descriptor queues its frame on the egress port. -/
def execTxDirect (ring : Fin 2048) (desc : TxDesc) : Effect :=
  onDev fun c d => d.txDirect c ring desc

/-- TX_INJECT (R424): An inject descriptor sends its frame to the ingress port's intake. -/
def execTxInject (ring : Fin 2048) (desc : TxDesc) : Effect :=
  onDev fun c d => d.txInject c ring desc

/-- MSIX_FIRE (R426): A ring's moderation interval ends after a write-back, and its vector fires. -/
def execMsixFire (kind : Fin 3) (n : Fin 2048) : Effect :=
  onDev fun c d => d.msixFire c kind n

/-- FETCH_ERROR (R427): A failed descriptor or buffer read disables the ring or stops the command ring. -/
def execFetchError (kind : Fin 4) (n : Fin 2048) (frame : Bool) : Effect :=
  onDev fun c d => d.fetchError c kind n frame

/-- MODE_MOVE (R429): HST_MODE_CTRL.go asks firmware to move a function, which is refused or started. -/
def execModeMove (function : Fin 16) (host : Bool) : Effect :=
  onDev fun c d => ((d.put F.HST_MODE_CTRL_function 0 function).putB F.HST_MODE_CTRL_mode 0 host).modeGo c

/-- MODE_MOVE_DONE (R430): The move's transition applies, the mode field is written and EV_HST_MODE_DONE is raised. -/
def execModeMoveDone : Effect :=
  onDev fun c d => d.modeDone c

/-- EVENT_RING_ENABLE (R433): Enabling an event ring resets head, rd, sequence and phase. -/
def execEventRingEnable (ring : Fin 8) : Effect :=
  onDev fun _ d => d.evtRingEnable ring

/-- PCIE_LINK_UP (R484): After PERST_N is released and the SDT is published, the PCIe link trains and comes up. -/
def execPcieLinkUp : Effect :=
  onDev fun c d => d.pcieUp c

/-- D3HOT_TRANSITION (R417): A power-management write moves the function between D0 and D3hot, which stops or restarts
DMA while forwarding runs. -/
def execD3hotTransition (on : Bool) : Effect :=
  onDev fun c d => d.setD3hot c on

end Sys2Proof.Machine
end

