-- ==== Sys2Proof/Machine/CmdIntake.lean ====
section
/-! DEFINITION. The commands' meanings: Intake and parsing (R14–R17, R117–R140). -/
namespace Sys2Proof.Machine

/-- INTAKE_SLOT (R17): A waiting descriptor takes a pipeline intake slot and is stamped with the live generation. -/
def execIntakeSlot (pipe : Fin 32) (held : Option (BitVec 32)) : Effect :=
  onFwd fun c d => match held with
    | some amps => d.intakeHeld c pipe amps.toNat
    | none => d.intakeSlot c pipe

/-- DESCRIPTOR_DEAL (R117): The distributor takes a descriptor from intake, numbers it and deals it to the next parse
engine with room. -/
def execDescriptorDeal (pipe : Fin 32) : Effect :=
  onFwd fun _ d => d.deal pipe

/-- PARSE_DONE (R123): A parse engine finishes walking the parse graph and produces the parse result and flow key. -/
def execParseDone (pipe : Fin 32) (engine : Fin 12) (ecc : Fin 4) : Effect :=
  onFwd fun c d => d.parseDone c pipe engine ecc

/-- REORDER_RELEASE (R120): The reorder stage releases descriptors to classification in sequence order. -/
def execReorderRelease (pipe : Fin 32) : Effect :=
  onFwd fun _ d => d.reorderRelease pipe

/-- PARSE_ENGINE_PARITY (R140): A parity error discards the engine's work, re-parses the packet elsewhere and retires
the engine. -/
def execParseEngineParity (pipe : Fin 32) (engine : Fin 12) : Effect :=
  onFwd fun c d => d.parseParity c pipe engine

/-- PARSE_ENGINE_RETIRE (R140): A W1S write to PRS_ENGINE_CTRL.retire retires an engine after its current packet. -/
def execParseEngineRetire (pipe : Fin 32) (mask : BitVec 12) : Effect :=
  onFwd fun _ d => d.parseRetire pipe mask.toNat

/-- PARSE_ENGINE_RETURN (R140): A W1C write to PRS_ENGINE_CTRL.retired returns an engine to service after its
self-test. -/
def execParseEngineReturn (pipe : Fin 32) (mask : BitVec 12) : Effect :=
  onFwd fun _ d => d.parseReturn pipe mask.toNat

end Sys2Proof.Machine
end

