-- ==== Sys2Proof/Machine/CmdLink.lean ====
section
/-! DEFINITION. The commands' meanings: MACs, lanes and Peal links (R92–R116, R446). -/
namespace Sys2Proof.Machine

/-- FRAME_RECEIVE (R14): The last byte of a frame reaches the packet buffer, its FCS is checked, and a descriptor is
created if it is good. -/
def execFrameReceive (port lane : Fin 512) (var : BitVec 24) (bytes : List Byte) (fcsOk : Bool) : Effect :=
  onFwd fun c d => d.frameReceive c port lane var.toInt bytes fcsOk

/-- MAC_CONTROL_FRAME (R99): A received EtherType 0x8808 frame is consumed, and PAUSE or PFC acts when it matches the
port's fc_mode. -/
def execMacControlFrame (port : Fin 512) (opcode : BitVec 16) (timers : List (Fin 8 × BitVec 16)) : Effect :=
  onFwd fun c d => d.macControl c port opcode.toNat (timers.map (fun t => (t.1.val, t.2.toNat)))

/-- PAUSE_TIMER_EXPIRE (R99): A received pause timer expires, and the paused traffic classes resume. -/
def execPauseTimerExpire (port : Fin 512) (prio : Fin 8) : Effect :=
  onFwd fun c d => d.pauseExpire c port prio

/-- PFC_RESEND (R99): While a priority stays asserted, PFC is resent every quanta ÷ 2 pause units. -/
def execPfcResend (port : Fin 512) : Effect :=
  onFwd fun c d => d.pfcResend c port

/-- LINK_STATE_CHANGE (R98): A change of lane alignment or of received Remote Fault changes link_up and raises the
link event. -/
def execLinkStateChange (port : Fin 512) (remoteFault aligned : Bool) : Effect :=
  onLink fun c d => d.linkChange c port remoteFault aligned

/-- LANE_RECAL (R112): A write of 1 to LANE_CTRL.recal starts a full recalibration of the lane, or moves Peal traffic
to a spare. -/
def execLaneRecal (lane : Fin 512) : Effect :=
  onLink fun c d => d.laneRecal c lane

/-- RECAL_DONE (R112): A recalibration completes and raises EV_LANE_RECAL_DONE. -/
def execRecalDone (lane : Fin 512) (err : BitVec 16) (temp : BitVec 8) : Effect :=
  onLink fun c d => d.recalDone c lane err.toInt temp.toNat

/-- LANE_FAIL (R113): Loss of signal for 1 µs, loss of PLL lock or loss of FEC alignment fails the lane. -/
def execLaneFail (lane : Fin 512) (cause : Fin 4) : Effect :=
  onLink fun c d => d.laneFail c lane cause

/-- FEC_WINDOW_END (R113): At the end of each 1 ms window, corrected symbols are compared with the threshold, which
may raise degrade or fail the lane. -/
def execFecWindowEnd (lane : Fin 512) (corrected uncorrected symbols : BitVec 32) : Effect :=
  onLink fun c d => d.fecWindow c lane corrected.toNat uncorrected.toNat symbols.toNat

/-- LANE_RETRY_TRAINING (R114): A failed lane retries training every 1,000 ms. -/
def execLaneRetryTraining (lane : Fin 512) (trained : Bool) : Effect :=
  onLink fun c d => d.laneRetry c lane trained

/-- PEAL_CELL_RECEIVE (R106): A cell is checked by FEC and tag, delivered in order with its messages, or discarded
with every later cell. -/
def execPealCellReceive (g : Fin 64) (lane : Fin 8) (cell : Cell) (good : Bool) : Effect :=
  onFwd fun c d => d.cellReceive c g lane cell good

/-- PEAL_CELL_RESEND (R106): A cell not covered by an ack 2.0 µs after it ended is resent with every later cell. -/
def execPealCellResend (g : Fin 64) : Effect :=
  onFwd fun c d => d.cellResend c g

/-- KEY_EPOCH_CHANGE (R107): After 2^32 cells the link changes to the other key epoch at an agreed cell boundary. -/
def execKeyEpochChange (g : Fin 64) : Effect :=
  onFwd fun c d => d.keyEpochChange c g

/-- LANE_SET_MESSAGE (R104): A channel 7 lane-set message changes the receiver's lane set at the cell it names. -/
def execLaneSetMessage (g : Fin 64) (mask spare : BitVec 8) (seq : BitVec 11) : Effect :=
  onLink fun c d => d.laneSetMessage c g mask.toNat spare.toNat seq.toNat

/-- PAUSE_STATE_MESSAGE (R104): A channel 7 pause-state message sets which priorities the sender must stop starting.
-/
def execPauseStateMessage (g : Fin 64) (mask : BitVec 8) : Effect :=
  onFwd fun _ d => d.pauseStateMessage g mask.toNat

/-- KEY_EPOCH_MESSAGE (R104): A channel 7 key-epoch message switches the epoch at the cell it names. -/
def execKeyEpochMessage (g : Fin 64) (epoch : Fin 2) (seq : BitVec 11) : Effect :=
  onFwd fun c d => d.keyEpochMessage c g epoch seq.toNat

/-- KX1 (R446): The initiator's identity and nonce start keying of a Peal link. -/
def execKx1 (g : Fin 64) (peerSerial : BitVec 64) (m : List Byte) : Effect :=
  onFwd fun c d => d.kx1 c g peerSerial.toNat m

/-- KX2 (R446): The responder's identity, nonce, encrypted secret and transcript signature are received and verified.
-/
def execKx2 (g : Fin 64) (m : List Byte) : Effect :=
  onFwd fun c d => d.kx2 c g m

/-- KX3 (R446): The initiator's encrypted secret and signature complete the exchange and derive the link keys. -/
def execKx3 (g : Fin 64) (m : List Byte) : Effect :=
  onLink fun c d => d.kx3 c g m

/-- KEYING_RETRY (R446): A failed key exchange retries after 100 ms. -/
def execKeyingRetry (g : Fin 64) : Effect :=
  onFwd fun c d => d.keyingRetry c g

/-- PACKET_MESSAGE (R411): A channel 0 frame is buffered and queued on the named egress port. -/
def execPacketMessage (g : Fin 64) (port : Fin 512) (tc : Fin 8) (ingress : Fin 512) (colour : Fin 4) (bytes : List Byte) : Effect :=
  onFwd fun c d => d.packetReceive c g port tc ingress colour bytes

end Sys2Proof.Machine
end

