-- ==== Sys2Proof/Machine/CmdMicro.lean ====
section
/-! DEFINITION. The commands' meanings: Action microcode: dispatch, sequencer, ALU and memory slots (R218–R232, R285).
-/
namespace Sys2Proof.Machine

/-- ENGINE_DISPATCH (R218): The dispatcher sends a packet to a free engine of the next eligible cluster. -/
def execEngineDispatch (pipe : Fin 32) : Effect :=
  onFwd fun c d => d.dispatch c pipe

/-- NEXT (R222): Action sequencer NEXT goes on to the next address. -/
def execNext (inst : Fin 256) (engine : Fin 8) : Effect :=
  onFwd fun c d => d.seqNext c inst engine

/-- JUMP (R222): Action sequencer JUMP goes to target. -/
def execJump (inst : Fin 256) (engine : Fin 8) : Effect :=
  onFwd fun c d => d.seqJump c inst engine

/-- BR_T (R222): Action sequencer BR_T goes to target if cond is true. -/
def execBrT (inst : Fin 256) (engine : Fin 8) : Effect :=
  onFwd fun c d => d.seqBranch c inst engine true

/-- BR_F (R222): Action sequencer BR_F goes to target if cond is false. -/
def execBrF (inst : Fin 256) (engine : Fin 8) : Effect :=
  onFwd fun c d => d.seqBranch c inst engine false

/-- COMMIT (R230): COMMIT atomically applies the routine's buffered effects, releases the lock and takes the
disposition. -/
def execCommit (inst : Fin 256) (engine : Fin 8) : Effect :=
  onFwd fun c d => d.seqCommit c inst engine

/-- ABORT (R230): ABORT discards buffered effects, releases reservations and the lock, and drops the packet. -/
def execAbort (inst : Fin 256) (engine : Fin 8) : Effect :=
  onFwd fun c d => d.seqAbort c inst engine

/-- ILLEGAL_SEQ (R222): Sequencer code 6 or 7 executes as ABORT and raises EV_ENG_ILLEGAL. -/
def execIllegalSeq (inst : Fin 256) (engine : Fin 8) : Effect :=
  onFwd fun c d => d.seqIllegal c inst engine

/-- NOP (R224): ALU NOP writes nothing. -/
def execNop (p : Issuer) : Effect :=
  onFwd fun c d => d.aluStep c p.proc 0

/-- ADD (R224): ALU ADD writes a + b. -/
def execAdd (p : Issuer) : Effect :=
  onFwd fun c d => d.aluStep c p.proc 1

/-- SUB (R224): ALU SUB writes a − b. -/
def execSub (p : Issuer) : Effect :=
  onFwd fun c d => d.aluStep c p.proc 2

/-- AND (R224): ALU AND writes a & b. -/
def execAnd (p : Issuer) : Effect :=
  onFwd fun c d => d.aluStep c p.proc 3

/-- OR (R224): ALU OR writes a | b. -/
def execOr (p : Issuer) : Effect :=
  onFwd fun c d => d.aluStep c p.proc 4

/-- XOR (R224): ALU XOR writes a ^ b. -/
def execXor (p : Issuer) : Effect :=
  onFwd fun c d => d.aluStep c p.proc 5

/-- SHL (R224): ALU SHL shifts a left by b[5:0]. -/
def execShl (p : Issuer) : Effect :=
  onFwd fun c d => d.aluStep c p.proc 6

/-- SHR (R224): ALU SHR shifts a right logically by b[5:0]. -/
def execShr (p : Issuer) : Effect :=
  onFwd fun c d => d.aluStep c p.proc 7

/-- SAR (R224): ALU SAR shifts a right arithmetically. -/
def execSar (p : Issuer) : Effect :=
  onFwd fun c d => d.aluStep c p.proc 8

/-- MOV (R224): ALU MOV writes b. -/
def execMov (p : Issuer) : Effect :=
  onFwd fun c d => d.aluStep c p.proc 9

/-- CMP (R224): ALU CMP sets the flags from a − b without a write. -/
def execCmp (p : Issuer) : Effect :=
  onFwd fun c d => d.aluStep c p.proc 10

/-- MIN (R224): ALU MIN writes the unsigned minimum. -/
def execMin (p : Issuer) : Effect :=
  onFwd fun c d => d.aluStep c p.proc 11

/-- MAX (R224): ALU MAX writes the unsigned maximum. -/
def execMax (p : Issuer) : Effect :=
  onFwd fun c d => d.aluStep c p.proc 12

/-- CSUM (R224): ALU CSUM writes the folded ones' complement sum of the halves of a and b. -/
def execCsum (p : Issuer) : Effect :=
  onFwd fun c d => d.aluStep c p.proc 13

/-- BSWAP (R224): ALU BSWAP reverses the bytes of a. -/
def execBswap (p : Issuer) : Effect :=
  onFwd fun c d => d.aluStep c p.proc 14

/-- TSDIFF (R224): ALU TSDIFF writes the signed 48-bit difference of a and b. -/
def execTsdiff (p : Issuer) : Effect :=
  onFwd fun c d => d.aluStep c p.proc 15

/-- LD (R225): Memory op LD loads little-endian bytes from a space into a register. -/
def execLd (inst : Fin 256) (engine : Fin 8) : Effect :=
  onFwd fun c d => d.actLoad c inst engine false

/-- LDN (R225): Memory op LDN loads bytes in network byte order. -/
def execLdn (inst : Fin 256) (engine : Fin 8) : Effect :=
  onFwd fun c d => d.actLoad c inst engine true

/-- ST (R225): Memory op ST stores to metadata, scratch or flow writes, and a store outside the allowed bytes is
ignored. -/
def execSt (inst : Fin 256) (engine : Fin 8) : Effect :=
  onFwd fun c d => d.actStore c inst engine

/-- EDIT_RW (R225): Memory op EDIT_RW buffers a rewrite of window bytes. -/
def execEditRw (inst : Fin 256) (engine : Fin 8) : Effect :=
  onFwd fun c d => d.editRw c inst engine

/-- EDIT_OP (R225): Memory op EDIT_OP buffers the edit operation held in imm. -/
def execEditOp (inst : Fin 256) (engine : Fin 8) : Effect :=
  onFwd fun c d => d.editOp c inst engine

/-- CNT_ADD (R285): Memory op CNT_ADD buffers an addition to an action counter, applied at COMMIT. -/
def execCntAdd (inst : Fin 256) (engine : Fin 8) : Effect :=
  onFwd fun c d => d.cntAdd c inst engine

/-- UNIT (R226): Memory op UNIT issues a unit call with four operand registers. -/
def execUnit (inst : Fin 256) (engine : Fin 8) : Effect :=
  onFwd fun c d => d.actUnit c inst engine

/-- TS (R225): Memory op TS loads the current TS48. -/
def execTs (inst : Fin 256) (engine : Fin 8) : Effect :=
  onFwd fun c d => d.actTs c inst engine

/-- ILLEGAL_MEM (R225): Memory op 9–15 executes as sequencer code 6. -/
def execIllegalMem (inst : Fin 256) (engine : Fin 8) : Effect :=
  onFwd fun c d => d.memIllegal c inst engine

/-- UNIT_RESULT (R226): A unit call's result and status arrive in the engine's registers. -/
def execUnitResult (p : Issuer) (call : Fin 8) : Effect :=
  onFwd fun _ d => d.unitResult p.proc call

end Sys2Proof.Machine
end

