-- ==== Sys2Proof/Machine/CmdPair.lean ====
section
/-! DEFINITION. The commands' meanings: Toll, Ember, Kindling and distribution (R386–R414). -/
namespace Sys2Proof.Machine

/-- TOLL_SEND (R386): Every 10 µs a device sends Toll on every Peal link that is up. -/
def execTollSend : Effect :=
  onFwd fun c d => d.tollSend c

/-- TOLL_RECEIVE (R386): A received Toll updates the peer's state and admits it or flags an image mismatch. -/
def execTollReceive (g : Fin 64) (pos : Fin 4) (seq : BitVec 32) (info : TollInfo) : Effect :=
  onFwd fun c d => d.tollReceive c g pos seq.toNat info

/-- TOLL_INTERVAL_END (R387): A 10 µs interval ends, and a peer with 3 consecutive missed intervals is lost. -/
def execTollIntervalEnd : Effect :=
  onFwd fun c d => d.tollIntervalEnd c

/-- EMBER_INSERT (R392): A received Ember INSERT installs a record, with conflicts resolved in favour of twin A. -/
def execEmberInsert (g : Fin 64) (die : Fin 2) (seq : BitVec 32) (image : List Byte) : Effect :=
  onFwd fun c d => d.emberInsert c g die seq.toNat image

/-- EMBER_UPDATE (R391): A received Ember UPDATE applies state under the flow's lock. -/
def execEmberUpdate (g : Fin 64) (die : Fin 2) (seq : BitVec 32) (body : List Byte) : Effect :=
  onFwd fun c d => d.emberUpdate c g die seq.toNat body

/-- EMBER_HOST_UPDATE (R391): A received HOST_UPDATE applies the record image. -/
def execEmberHostUpdate (g : Fin 64) (die : Fin 2) (seq : BitVec 32) (image : List Byte) : Effect :=
  onFwd fun c d => d.emberHostUpdate c g die seq.toNat image

/-- EMBER_DELETE (R391): A received Ember DELETE deletes the record. -/
def execEmberDelete (g : Fin 64) (die : Fin 2) (seq : BitVec 32) (body : List Byte) : Effect :=
  onFwd fun c d => d.emberDelete c g die seq.toNat body

/-- EMBER_COUNTER (R397): A received COUNTER adds increments and takes a later last_seen_s. -/
def execEmberCounter (g : Fin 64) (die : Fin 2) (seq : BitVec 32) (body : List Byte) : Effect :=
  onFwd fun c d => d.emberCounter c g die seq.toNat body

/-- EMBER_TOUCH (R398): A received TOUCH takes a later last_seen_s. -/
def execEmberTouch (g : Fin 64) (die : Fin 2) (seq : BitVec 32) (body : List Byte) : Effect :=
  onFwd fun c d => d.emberTouch c g die seq.toNat body

/-- EMBER_ACK (R394): A received ACK advances the acknowledged sequence and releases held first packets. -/
def execEmberAck (g : Fin 64) (die : Fin 2) (seq : BitVec 32) : Effect :=
  onFwd fun c d => d.emberAck c g die seq.toNat

/-- SYNC_TIMEOUT (R396): A held packet waiting timeout_us treats the Ember stream as down. -/
def execSyncTimeout (die : Fin 2) : Effect :=
  onFwd fun c d => d.syncTimeout c die

/-- COUNTER_WALK (R397): Every 10 ms a die flushes resident deltas and sends COUNTER entries. -/
def execCounterWalk (die : Fin 2) : Effect :=
  onFwd fun c d => d.counterWalk c die

/-- EMBER_UP (R400): The Ember stream comes up, and the backlog is sent, or merge Kindling runs after an overflow. -/
def execEmberUp (die : Fin 2) (key : Word × Word) : Effect :=
  onFwd fun c d => d.emberComeUp c die key

/-- BACKLOG_DRAINED (R400): With the backlog drained and the lag within bound, holds resume and EV_TWN_EMBER_UP is
raised. -/
def execBacklogDrained (die : Fin 2) : Effect :=
  onFwd fun c d => d.backlogDrained c die

/-- KINDLING_IMAGE (R405): A channel 2 message installs record images whose keys have no record. -/
def execKindlingImage (g : Fin 64) (die : Fin 2) (mode : Fin 3) (count : Fin 81) (body : List Byte) (key : Word × Word) : Effect :=
  onFwd fun c d => d.kindlingImage c g die mode count body key

/-- KINDLE_DONE (R406): With the lag held within bound for 1 ms, the receiver enters SERVING. -/
def execKindleDone : Effect :=
  onFwd fun c d => d.kindleDone c

/-- KINDLE_MERGE (R407): TWN_KINDLE_CTRL.merge starts two-way merge Kindling. -/
def execKindleMerge : Effect :=
  onFwd fun c d => d.kindleMerge c

/-- KINDLE_HOST_DONE (R408): TWN_KINDLE_CTRL.done ends host copying, and R406 applies from it. -/
def execKindleHostDone : Effect :=
  onFwd fun c d => d.kindleHostDone c

/-- DIST_WRITE32 (R413): A distribution WRITE32 is executed on each accepting target as requester 12. -/
def execDistWrite32 (g : Fin 64) (tag : BitVec 16) (offset : BitVec 32) (value : BitVec 32) : Effect :=
  onState fun s => relink s (distWrite s g tag.toNat 4 offset.toNat value.toNat)

/-- DIST_WRITE64 (R413): A distribution WRITE64 is executed on each accepting target. -/
def execDistWrite64 (g : Fin 64) (tag : BitVec 16) (offset : BitVec 32) (value : Word) : Effect :=
  onState fun s => relink s (distWrite s g tag.toNat 8 offset.toNat value.toNat)

/-- DIST_WRITE64_AT (R413): A distribution WRITE64_AT is scheduled for its TS96 on each target. -/
def execDistWrite64At (g : Fin 64) (tag : BitVec 16) (offset : BitVec 32) (value : Word) (due : Stamp) : Effect :=
  onDev fun c d => d.distWriteAt c g tag.toNat offset.toNat value.toNat due

/-- DIST_WRITE_AT_EXECUTE (R413): Local time reaches a WRITE64_AT's time, and the write executes. -/
def execDistWriteAtExecute : Effect :=
  onState fun s => relink s (distExecute s)

/-- DIST_DIGEST_LIST (R413): A distribution DIGEST_LIST returns the target's component digests. -/
def execDistDigestList (g : Fin 64) (tag : BitVec 16) : Effect :=
  onDev fun c d => d.distDigests c g tag.toNat

/-- DIST_RESULT (R412): A received result or digest list marks its target done or refused in the command. -/
def execDistResult (g : Fin 64) (tag : BitVec 16) (refused : Bool) : Effect :=
  onDev fun c d => d.distResult c g tag.toNat refused

/-- DIST_SILENT (R412): A target silent for 1 ms is marked refused or silent. -/
def execDistSilent (pos : Fin 5) : Effect :=
  onDev fun c d => d.distSilent c pos

/-- DIGEST_DIVERGE (R414): A mismatch lasting grace_ms sends DIGEST_LIST, captures the component and raises
EV_TWN_CFG_DIVERGE. -/
def execDigestDiverge (pos : Fin 5) (theirs : List (Nat × Nat × Nat)) : Effect :=
  onDev fun c d => d.digestDiverge c pos theirs

end Sys2Proof.Machine
end

