-- ==== Sys2Proof/Machine/CmdPwr.lean ====
section
/-! DEFINITION. The commands' meanings: Power, thermal protection and the sideband (R482–R502). -/
namespace Sys2Proof.Machine

/-- AVS_COMMAND (R482): The device sends an AVSBus command that moves a core rail target by at most 5 mV. -/
def execAvsCommand (rail : Fin 3) (want : BitVec 12) (ack : Bool) : Effect :=
  onDev fun c d => d.avsCommand c rail want.toNat ack

/-- MARGIN_FAIL (R483): Negative margin at 0.78 V for 100 µs trips with cause 5. -/
def execMarginFail (rail : Fin 3) : Effect :=
  onDev fun c d => d.marginFail c rail

/-- SENSOR_READING (R492): A new sensor reading crosses the warn, crit or trip threshold. -/
def execSensorReading (sensor : Fin 36) (value : BitVec 12) : Effect :=
  onDev fun c d => d.sensorReading c sensor value

/-- ANALOG_TRIP (R492): The 125 °C analog comparator trips with cause 1. -/
def execAnalogTrip (die : Fin 2) : Effect :=
  onDev fun c d => d.analogTrip c die

/-- PWR_FAULT (R493): PWR_FAULT_N low, or a rail out of setpoint, for 10 µs trips with cause 2. -/
def execPwrFault : Effect :=
  onDev fun c d => d.trip c 2 0 0

/-- COOLANT_FAULT (R493): COOLANT_FAULT_N low for 100 µs trips with cause 3. -/
def execCoolantFault : Effect :=
  onDev fun c d => d.coolantFault c

/-- TRIP_RAMP_DONE (R494): The trip ramp ends, and the forwarding dies' clocks stop. -/
def execTripRampDone : Effect :=
  onDev fun c d => d.rampDone c

/-- DAMPER_REQUEST (R488): A staged change of activity asks the Damper for its current step. -/
def execDamperRequest (rail : Fin 3) (step amps ballast : BitVec 32) : Effect :=
  onDev fun c d => d.damperRequest c rail step.toNat amps.toNat ballast.toNat

/-- DAMPER_GRANT (R488): A waiting request's step fits under the ceiling and is granted. -/
def execDamperGrant (rail : Fin 3) (amps ballast : BitVec 32) : Effect :=
  onDev fun c d => d.damperGrant c rail amps.toNat ballast.toNat

/-- DAMPER_DEFER (R488): A request waiting 100 µs raises EV_PWR_DAMPER_DEFER. -/
def execDamperDefer (rail : Fin 3) : Effect :=
  onDev fun c d => d.damperDefer c rail

/-- SB_STATUS (R502): Sideband STATUS returns the status word and releases SMB_ALERT_N. -/
def execSbStatus : Effect :=
  onDev fun _ d => d.sbStatus

/-- SB_READ (R502): Sideband READ returns one 64-bit BAR0 value. -/
def execSbRead (addr : BitVec 27) : Effect :=
  onDev fun c d => d.sbRead c addr.toNat

/-- SB_WRITE (R502): Sideband WRITE applies to PWR and CLK registers only. -/
def execSbWrite (addr : BitVec 27) (value : Word) : Effect :=
  onDev fun c d => d.sbWrite c addr.toNat value.toNat

end Sys2Proof.Machine
end

