-- ==== Sys2Proof/Machine/CmdReg.lean ====
section
/-! DEFINITION. The commands' meanings: Register access, holds and the reference clock (R28–R54). -/
namespace Sys2Proof.Machine

/-- REGISTER_WRITE (R47): A write to a register with no row of its own applies under its access type, effect class and
race code. -/
def execRegisterWrite (req : Fin 13) (addr : BitVec 27) (size : Fin 16) (value : Word) : Effect :=
  onState fun s => relink s (writeState s req addr.toNat size value.toNat)

/-- HALF_READ_CAPTURE (R38): A 32-bit read of the low half of a 64-bit register captures the high half for that
requester. -/
def execHalfReadCapture (req : Fin 13) (addr : BitVec 27) : Effect :=
  onDev fun c d => d.readOut c req addr.toNat 4

/-- HOLD_REQUEST (R50): A write of 1 to HOLD.req while ack is 0 freezes block intake at the next unit boundary and
sets ack. -/
def execHoldRequest (block : Fin 10) (ix : Fin 32) : Effect :=
  onDev fun c d => d.holdRequest c (holdReg block) ix

/-- HOLD_RELEASE (R50): A write of 0 to HOLD.req clears ack and resumes intake. -/
def execHoldRelease (block : Fin 10) (ix : Fin 32) : Effect :=
  onDev fun c d => d.holdRelease c (holdReg block) ix

/-- HOLD_EXPIRED (R50): A hold still standing 1 µs after ack releases itself, sets expired and raises the event. -/
def execHoldExpired (block : Fin 10) (ix : Fin 32) : Effect :=
  onDev fun c d => d.holdExpired c (holdReg block) ix

/-- BAR2_WRITE (R30): A write to BAR2 is discarded and raises EV_HST_BAR2_WRITE. -/
def execBar2Write : Effect :=
  onDev fun c d => d.bar2Write c

/-- BOOT_STATUS_READ (R434): A read of BOOT_STATUS clears the boot bit that drives INT_N. -/
def execBootStatusRead : Effect :=
  onDev fun c d => d.readOut c 0 Reg.BOOT_STATUS.base 4

/-- REF_LOST (R28): A reference absent or out of tolerance for 1 µs holds the PLL control word and marks holdover. -/
def execRefLost : Effect :=
  onDev fun c d => d.refLost c

/-- REF_RESTORED (R28): A reference back in tolerance for 10 ms relocks the root PLL and raises EV_CLK_REF_RESTORED.
-/
def execRefRestored : Effect :=
  onDev fun c d => d.refRestored c

end Sys2Proof.Machine
end

