-- ==== Sys2Proof/Machine/CmdRel.lean ====
section
/-! DEFINITION. The commands' meanings: Scrubbing, repair, cores and live swap (R461–R475). -/
namespace Sys2Proof.Machine

/-- SCRUB_READ (R461): A patrol read checks a protected word and writes back any correction. -/
def execScrubRead (at_ : ScrubAt) (result : Fin 4) (last : Bool) : Effect :=
  onDev fun c d => (d.scrubRead c at_ result last).watchBoth c

/-- CE_WINDOW_END (R464): A channel's error window ends, and the die may start an automatic evacuation. -/
def execCeWindowEnd (die : Fin 2) (channel : Fin 32) : Effect :=
  onFwd fun c d => d.ceWindowEnd c die channel

/-- CHANNEL_LOST (R466): A lost channel is mapped onto the reserve, its records are quarantined and its regions are
rebuilt. -/
def execChannelLost (own : Bool) (die : Fin 2) (channel : Fin 32) (regions : BitVec 4) (records : List Nat) : Effect :=
  onFwd fun c d => if own then d.channelLost c die channel regions.toNat records else d.dieRepair c die

/-- QUAR_RELEASE_REQUEST (R469): FLW_QUAR_CTRL.release releases a record number at the end of the next scan. -/
def execQuarReleaseRequest (die : Fin 2) (record : BitVec 28) : Effect :=
  onFwd fun _ d => d.quarRequest die record.toNat

/-- CORE_MACHINE_CHECK (R471): A core machine check stops the core and restarts its tasks on the survivors. -/
def execCoreMachineCheck (core : Fin 8) (ue : Option (BitVec 32)) : Effect :=
  onDev fun c d => d.coreMchk c core (ue.map BitVec.toNat)

/-- CORE_HEARTBEAT_MISS (R471): A core that misses its heartbeat for 1 ms is failed. -/
def execCoreHeartbeatMiss (core : Fin 8) : Effect :=
  onDev fun c d => d.coreFail c core

/-- CORE_RETURN (R471): GLB_CORE_CTRL.go self-tests a core and returns it to service. -/
def execCoreReturn (pass : Bool) : Effect :=
  onDev fun _ d => d.coreReturn pass

/-- SWAP_GO (R474): BOOT_SWAP_CTRL.go fetches a firmware image into the standby slot. -/
def execSwapGo : Effect :=
  onDev fun c d => d.swapGo c

/-- SWAP_VERIFY_DONE (R474): The swap image is checked, and the cores hand over to it or the swap is rejected. -/
def execSwapVerifyDone (image : List Byte) : Effect :=
  onDev fun c d => d.swapVerified c image

/-- SWAP_REVERT (R475): BOOT_SWAP_CTRL.revert hands over to the other slot's image after its checks. -/
def execSwapRevert : Effect :=
  onDev fun c d => d.swapRevert c

/-- SWAP_AUTO_REVERT (R475): New firmware without a heartbeat after 100 ms reverts automatically. -/
def execSwapAutoRevert : Effect :=
  onDev fun c d => d.autoRevertDue c

/-- ROLLOUT_FETCH_DONE (R250): The rollout image fetch and checks complete, and the rollout proceeds to spares or is
rejected. -/
def execRolloutFetchDone (image : List Byte) : Effect :=
  onFwd fun c d => d.rollFetched c image

end Sys2Proof.Machine
end

