-- ==== Sys2Proof/Machine/CmdSec.lean ====
section
/-! DEFINITION. The commands' meanings: Trust, identity, debug and JTAG (R439–R457). -/
namespace Sys2Proof.Machine

/-- DEBUG_TOKEN (R452): SEC_CMD op DEBUG_TOKEN verifies a token and opens debug access, or denies it. -/
def execDebugToken (req : Fin 13) (length : BitVec 13) : Effect :=
  onDev fun c d => d.secCmd c req 1 length.toNat

/-- STORE_CLEAR_DONE (R454): The store clear ends, new keys are drawn, intake reopens and the scope opens. -/
def execStoreClearDone : Effect :=
  onDev fun c d => d.storeCleared c

/-- FUSE_REQUEST (R439): SEC_CMD op FUSE_REQUEST checks a signed request and starts programming or revoking a slot. -/
def execFuseRequest (req : Fin 13) (length : BitVec 13) : Effect :=
  onDev fun c d => d.secCmd c req 2 length.toNat

/-- FUSE_PROGRAM_DONE (R439): The fuse burn completes and verifies, or fails with result 7. -/
def execFuseProgramDone (verified : Bool) : Effect :=
  onDev fun c d => d.fuseProgrammed c verified

/-- QUOTE (R448): SEC_CMD op QUOTE writes a signed quote over SEC_BLOB. -/
def execQuote (req : Fin 13) : Effect :=
  onDev fun c d => d.secCmd c req 3 32

/-- NEW_CHALLENGE (R450): SEC_CMD op NEW_CHALLENGE draws a new challenge into SEC_CHAL. -/
def execNewChallenge (req : Fin 13) : Effect :=
  onDev fun c d => d.secCmd c req 4 0

/-- EPOCH_COMMIT (R443): SEC_CMD op EPOCH_COMMIT blows the epoch thermometer up to the lowest running epoch. -/
def execEpochCommit (req : Fin 13) : Effect :=
  onDev fun c d => d.secCmd c req 5 0

/-- CHALLENGE_LAPSE (R450): A challenge lapses 600 s after it was drawn. -/
def execChallengeLapse : Effect :=
  onDev fun c d => d.challengeLapse c

/-- LADDER_READY (R445): The key ladder finishes deriving the identity key and sets ladder_ready. -/
def execLadderReady : Effect :=
  onDev fun _ d => d.ladderReady

/-- BYPASS (R456): JTAG BYPASS selects the bypass register. -/
def execBypass : Effect :=
  onDev fun _ d => d.jtagSelect 0

/-- IDCODE (R456): JTAG IDCODE selects the IDCODE register. -/
def execIdcode : Effect :=
  onDev fun _ d => d.jtagIdcode

/-- SAMPLE_PRELOAD (R456): JTAG SAMPLE/PRELOAD reaches the boundary cells without effect on operation. -/
def execSamplePreload : Effect :=
  onDev fun _ d => d.jtagSelect 2

/-- EXTEST (R456): JTAG EXTEST drives the pins from the boundary cells, removing them from functional control. -/
def execExtest : Effect :=
  onDev fun _ d => d.jtagPins 3

/-- CLAMP (R456): JTAG CLAMP holds the pins from the boundary cells. -/
def execClamp : Effect :=
  onDev fun _ d => d.jtagPins 4

/-- HIGHZ (R456): JTAG HIGHZ floats the pins. -/
def execHighz : Effect :=
  onDev fun _ d => d.jtagPins 5

/-- EXTEST_PULSE (R456): JTAG EXTEST_PULSE runs the 1149.6 AC test of the lanes. -/
def execExtestPulse : Effect :=
  onDev fun _ d => d.jtagPins 6

/-- EXTEST_TRAIN (R456): JTAG EXTEST_TRAIN runs the 1149.6 AC test with pulse trains. -/
def execExtestTrain : Effect :=
  onDev fun _ d => d.jtagPins 7

/-- SECACC (R456): JTAG SECACC reaches the SEC command registers as requester 10. -/
def execSecacc (write : Bool) (addr : BitVec 27) (size : Fin 16) (value : Word) : Effect :=
  onDev fun c d => (d.jtagSelect 8).secAcc c write addr.toNat size value.toNat

/-- REGACC (R457): JTAG REGACC reaches BAR0 while scope bit 3 is open, and is otherwise ignored and captured. -/
def execRegacc (write : Bool) (addr : BitVec 27) (size : Fin 16) (value : Word) : Effect :=
  onState fun s => relink s (regAcc { s with dev := s.dev.jtagSelect 9 } write addr.toNat size value.toNat)

end Sys2Proof.Machine
end

