-- ==== Sys2Proof/Machine/CmdSvc.lean ====
section
/-! DEFINITION. The commands' meanings: Translation, balancing, export and profiling (R136, R264–R302). -/
namespace Sys2Proof.Machine

/-- PORT_QUARANTINE_RELEASE (R264): A port held hold_s seconds in quarantine is returned to use. -/
def execPortQuarantineRelease (die : Fin 2) : Effect :=
  onFwd fun c d => d.quarRelease c die

/-- REBUILD_GO (R270): LBL_SVC_CMD.go rebuilds a service's inactive slot bank. -/
def execRebuildGo (service : Fin 16384) : Effect :=
  onFwd fun c d => d.rebuildGo c service

/-- REBUILD_DONE (R270): The rebuild ends by flipping active and raising EV_LBL_REBUILD_DONE. -/
def execRebuildDone : Effect :=
  onFwd fun c d => d.rebuildDone c

/-- PROBE_SEND (R272): Each interval firmware probes a backend. -/
def execProbeSend (backend : Fin 1048576) : Effect :=
  onCores fun c d => d.probeSend c backend

/-- PROBE_REPLY (R272): A probe reply counts toward rise and may set health to 1. -/
def execProbeReply (backend : Fin 1048576) : Effect :=
  onCores fun c d => d.probeReply c backend

/-- PROBE_TIMEOUT (R272): A probe without a reply fails and may set health to 0. -/
def execProbeTimeout (backend : Fin 1048576) : Effect :=
  onCores fun c d => d.probeTimeout c backend

/-- FRAG_BINDING_EXPIRE (R136): A fragment binding lapses 64 µs after its creation. -/
def execFragBindingExpire (die : Fin 2) : Effect :=
  onFwd fun c d => d.bindExpire c die

/-- EXPORT_MESSAGE_AGE (R294): A data message whose oldest record has waited 1 ms is sent. -/
def execExportMessageAge (die : Fin 2) : Effect :=
  onFwd fun c d => d.exportAge c die

/-- TEMPLATE_SEND (R294): Every template_s seconds the exporter sends a template set. -/
def execTemplateSend (die : Fin 2) : Effect :=
  onFwd fun c d => if d.templateDue c die then d.templateSend c die else d

/-- PORT_WINDOW_END (R300): A bandwidth window ends, and its counts, window_seq and peak are written. -/
def execPortWindowEnd (port : Fin 512) : Effect :=
  onFwd fun c d => d.windowEnd c port

/-- PRF_SNAP (R302): PRF_CTRL.snap copies all counters into PRF_SNAP at one edge. -/
def execPrfSnap : Effect :=
  onFwd fun _ d => d.prfSnap

/-- PRF_CLEAR (R302): PRF_CTRL.clear zeroes all counters at one edge. -/
def execPrfClear : Effect :=
  onFwd fun _ d => d.prfClear

end Sys2Proof.Machine
end

