-- ==== Sys2Proof/Machine/CmdSweep.lean ====
section
/-! DEFINITION. The commands' meanings: Sweeper microcode and live rollout (R235–R252). -/
namespace Sys2Proof.Machine

/-- SWP_NEXT (R235): Sweeper sequencer NEXT goes on to the next address. -/
def execSwpNext (die : Fin 2) (n : Fin 32) : Effect :=
  onFwd fun c d => d.swpNext c die n

/-- SWP_JUMP (R235): Sweeper sequencer JUMP goes to target. -/
def execSwpJump (die : Fin 2) (n : Fin 32) : Effect :=
  onFwd fun c d => d.swpJump c die n

/-- MWAY (R235): Sweeper MWAY branches to one of 2–16 words by condition bits. -/
def execMway (die : Fin 2) (n : Fin 32) : Effect :=
  onFwd fun c d => d.swpMway c die n

/-- SWP_BR_T (R235): Sweeper BR_T goes to target if c0 is true. -/
def execSwpBrT (die : Fin 2) (n : Fin 32) : Effect :=
  onFwd fun c d => d.swpBrT c die n

/-- CKPT (R240): Sweeper CKPT completes its memory operation and saves a checkpoint. -/
def execCkpt (die : Fin 2) (n : Fin 32) : Effect :=
  onFwd fun c d => d.swpCkpt c die n

/-- END_VISIT (R238): END_VISIT writes back the visit buffer or deletes the record, and releases the lock or tag. -/
def execEndVisit (die : Fin 2) (n : Fin 32) : Effect :=
  onFwd fun c d => d.endVisit c die n

/-- SWP_ILLEGAL (R235): Sweeper sequencer code 6 or 7 abandons the visit. -/
def execSwpIllegal (die : Fin 2) (n : Fin 32) : Effect :=
  onFwd fun c d => d.swpIllegal c die n

/-- SWP_LD (R237): Sweeper LD loads from the visit buffer, visit information or scratch. -/
def execSwpLd (die : Fin 2) (n : Fin 32) : Effect :=
  onFwd fun c d => d.swpLd c die n

/-- SWP_ST (R237): Sweeper ST stores to the visit buffer or scratch. -/
def execSwpSt (die : Fin 2) (n : Fin 32) : Effect :=
  onFwd fun _ d => d.swpSt die n

/-- PUSH (R237): Sweeper PUSH writes scratch words to a FIFO as one item, or is dropped without a credit. -/
def execPush (die : Fin 2) (n : Fin 32) : Effect :=
  onFwd fun c d => d.swpPush c die n

/-- SWP_CNT_ADD (R237): Sweeper CNT_ADD adds to a counter. -/
def execSwpCntAdd (die : Fin 2) (n : Fin 32) : Effect :=
  onFwd fun _ d => d.swpCntAdd die n

/-- SWP_UNIT (R237): Sweeper UNIT issues a unit call. -/
def execSwpUnit (die : Fin 2) (n : Fin 32) : Effect :=
  onFwd fun _ d => d.swpUnit die n

/-- SWP_TS (R237): Sweeper TS loads the current time. -/
def execSwpTs (die : Fin 2) (n : Fin 32) : Effect :=
  onFwd fun c d => d.swpTs c die n

/-- SWEEPER_MCHK (R247): A Sweeper machine check stops the Sweeper for a reload, holding its visit. -/
def execSweeperMchk (die : Fin 2) (n : Fin 32) (datapath : Bool) : Effect :=
  onFwd fun c d => d.swpMchk c die n datapath

/-- SWEEPER_RELOAD_DONE (R247): A reloaded Sweeper restarts from its last checkpoint, or is retired. -/
def execSweeperReloadDone (die : Fin 2) (n : Fin 32) (pass : Bool) : Effect :=
  onCores fun c d => d.swpReloaded c die n pass

/-- SWEEPER_PAUSE (R242): A write to SWP_CTRL.pause interrupts a Sweeper after its current word and saves its context.
-/
def execSweeperPause (die : Fin 2) (mask : BitVec 32) : Effect :=
  onFwd fun c d => (d.put F.SWP_CTRL_pause die mask.toNat).swpPause c die mask.toNat

/-- VISIT_ABANDON (R242): A paused visit not resumed within 10 µs is abandoned. -/
def execVisitAbandon (die : Fin 2) (n : Fin 32) : Effect :=
  onFwd fun c d => d.pauseAbandon c die n

/-- ROLLOUT_GO (R250): ENG_ROLL_CTRL.go fetches and checks a microcode image and starts the rollout. -/
def execRolloutGo : Effect :=
  onFwd fun c d => d.rollGo c

/-- ROLLOUT_STEP_DONE (R250): A spare, cluster or Sweeper step of the rollout completes, and the next begins or the
rollout ends. -/
def execRolloutStepDone (pass : Bool) : Effect :=
  onFwd fun c d => d.rollStep c pass

/-- ROLLOUT_ABORT (R252): ENG_ROLL_CTRL.abort stops the rollout after the step in progress. -/
def execRolloutAbort : Effect :=
  onFwd fun c d => d.rollAbort c

end Sys2Proof.Machine
end

