-- ==== Sys2Proof/Machine/CmdUnit.lean ====
section
/-! DEFINITION. The commands' meanings: Unit functions and engine repair (R226, R232, R244–R246, R262–R298, R344). -/
namespace Sys2Proof.Machine

/-- HASH64 (R275): Unit 0 HASH64 returns SipHash of 32 bytes under LBL_HASH_KEY. -/
def execHash64 (p : Issuer) : Effect :=
  onFwd fun _ d => d.unitHash p.proc

/-- PI (R275): Unit 0 PI returns π of a port. -/
def execPi (p : Issuer) : Effect :=
  onFwd fun _ d => d.unitPi p.proc false

/-- PI_INV (R275): Unit 0 PI_INV returns π^-1 of a value. -/
def execPiInv (p : Issuer) : Effect :=
  onFwd fun _ d => d.unitPi p.proc true

/-- SNAT (R262): Unit 1 SNAT reserves a translated address and bank-preserving port from a pool. -/
def execSnat (p : Issuer) : Effect :=
  onFwd fun c d => d.unitSnat c p.proc

/-- XLATE (R276): Unit 1 XLATE appends the address and port rewrites of the flow by direction. -/
def execXlate (p : Issuer) : Effect :=
  onFwd fun c d => d.unitXlate c p.proc

/-- SUB_READ (R275): Unit 1 SUB_READ returns a subscriber address. -/
def execSubRead (p : Issuer) : Effect :=
  onFwd fun _ d => d.unitSub p.proc

/-- PICK (R269): Unit 2 PICK reserves an eligible backend of a service by slot hash. -/
def execPick (p : Issuer) : Effect :=
  onFwd fun c d => d.unitPick c p.proc

/-- BACKEND_READ (R275): Unit 2 BACKEND_READ returns a backend address. -/
def execBackendRead (p : Issuer) : Effect :=
  onFwd fun _ d => d.unitBackend p.proc

/-- METER (R344): Unit 3 METER colours the packet and reserves policer tokens. -/
def execMeter (p : Issuer) : Effect :=
  onFwd fun c d => d.unitMeter c p.proc

/-- BIND (R138): Unit 4 BIND reserves a fragment binding created at COMMIT. -/
def execBind (p : Issuer) : Effect :=
  onFwd fun c d => d.unitBind c p.proc

/-- FRAG_XLATE (R138): Unit 4 XLATE appends the bound address rewrites for a later fragment. -/
def execFragXlate (p : Issuer) : Effect :=
  onFwd fun c d => d.unitFragXlate c p.proc

/-- FRAG_READ (R138): Unit 4 READ returns a live binding and its creation stamp. -/
def execFragRead (p : Issuer) : Effect :=
  onFwd fun c d => d.unitFragRead c p.proc

/-- HIST (R286): Unit 5 HIST marks the packet for a latency histogram at COMMIT. -/
def execHist (p : Issuer) : Effect :=
  onFwd fun c d => d.unitHist c p.proc

/-- IOAM (R297): Unit 5 IOAM fills the packet's IOAM trace option. -/
def execIoam (p : Issuer) : Effect :=
  onFwd fun c d => d.unitIoam c p.proc

/-- LOOKUP (R275): Unit 6 LOOKUP returns an exact-match result. -/
def execLookup (p : Issuer) : Effect :=
  onFwd fun _ d => d.unitLookup p.proc

/-- NH_READ (R275): Unit 7 READ returns a next-hop entry. -/
def execNhRead (p : Issuer) : Effect :=
  onFwd fun _ d => d.unitNhRead p.proc

/-- RESOLVE (R283): Unit 7 RESOLVE returns the unicast handle after group selection. -/
def execResolve (p : Issuer) : Effect :=
  onFwd fun c d => d.unitResolve c p.proc

/-- UNIT_RESERVED (R226): A call to reserved units 8–15 returns a status that is not OK after 1 cycle. -/
def execUnitReserved (p : Issuer) : Effect :=
  onFwd fun _ d => d.unitReserved p.proc

/-- WATCHDOG (R232): A routine that reaches its cycle limit is ended as ABORT. -/
def execWatchdog (inst : Fin 256) (engine : Fin 8) : Effect :=
  onFwd fun c d => d.watchdog c inst engine

/-- ENGINE_MCHK (R244): A machine check in an action engine discards the routine's effects and replays the packet
elsewhere. -/
def execEngineMchk (inst : Fin 256) (engine : Fin 8) (datapath : Bool) : Effect :=
  onFwd fun c d => d.engineMchk c inst engine datapath

/-- ENGINE_RETURN (R246): A W1C write to ENG_ENGINE_RETIRED returns an engine after its self-test. -/
def execEngineReturn (pipe : Fin 32) (mask : BitVec 48) : Effect :=
  onFwd fun _ d => d.engineReturn pipe mask.toNat

/-- CLUSTER_PARITY (R245): A control-store or dispatch parity error stops the cluster, and a spare stands in. -/
def execClusterParity (inst : Fin 256) : Effect :=
  onFwd fun c d => d.clusterParity c inst

/-- CLUSTER_RELOAD_DONE (R245): The reload and self-test of the cluster end, and it returns to service or is retired.
-/
def execClusterReloadDone (inst : Fin 256) (pass : Bool) : Effect :=
  onFwd fun c d => d.clusterReloaded c inst pass

end Sys2Proof.Machine
end

