-- ==== Sys2Proof/Machine/Dispatch.lean ====
section
/-! DEFINITION. One arm per command: a direct call of its meaning. -/
namespace Sys2Proof.Machine

/-- The effect of a command on everything but the queue. -/
def exec (i : Instr) (s : State) : Host.Outcome State Fault Refusal :=
  match i with
  -- Bring-up, resets and downloads (R61–R91, R437)
  | .pwrgdRise boardPos bootSrc => Sys2Proof.Machine.execPwrgdRise boardPos bootSrc s
  | .sysRstRelease boardPos bootSrc => Sys2Proof.Machine.execSysRstRelease boardPos bootSrc s
  | .pwrgdFall => Sys2Proof.Machine.execPwrgdFall s
  | .warmReset damaged => Sys2Proof.Machine.execWarmReset damaged s
  | .pcieReset flr => Sys2Proof.Machine.execPcieReset flr s
  | .pcieLinkDown => Sys2Proof.Machine.execPcieLinkDown s
  | .fuseCheckDone sound badCfg badDbg => Sys2Proof.Machine.execFuseCheckDone sound badCfg badDbg s
  | .sdtPublish => Sys2Proof.Machine.execSdtPublish s
  | .nvmReadDone answered image => Sys2Proof.Machine.execNvmReadDone answered image s
  | .imageVerifyDone => Sys2Proof.Machine.execImageVerifyDone s
  | .imageApplyDone => Sys2Proof.Machine.execImageApplyDone s
  | .relayTimeout => Sys2Proof.Machine.execRelayTimeout s
  | .bootLinkUp g => Sys2Proof.Machine.execBootLinkUp g s
  | .bootImageMessage g kind offset body => Sys2Proof.Machine.execBootImageMessage g kind offset body s
  | .hbmTrainingDone failed => Sys2Proof.Machine.execHbmTrainingDone failed s
  | .laneTrainingDone lane trained => Sys2Proof.Machine.execLaneTrainingDone lane trained s
  | .fwDownloadGo extents => Sys2Proof.Machine.execFwDownloadGo extents s
  | .cfgDownloadGo extents => Sys2Proof.Machine.execCfgDownloadGo extents s
  | .fwFetchDone relayed image => Sys2Proof.Machine.execFwFetchDone relayed image s
  | .cfgFetchDone image => Sys2Proof.Machine.execCfgFetchDone image s
  | .fwWindowTimeout => Sys2Proof.Machine.execFwWindowTimeout s
  | .generation0Live => Sys2Proof.Machine.execGeneration0Live s
  | .formationTimer => Sys2Proof.Machine.execFormationTimer s
  | .hostAbsent => Sys2Proof.Machine.execHostAbsent s
  | .hostAliveBeat => Sys2Proof.Machine.execHostAliveBeat s
  -- Register access, holds and the reference clock (R28–R54)
  | .registerWrite req addr size value => Sys2Proof.Machine.execRegisterWrite req addr size value s
  | .halfReadCapture req addr => Sys2Proof.Machine.execHalfReadCapture req addr s
  | .holdRequest block ix => Sys2Proof.Machine.execHoldRequest block ix s
  | .holdRelease block ix => Sys2Proof.Machine.execHoldRelease block ix s
  | .holdExpired block ix => Sys2Proof.Machine.execHoldExpired block ix s
  | .bar2Write => Sys2Proof.Machine.execBar2Write s
  | .bootStatusRead => Sys2Proof.Machine.execBootStatusRead s
  | .refLost => Sys2Proof.Machine.execRefLost s
  | .refRestored => Sys2Proof.Machine.execRefRestored s
  -- MACs, lanes and Peal links (R92–R116, R446)
  | .frameReceive port lane var bytes fcsOk => Sys2Proof.Machine.execFrameReceive port lane var bytes fcsOk s
  | .macControlFrame port opcode timers => Sys2Proof.Machine.execMacControlFrame port opcode timers s
  | .pauseTimerExpire port prio => Sys2Proof.Machine.execPauseTimerExpire port prio s
  | .pfcResend port => Sys2Proof.Machine.execPfcResend port s
  | .linkStateChange port remoteFault aligned => Sys2Proof.Machine.execLinkStateChange port remoteFault aligned s
  | .laneRecal lane => Sys2Proof.Machine.execLaneRecal lane s
  | .recalDone lane err temp => Sys2Proof.Machine.execRecalDone lane err temp s
  | .laneFail lane cause => Sys2Proof.Machine.execLaneFail lane cause s
  | .fecWindowEnd lane corrected uncorrected symbols => Sys2Proof.Machine.execFecWindowEnd lane corrected uncorrected symbols s
  | .laneRetryTraining lane trained => Sys2Proof.Machine.execLaneRetryTraining lane trained s
  | .pealCellReceive g lane cell good => Sys2Proof.Machine.execPealCellReceive g lane cell good s
  | .pealCellResend g => Sys2Proof.Machine.execPealCellResend g s
  | .keyEpochChange g => Sys2Proof.Machine.execKeyEpochChange g s
  | .laneSetMessage g mask spare seq => Sys2Proof.Machine.execLaneSetMessage g mask spare seq s
  | .pauseStateMessage g mask => Sys2Proof.Machine.execPauseStateMessage g mask s
  | .keyEpochMessage g epoch seq => Sys2Proof.Machine.execKeyEpochMessage g epoch seq s
  | .kx1 g peerSerial m => Sys2Proof.Machine.execKx1 g peerSerial m s
  | .kx2 g m => Sys2Proof.Machine.execKx2 g m s
  | .kx3 g m => Sys2Proof.Machine.execKx3 g m s
  | .keyingRetry g => Sys2Proof.Machine.execKeyingRetry g s
  | .packetMessage g port tc ingress colour bytes => Sys2Proof.Machine.execPacketMessage g port tc ingress colour bytes s
  -- Intake and parsing (R14–R17, R117–R140)
  | .intakeSlot pipe held => Sys2Proof.Machine.execIntakeSlot pipe held s
  | .descriptorDeal pipe => Sys2Proof.Machine.execDescriptorDeal pipe s
  | .parseDone pipe engine ecc => Sys2Proof.Machine.execParseDone pipe engine ecc s
  | .reorderRelease pipe => Sys2Proof.Machine.execReorderRelease pipe s
  | .parseEngineParity pipe engine => Sys2Proof.Machine.execParseEngineParity pipe engine s
  | .parseEngineRetire pipe mask => Sys2Proof.Machine.execParseEngineRetire pipe mask s
  | .parseEngineReturn pipe mask => Sys2Proof.Machine.execParseEngineReturn pipe mask s
  -- Classification, tables and generations (R141–R172, R511–R514)
  | .classify pipe wrong lost again ue => Sys2Proof.Machine.execClassify pipe wrong lost again ue s
  | .tcamShadowCheck pipe index differs => Sys2Proof.Machine.execTcamShadowCheck pipe index differs s
  | .throttleChange pipe => Sys2Proof.Machine.execThrottleChange pipe s
  | .tblAdd table index => Sys2Proof.Machine.execTblAdd table index s
  | .tblDelete table index => Sys2Proof.Machine.execTblDelete table index s
  | .tblWriteAt table index => Sys2Proof.Machine.execTblWriteAt table index s
  | .tblMove table index => Sys2Proof.Machine.execTblMove table index s
  | .tblRead table index => Sys2Proof.Machine.execTblRead table index s
  | .tblLocate table index => Sys2Proof.Machine.execTblLocate table index s
  | .tcamHoleRestore pipe => Sys2Proof.Machine.execTcamHoleRestore pipe s
  | .genCommit => Sys2Proof.Machine.execGenCommit s
  | .genAbort => Sys2Proof.Machine.execGenAbort s
  | .stagePrepareDone => Sys2Proof.Machine.execStagePrepareDone s
  | .genDrained => Sys2Proof.Machine.execGenDrained s
  | .packetLifetime pkt => Sys2Proof.Machine.execPacketLifetime pkt s
  | .egressReorderRelease pkt copy => Sys2Proof.Machine.execEgressReorderRelease pkt copy s
  -- The flow table (R190–R214)
  | .hearthRequest pkt busy => Sys2Proof.Machine.execHearthRequest pkt busy s
  | .missFill pkt hbm => Sys2Proof.Machine.execMissFill pkt hbm s
  | .fillWayRetry pkt hbm => Sys2Proof.Machine.execFillWayRetry pkt hbm s
  | .bankQueueEnter bank => Sys2Proof.Machine.execBankQueueEnter bank s
  | .hbmWriteAck die record => Sys2Proof.Machine.execHbmWriteAck die record s
  | .hostPendingTimeout die => Sys2Proof.Machine.execHostPendingTimeout die s
  | .flowInsert die release body => Sys2Proof.Machine.execFlowInsert die release body s
  | .flowUpdate die body => Sys2Proof.Machine.execFlowUpdate die body s
  | .flowDelete die key => Sys2Proof.Machine.execFlowDelete die key s
  | .flowRead die result key => Sys2Proof.Machine.execFlowRead die result key s
  | .flowBadOp die => Sys2Proof.Machine.execFlowBadOp die s
  | .hbmEvacStart die channel => Sys2Proof.Machine.execHbmEvacStart die channel s
  | .evacDone die => Sys2Proof.Machine.execEvacDone die s
  | .channelRetrainDone die pass => Sys2Proof.Machine.execChannelRetrainDone die pass s
  | .bankRetire die => Sys2Proof.Machine.execBankRetire die s
  | .bankControlParity bank => Sys2Proof.Machine.execBankControlParity bank s
  | .bankCopyDone bank => Sys2Proof.Machine.execBankCopyDone bank s
  | .sweeperVisit die n corrected => Sys2Proof.Machine.execSweeperVisit die n corrected s
  | .sweeperScanEnd die bad => Sys2Proof.Machine.execSweeperScanEnd die bad s
  | .visitSlow die n => Sys2Proof.Machine.execVisitSlow die n s
  -- Action microcode: dispatch, sequencer, ALU and memory slots (R218–R232, R285)
  | .engineDispatch pipe => Sys2Proof.Machine.execEngineDispatch pipe s
  | .next inst engine => Sys2Proof.Machine.execNext inst engine s
  | .jump inst engine => Sys2Proof.Machine.execJump inst engine s
  | .brT inst engine => Sys2Proof.Machine.execBrT inst engine s
  | .brF inst engine => Sys2Proof.Machine.execBrF inst engine s
  | .commit inst engine => Sys2Proof.Machine.execCommit inst engine s
  | .abort inst engine => Sys2Proof.Machine.execAbort inst engine s
  | .illegalSeq inst engine => Sys2Proof.Machine.execIllegalSeq inst engine s
  | .nop p => Sys2Proof.Machine.execNop p s
  | .add p => Sys2Proof.Machine.execAdd p s
  | .sub p => Sys2Proof.Machine.execSub p s
  | .and p => Sys2Proof.Machine.execAnd p s
  | .or p => Sys2Proof.Machine.execOr p s
  | .xor p => Sys2Proof.Machine.execXor p s
  | .shl p => Sys2Proof.Machine.execShl p s
  | .shr p => Sys2Proof.Machine.execShr p s
  | .sar p => Sys2Proof.Machine.execSar p s
  | .mov p => Sys2Proof.Machine.execMov p s
  | .cmp p => Sys2Proof.Machine.execCmp p s
  | .min p => Sys2Proof.Machine.execMin p s
  | .max p => Sys2Proof.Machine.execMax p s
  | .csum p => Sys2Proof.Machine.execCsum p s
  | .bswap p => Sys2Proof.Machine.execBswap p s
  | .tsdiff p => Sys2Proof.Machine.execTsdiff p s
  | .ld inst engine => Sys2Proof.Machine.execLd inst engine s
  | .ldn inst engine => Sys2Proof.Machine.execLdn inst engine s
  | .st inst engine => Sys2Proof.Machine.execSt inst engine s
  | .editRw inst engine => Sys2Proof.Machine.execEditRw inst engine s
  | .editOp inst engine => Sys2Proof.Machine.execEditOp inst engine s
  | .cntAdd inst engine => Sys2Proof.Machine.execCntAdd inst engine s
  | .unit inst engine => Sys2Proof.Machine.execUnit inst engine s
  | .ts inst engine => Sys2Proof.Machine.execTs inst engine s
  | .illegalMem inst engine => Sys2Proof.Machine.execIllegalMem inst engine s
  | .unitResult p call => Sys2Proof.Machine.execUnitResult p call s
  -- Unit functions and engine repair (R226, R232, R244–R246, R262–R298, R344)
  | .hash64 p => Sys2Proof.Machine.execHash64 p s
  | .pi p => Sys2Proof.Machine.execPi p s
  | .piInv p => Sys2Proof.Machine.execPiInv p s
  | .snat p => Sys2Proof.Machine.execSnat p s
  | .xlate p => Sys2Proof.Machine.execXlate p s
  | .subRead p => Sys2Proof.Machine.execSubRead p s
  | .pick p => Sys2Proof.Machine.execPick p s
  | .backendRead p => Sys2Proof.Machine.execBackendRead p s
  | .meter p => Sys2Proof.Machine.execMeter p s
  | .bind p => Sys2Proof.Machine.execBind p s
  | .fragXlate p => Sys2Proof.Machine.execFragXlate p s
  | .fragRead p => Sys2Proof.Machine.execFragRead p s
  | .hist p => Sys2Proof.Machine.execHist p s
  | .ioam p => Sys2Proof.Machine.execIoam p s
  | .lookup p => Sys2Proof.Machine.execLookup p s
  | .nhRead p => Sys2Proof.Machine.execNhRead p s
  | .resolve p => Sys2Proof.Machine.execResolve p s
  | .unitReserved p => Sys2Proof.Machine.execUnitReserved p s
  | .watchdog inst engine => Sys2Proof.Machine.execWatchdog inst engine s
  | .engineMchk inst engine datapath => Sys2Proof.Machine.execEngineMchk inst engine datapath s
  | .engineReturn pipe mask => Sys2Proof.Machine.execEngineReturn pipe mask s
  | .clusterParity inst => Sys2Proof.Machine.execClusterParity inst s
  | .clusterReloadDone inst pass => Sys2Proof.Machine.execClusterReloadDone inst pass s
  -- Sweeper microcode and live rollout (R235–R252)
  | .swpNext die n => Sys2Proof.Machine.execSwpNext die n s
  | .swpJump die n => Sys2Proof.Machine.execSwpJump die n s
  | .mway die n => Sys2Proof.Machine.execMway die n s
  | .swpBrT die n => Sys2Proof.Machine.execSwpBrT die n s
  | .ckpt die n => Sys2Proof.Machine.execCkpt die n s
  | .endVisit die n => Sys2Proof.Machine.execEndVisit die n s
  | .swpIllegal die n => Sys2Proof.Machine.execSwpIllegal die n s
  | .swpLd die n => Sys2Proof.Machine.execSwpLd die n s
  | .swpSt die n => Sys2Proof.Machine.execSwpSt die n s
  | .push die n => Sys2Proof.Machine.execPush die n s
  | .swpCntAdd die n => Sys2Proof.Machine.execSwpCntAdd die n s
  | .swpUnit die n => Sys2Proof.Machine.execSwpUnit die n s
  | .swpTs die n => Sys2Proof.Machine.execSwpTs die n s
  | .sweeperMchk die n datapath => Sys2Proof.Machine.execSweeperMchk die n datapath s
  | .sweeperReloadDone die n pass => Sys2Proof.Machine.execSweeperReloadDone die n pass s
  | .sweeperPause die mask => Sys2Proof.Machine.execSweeperPause die mask s
  | .visitAbandon die n => Sys2Proof.Machine.execVisitAbandon die n s
  | .rolloutGo => Sys2Proof.Machine.execRolloutGo s
  | .rolloutStepDone pass => Sys2Proof.Machine.execRolloutStepDone pass s
  | .rolloutAbort => Sys2Proof.Machine.execRolloutAbort s
  -- Translation, balancing, export and profiling (R136, R264–R302)
  | .portQuarantineRelease die => Sys2Proof.Machine.execPortQuarantineRelease die s
  | .rebuildGo service => Sys2Proof.Machine.execRebuildGo service s
  | .rebuildDone => Sys2Proof.Machine.execRebuildDone s
  | .probeSend backend => Sys2Proof.Machine.execProbeSend backend s
  | .probeReply backend => Sys2Proof.Machine.execProbeReply backend s
  | .probeTimeout backend => Sys2Proof.Machine.execProbeTimeout backend s
  | .fragBindingExpire die => Sys2Proof.Machine.execFragBindingExpire die s
  | .exportMessageAge die => Sys2Proof.Machine.execExportMessageAge die s
  | .templateSend die => Sys2Proof.Machine.execTemplateSend die s
  | .portWindowEnd port => Sys2Proof.Machine.execPortWindowEnd port s
  | .prfSnap => Sys2Proof.Machine.execPrfSnap s
  | .prfClear => Sys2Proof.Machine.execPrfClear s
  -- Packet buffer, FIFOs, scheduling and gates (R314–R359)
  | .segmentRequest die requester pool => Sys2Proof.Machine.execSegmentRequest die requester pool s
  | .segmentRetry n => Sys2Proof.Machine.execSegmentRetry n s
  | .segmentFree handle requester => Sys2Proof.Machine.execSegmentFree handle requester s
  | .fifoWrite fifo slot data endBit len => Sys2Proof.Machine.execFifoWrite fifo slot data endBit len s
  | .fifoRead fifo parity => Sys2Proof.Machine.execFifoRead fifo parity s
  | .fifoIdleTimeout fifo => Sys2Proof.Machine.execFifoIdleTimeout fifo s
  | .fifoFlush fifo => Sys2Proof.Machine.execFifoFlush fifo s
  | .flushDone fifo => Sys2Proof.Machine.execFlushDone fifo s
  | .producerStall fifo => Sys2Proof.Machine.execProducerStall fifo s
  | .dequeue port lane ahead var rd => Sys2Proof.Machine.execDequeue port lane ahead var rd s
  | .egressCapture port => Sys2Proof.Machine.execEgressCapture port s
  | .gateGo port => Sys2Proof.Machine.execGateGo port s
  | .gateAbort port => Sys2Proof.Machine.execGateAbort port s
  | .gateDisable port => Sys2Proof.Machine.execGateDisable port s
  | .gateBoundary port => Sys2Proof.Machine.execGateBoundary port s
  | .gateTakeover port => Sys2Proof.Machine.execGateTakeover port s
  -- Local time (R368–R380)
  | .stepGo => Sys2Proof.Machine.execStepGo s
  | .setGo => Sys2Proof.Machine.execSetGo s
  | .slewGo => Sys2Proof.Machine.execSlewGo s
  | .slewAbort => Sys2Proof.Machine.execSlewAbort s
  | .slewDone => Sys2Proof.Machine.execSlewDone s
  | .txqPop => Sys2Proof.Machine.execTxqPop s
  | .ppsInEdge => Sys2Proof.Machine.execPpsInEdge s
  | .ppsInLost => Sys2Proof.Machine.execPpsInLost s
  | .sourceLost => Sys2Proof.Machine.execSourceLost s
  | .timeRequest => Sys2Proof.Machine.execTimeRequest s
  | .timeRequestReceive g seq => Sys2Proof.Machine.execTimeRequestReceive g seq s
  | .timeResponse g seq t2 t3 => Sys2Proof.Machine.execTimeResponse g seq t2 t3 s
  | .pealTimeLost => Sys2Proof.Machine.execPealTimeLost s
  | .ledgerRecord info => Sys2Proof.Machine.execLedgerRecord info s
  | .servoLocked => Sys2Proof.Machine.execServoLocked s
  | .temperatureTermUpdate => Sys2Proof.Machine.execTemperatureTermUpdate s
  | .ppsOutRise => Sys2Proof.Machine.execPpsOutRise s
  | .ppsOutFall => Sys2Proof.Machine.execPpsOutFall s
  | .clk10mMeasure m => Sys2Proof.Machine.execClk10mMeasure m s
  -- Toll, Ember, Kindling and distribution (R386–R414)
  | .tollSend => Sys2Proof.Machine.execTollSend s
  | .tollReceive g pos seq info => Sys2Proof.Machine.execTollReceive g pos seq info s
  | .tollIntervalEnd => Sys2Proof.Machine.execTollIntervalEnd s
  | .emberInsert g die seq image => Sys2Proof.Machine.execEmberInsert g die seq image s
  | .emberUpdate g die seq body => Sys2Proof.Machine.execEmberUpdate g die seq body s
  | .emberHostUpdate g die seq image => Sys2Proof.Machine.execEmberHostUpdate g die seq image s
  | .emberDelete g die seq body => Sys2Proof.Machine.execEmberDelete g die seq body s
  | .emberCounter g die seq body => Sys2Proof.Machine.execEmberCounter g die seq body s
  | .emberTouch g die seq body => Sys2Proof.Machine.execEmberTouch g die seq body s
  | .emberAck g die seq => Sys2Proof.Machine.execEmberAck g die seq s
  | .syncTimeout die => Sys2Proof.Machine.execSyncTimeout die s
  | .counterWalk die => Sys2Proof.Machine.execCounterWalk die s
  | .emberUp die key => Sys2Proof.Machine.execEmberUp die key s
  | .backlogDrained die => Sys2Proof.Machine.execBacklogDrained die s
  | .kindlingImage g die mode count body key => Sys2Proof.Machine.execKindlingImage g die mode count body key s
  | .kindleDone => Sys2Proof.Machine.execKindleDone s
  | .kindleMerge => Sys2Proof.Machine.execKindleMerge s
  | .kindleHostDone => Sys2Proof.Machine.execKindleHostDone s
  | .distWrite32 g tag offset value => Sys2Proof.Machine.execDistWrite32 g tag offset value s
  | .distWrite64 g tag offset value => Sys2Proof.Machine.execDistWrite64 g tag offset value s
  | .distWrite64At g tag offset value due => Sys2Proof.Machine.execDistWrite64At g tag offset value due s
  | .distWriteAtExecute => Sys2Proof.Machine.execDistWriteAtExecute s
  | .distDigestList g tag => Sys2Proof.Machine.execDistDigestList g tag s
  | .distResult g tag refused => Sys2Proof.Machine.execDistResult g tag refused s
  | .distSilent pos => Sys2Proof.Machine.execDistSilent pos s
  | .digestDiverge pos theirs => Sys2Proof.Machine.execDigestDiverge pos theirs s
  -- The host interface (R417–R433, R484)
  | .rxDoorbell ring tail buffers => Sys2Proof.Machine.execRxDoorbell ring tail buffers s
  | .txDoorbell ring tail => Sys2Proof.Machine.execTxDoorbell ring tail s
  | .txDirect ring desc => Sys2Proof.Machine.execTxDirect ring desc s
  | .txInject ring desc => Sys2Proof.Machine.execTxInject ring desc s
  | .msixFire kind n => Sys2Proof.Machine.execMsixFire kind n s
  | .fetchError kind n frame => Sys2Proof.Machine.execFetchError kind n frame s
  | .modeMove function host => Sys2Proof.Machine.execModeMove function host s
  | .modeMoveDone => Sys2Proof.Machine.execModeMoveDone s
  | .eventRingEnable ring => Sys2Proof.Machine.execEventRingEnable ring s
  | .pcieLinkUp => Sys2Proof.Machine.execPcieLinkUp s
  | .d3hotTransition on => Sys2Proof.Machine.execD3hotTransition on s
  -- Trust, identity, debug and JTAG (R439–R457)
  | .debugToken req length => Sys2Proof.Machine.execDebugToken req length s
  | .storeClearDone => Sys2Proof.Machine.execStoreClearDone s
  | .fuseRequest req length => Sys2Proof.Machine.execFuseRequest req length s
  | .fuseProgramDone verified => Sys2Proof.Machine.execFuseProgramDone verified s
  | .quote req => Sys2Proof.Machine.execQuote req s
  | .newChallenge req => Sys2Proof.Machine.execNewChallenge req s
  | .epochCommit req => Sys2Proof.Machine.execEpochCommit req s
  | .challengeLapse => Sys2Proof.Machine.execChallengeLapse s
  | .ladderReady => Sys2Proof.Machine.execLadderReady s
  | .bypass => Sys2Proof.Machine.execBypass s
  | .idcode => Sys2Proof.Machine.execIdcode s
  | .samplePreload => Sys2Proof.Machine.execSamplePreload s
  | .extest => Sys2Proof.Machine.execExtest s
  | .clamp => Sys2Proof.Machine.execClamp s
  | .highz => Sys2Proof.Machine.execHighz s
  | .extestPulse => Sys2Proof.Machine.execExtestPulse s
  | .extestTrain => Sys2Proof.Machine.execExtestTrain s
  | .secacc write addr size value => Sys2Proof.Machine.execSecacc write addr size value s
  | .regacc write addr size value => Sys2Proof.Machine.execRegacc write addr size value s
  -- Scrubbing, repair, cores and live swap (R461–R475)
  | .scrubRead at_ result last => Sys2Proof.Machine.execScrubRead at_ result last s
  | .ceWindowEnd die channel => Sys2Proof.Machine.execCeWindowEnd die channel s
  | .channelLost own die channel regions records => Sys2Proof.Machine.execChannelLost own die channel regions records s
  | .quarReleaseRequest die record => Sys2Proof.Machine.execQuarReleaseRequest die record s
  | .coreMachineCheck core ue => Sys2Proof.Machine.execCoreMachineCheck core ue s
  | .coreHeartbeatMiss core => Sys2Proof.Machine.execCoreHeartbeatMiss core s
  | .coreReturn pass => Sys2Proof.Machine.execCoreReturn pass s
  | .swapGo => Sys2Proof.Machine.execSwapGo s
  | .swapVerifyDone image => Sys2Proof.Machine.execSwapVerifyDone image s
  | .swapRevert => Sys2Proof.Machine.execSwapRevert s
  | .swapAutoRevert => Sys2Proof.Machine.execSwapAutoRevert s
  | .rolloutFetchDone image => Sys2Proof.Machine.execRolloutFetchDone image s
  -- Power, thermal protection and the sideband (R482–R502)
  | .avsCommand rail want ack => Sys2Proof.Machine.execAvsCommand rail want ack s
  | .marginFail rail => Sys2Proof.Machine.execMarginFail rail s
  | .sensorReading sensor value => Sys2Proof.Machine.execSensorReading sensor value s
  | .analogTrip die => Sys2Proof.Machine.execAnalogTrip die s
  | .pwrFault => Sys2Proof.Machine.execPwrFault s
  | .coolantFault => Sys2Proof.Machine.execCoolantFault s
  | .tripRampDone => Sys2Proof.Machine.execTripRampDone s
  | .damperRequest rail step amps ballast => Sys2Proof.Machine.execDamperRequest rail step amps ballast s
  | .damperGrant rail amps ballast => Sys2Proof.Machine.execDamperGrant rail amps ballast s
  | .damperDefer rail => Sys2Proof.Machine.execDamperDefer rail s
  | .sbStatus => Sys2Proof.Machine.execSbStatus s
  | .sbRead addr => Sys2Proof.Machine.execSbRead addr s
  | .sbWrite addr value => Sys2Proof.Machine.execSbWrite addr value s

end Sys2Proof.Machine
end

