-- ==== Sys2Proof/Machine/Step.lean ====
section
/-! DEFINITION. One step of the block: the command at the front of the queue, or one CLK_TIME edge. -/
namespace Sys2Proof.Machine

/-- One CLK_TIME edge with no command waiting: the local clock advances (R355), and registers of the slow domain take
shadows that are due (R46), and the performance events counted per CLK_CORE cycle count (R301). -/
def idle (s : State) : State :=
  let t := tickClock s
  { t with dev := (t.dev.slowDue t.clk).prfCycles (t.clk.core - s.clk.core) }

/-- One step. -/
def step (s : State) : Host.Outcome State Fault Refusal :=
  match s.pending with
  | [] => .next (idle s)
  | i :: rest => exec i { s with pending := rest }

/-- The state with the command a word spells at the front of its queue; no word spells one. -/
def State.withFetchWord (s : State) (nbits w : Nat) : State :=
  match decodeTableWord nbits w with
  | some i => { s with pending := i :: s.pending }
  | none => s

end Sys2Proof.Machine
end

