-- ==== Sys2Proof/Safety.lean ====
section
/-! DEFINITION. What counts as a safe state, and what a command does and leaves alone. -/
namespace Sys2Proof.Machine

/-- The local clock's fields lie in their ranges (R355, R357): nanoseconds below one second, the fraction in 48 bits, the
seconds in 48 bits; what the edges' 0.8 ns leave over is counted in fifths of the fraction's unit. -/
def Clock.wf (c : Clock) : Prop := c.ns < 1000000000 ∧ c.frac < 2 ^ 48 ∧ c.sec < 2 ^ 48 ∧ c.fifth < 5

/-- The commands that may set the clock: the two that end in a cold reset, the adjustments of R370, and writes that may reach
TIM_ADJ_CTRL (R47, R413, R457). -/
def setsClock : Instr → Bool
  | .pwrgdRise _ _ | .sysRstRelease _ _ | .stepGo | .setGo | .slewGo | .slewAbort | .slewDone | .registerWrite _ _ _ _
  | .distWrite32 _ _ _ _ | .distWrite64 _ _ _ _ | .distWriteAtExecute | .regacc _ _ _ _ => true
  | _ => false

/-- The parts of the device beside its register file. -/
inductive Part where
  | tbls | acc | evt | msix | tim | net | bpm | fifos | sch | host | pkts | nextPkt | pipes | cls | tel | flw | twn | eng
  | swp | nat | roll | fuse | boot | sec | rel | pwr | dist | out | draws
  deriving DecidableEq, Repr

/-- A part is the same in two devices. -/
def Part.same (d e : Dev) : Part → Prop
  | .tbls => e.tbls = d.tbls
  | .acc => e.acc = d.acc
  | .evt => e.evt = d.evt
  | .msix => e.msix = d.msix
  | .tim => e.tim = d.tim
  | .net => e.net = d.net
  | .bpm => e.bpm = d.bpm
  | .fifos => e.fifos = d.fifos
  | .sch => e.sch = d.sch
  | .host => e.host = d.host
  | .pkts => e.pkts = d.pkts
  | .nextPkt => e.nextPkt = d.nextPkt
  | .pipes => e.pipes = d.pipes
  | .cls => e.cls = d.cls
  | .tel => e.tel = d.tel
  | .flw => e.flw = d.flw
  | .twn => e.twn = d.twn
  | .eng => e.eng = d.eng
  | .swp => e.swp = d.swp
  | .nat => e.nat = d.nat
  | .roll => e.roll = d.roll
  | .fuse => e.fuse = d.fuse
  | .boot => e.boot = d.boot
  | .sec => e.sec = d.sec
  | .rel => e.rel = d.rel
  | .pwr => e.pwr = d.pwr
  | .dist => e.dist = d.dist
  | .out => e.out = d.out
  | .draws => e.draws = d.draws

/-- Every part outside the list is the same. -/
def Dev.KeepsParts (d e : Dev) (ps : List Part) : Prop := ∀ p, p ∉ ps → p.same d e

/-- The parts the raising of an event changes beside the event registers (R431, R433). -/
def evtParts : List Part := [.evt, .msix, .out]

/-- Every field of every register copy reads as before, but for fields that share a bit with a listed one, and, where
events may be raised, the fields of the event registers. -/
def Dev.KeepsFields (d e : Dev) (events : Bool) (fs : List (Fld × Nat)) : Prop :=
  ∀ g ix, g.fits = true → (events = true → g.reg ∉ evtRegs) →
    (∀ p ∈ fs, g.reg = p.1.reg → ix = p.2 → g.apart p.1 = true) → e.fld g ix = d.fld g ix

/-- The command answers a next state in which the queue and the clock are as before and the device is as `P` says. -/
def Runs (i : Instr) (s : State) (P : Dev → Prop) : Prop := ∃ d, exec i s = .next { s with dev := d } ∧ P d

/-- The command answers a next state that differs from `s` in the listed parts of the device and the listed fields of its
registers alone (and, where `.evt` is listed, in the event registers), and is as `P` says. -/
def Does (i : Instr) (s : State) (ps : List Part) (fs : List (Fld × Nat)) (P : Dev → Prop) : Prop :=
  Runs i s fun d => s.dev.KeepsParts d ps ∧ s.dev.KeepsFields d (ps.contains .evt) fs ∧ P d

end Sys2Proof.Machine
end

