-- ==== Sys2Proof/Certificates/Slice0/Obligations.lean ====
section
/-! DEFINITION. The statements for the provers. Each names the rules of the spec it is taken from and the entries of the
assumption log that it rests on. -/
open Sys2Proof Sys2Proof.Machine

/-- A step takes the command at the front of the queue and is exec of it on the state with the rest of the queue. With an
empty queue the block answers a next state in which one CLK_TIME edge has passed (the model's choice, log entry 1). -/
def Obligations.FrontOfQueueRuns : Prop :=
  ∀ (s : State) (c : Instr) (rest : List Instr),
    step { s with pending := c :: rest } = exec c { s with pending := rest } ∧
    ∃ t, step { s with pending := [] } = .next t ∧ t.pending = [] ∧ t.clk.phys = s.clk.phys + 1


/-- After reset no command waits, the clock's fields lie in their ranges, no packet is in the device, no table lists an
entry, the boot phase is 0 and every register reads its reset value (the value the spec gives, or zero where it gives
none: log entry 4). -/
def Obligations.ResetLeavesEmptyQueue : Prop :=
  State.reset.pending = [] ∧ State.reset.clk.wf ∧ State.reset.dev.pkts = ⟨[]⟩ ∧ State.reset.dev.tbls = ⟨[]⟩ ∧
    State.reset.dev.fld F.BOOT_STATUS_phase = 0 ∧ ∀ r ix, State.reset.dev.reg r ix = r.resetOf ix


/-- Every command answers a next state for every operand and every state: no fault and no refusal. It leaves the queue as
it was, and it leaves the clock as it was unless it is one of the commands that may set it: a cold reset, an
adjustment of R370, or a write that may reach TIM_ADJ_CTRL. That a command whose event cannot occur in a state changes
nothing there is the model's choice (log entry 2). -/
def Obligations.EveryCommandAnswersNext : Prop :=
  ∀ (i : Instr) (s : State), ∃ t, exec i s = .next t ∧ t.pending = s.pending ∧ (setsClock i = false → t.clk = s.clk)


/-- For every state whose clock has its nanoseconds below one second, its fraction and its seconds in 48 bits and fewer
than five fifths of the fraction's unit left over (log entry 3), a step that answers a next state leaves the clock so,
whichever command it runs, and adds no command to the queue. -/
def Obligations.StepKeepsClockInRange : Prop :=
  ∀ s t : State, s.clk.wf → step s = .next t → t.clk.wf ∧
    t.pending.length ≤ s.pending.length


/-- R457: while scope bit 3 is open, REGACC writes as requester 10 does and reads what requester 10 reads; in any other
state a read answers zero, a write is ignored, and the access is recorded in GLB_LOCK_CAPTURE with type 2 while the
violation captured first stays and is counted. The Ember stream's own rules follow every access (emberReroute). -/
def Obligations.RegaccNeedsItsScopeBit : Prop :=
  ∀ (s : State) (addr : BitVec 27) (size : Fin 16) (value : Word), let j := s.dev.jtagSelect 9
    (bitOf (s.dev.fld F.SEC_STATUS_scope) 3 = true →
      exec (.regacc true addr size value) s = exec (.registerWrite 10 addr size value) { s with dev := j } ∧
      ∃ e : Dev, exec (.regacc false addr size value) s = .next { s with dev := e.emberReroute s.dev s.clk } ∧
        (j.read s.clk 10 addr.toNat size).1.KeepsParts e [.out] ∧ e.fld = (j.read s.clk 10 addr.toNat size).1.fld ∧
        e.out = (j.read s.clk 10 addr.toNat size).1.out ++
          (match (j.read s.clk 10 addr.toNat size).2 with | some v => [.readData 10 v] | none => [])) ∧
    (bitOf (s.dev.fld F.SEC_STATUS_scope) 3 = false → ∀ write : Bool,
      ∃ e : Dev, exec (.regacc write addr size value) s = .next { s with dev := e.emberReroute s.dev s.clk } ∧
        j.KeepsParts e [.out] ∧ e.out = s.dev.out ++ (if write then [] else [.readData 10 0]) ∧
        j.KeepsFields e false [(F.GLB_LOCK_CAPTURE_valid, 0), (F.GLB_LOCK_CAPTURE_type, 0),
          (F.GLB_LOCK_CAPTURE_requester, 0), (F.GLB_LOCK_CAPTURE_address, 0), (F.GLB_LOCK_CAPTURE_count, 0)] ∧
        (s.dev.fld F.GLB_LOCK_CAPTURE_valid = 0 → e.fld F.GLB_LOCK_CAPTURE_valid = 1 ∧
          e.fld F.GLB_LOCK_CAPTURE_type = 2 ∧ e.fld F.GLB_LOCK_CAPTURE_requester = 10 ∧
          e.fld F.GLB_LOCK_CAPTURE_address = addr.toNat ∧ e.fld F.GLB_LOCK_CAPTURE_count = 1) ∧
        (s.dev.fld F.GLB_LOCK_CAPTURE_valid = 1 → e.fld F.GLB_LOCK_CAPTURE_valid = 1 ∧
          e.fld F.GLB_LOCK_CAPTURE_type = s.dev.fld F.GLB_LOCK_CAPTURE_type ∧
          e.fld F.GLB_LOCK_CAPTURE_count = min (s.dev.fld F.GLB_LOCK_CAPTURE_count + 1) 0xFFFF))


/-- R396: when the oldest held packet of a die has waited TWN_SYNC_CTRL.timeout_us (in its range of 10 to 10,000 µs),
EV_TWN_SYNC_TIMEOUT is raised, the stream is down with EV_TWN_EMBER_DOWN, and no packet of the die stays held; before
that, nothing changes. -/
def Obligations.SyncTimeoutTakesEmberDown : Prop :=
  ∀ (s : State) (die : Fin 2), s.dev.forwards = true → ∀ h rest, s.dev.heldOf die (fun _ => true) = h :: rest →
    (edgesUs (min (max (s.dev.fld F.TWN_SYNC_CTRL_timeout_us) 10) 10000) ≤ s.clk.phys - h.since →
      s.dev.emberUp die = true →
      Runs (.syncTimeout die) s (fun d => d.evtPending Ev.TWN_SYNC_TIMEOUT.code = true ∧
        d.evtPending Ev.TWN_EMBER_DOWN.code = true ∧ d.emberUp die = false ∧ d.heldOf die (fun _ => true) = [])) ∧
    (s.clk.phys - h.since < edgesUs (min (max (s.dev.fld F.TWN_SYNC_CTRL_timeout_us) 10) 10000) →
      exec (.syncTimeout die) s = .next s)


/-- R114: the failure of a lane of a port takes the port's link down; training is retried 1,000 ms after the failure and
after each failed retry while the port is enabled, until the lane trains; a lane that is not failed, whose port is
disabled or whose time has not come is not retried. The Ember stream's own rules follow each change of a lane
(emberReroute). -/
def Obligations.FailedLaneTakesItsPortDown : Prop :=
  ∀ (s : State) (n : Fin 512) (p : Nat), s.dev.forwards = true → s.dev.pealLane n = false →
    s.dev.portOfLane n = some p →
    (∀ cause, s.dev.laneState n = 2 → s.dev.fld F.MAC_PORT_STATUS_link_up p = 1 →
      ∃ e : Dev, exec (.laneFail n cause) s = .next { s with dev := e.emberReroute s.dev s.clk } ∧ e.laneState n = 4 ∧
        e.fld F.MAC_PORT_STATUS_link_up p = 0 ∧ e.evtPending Ev.LANE_FAILED.code = true ∧
        e.evtPending Ev.MAC_LINK_DOWN.code = true ∧ (e.lane n).failedAt = s.clk.phys) ∧
    (s.dev.laneState n = 4 → s.dev.fld F.MAC_PORT_CFG_enable p = 1 → (s.dev.lane n).failedAt + edgesMs 1000 ≤ s.clk.phys →
      (∃ e : Dev, exec (.laneRetryTraining n true) s = .next { s with dev := e.emberReroute s.dev s.clk } ∧ e.laneState n = 2) ∧
      ∃ e : Dev, exec (.laneRetryTraining n false) s = .next { s with dev := e.emberReroute s.dev s.clk } ∧
        e.laneState n = 4 ∧ (e.lane n).failedAt = s.clk.phys) ∧
    (∀ trained, s.dev.laneState n ≠ 4 ∨ s.dev.fld F.MAC_PORT_CFG_enable p = 0 ∨
        s.clk.phys < (s.dev.lane n).failedAt + edgesMs 1000 →
      exec (.laneRetryTraining n trained) s = .next { s with dev := s.dev.emberReroute s.dev s.clk })


/-- R33: a write to the SDT header or body by any requester, of 32 or 64 bits, changes nothing but the event it raises,
EV_SDT_WRITE; a read of 32 or 64 bits by any requester answers and leaves the device as it was. The Ember stream's own
rules follow the write (emberReroute). -/
def Obligations.SdtIsReadOnly : Prop :=
  ∀ (s : State) (addr : BitVec 27), addr.toNat < 0x80 ∨ 0x4000000 ≤ addr.toNat ∧ addr.toNat < 0x4400000 →
    (∀ req : Fin 13, ∀ size : Fin 16, accessOk addr.toNat size = true →
      (∀ value, ∃ e : Dev, exec (.registerWrite req addr size value) s = .next { s with dev := e.emberReroute s.dev s.clk } ∧
        s.dev.KeepsParts e evtParts ∧ s.dev.KeepsFields e true [] ∧ e.evtPending Ev.SDT_WRITE.code = true) ∧
      ∃ v, s.dev.read s.clk req addr.toNat size = (s.dev, some v)) ∧
    (∀ req, addr.toNat % 4 = 0 → ∃ v, exec (.halfReadCapture req addr) s =
      .next { s with dev := { s.dev with out := s.dev.out ++ [.readData req.val v] } })


/-- From R61. A cold reset, by power good or by release of SYS_RST_N, restarts the device at phase 0 with every register
at its reset value but the sampled straps and the entry time of phase 0; the fuses stay. Choices of the model in it:
log entry 4. -/
def Obligations.ColdResetRestoresEveryRegister : Prop :=
  ∀ (s : State) (pos : Fin 4) (src : Bool), ∀ i ∈ [Instr.pwrgdRise pos src, Instr.sysRstRelease pos src],
    ∃ t, exec i s = .next t ∧ t.pending = s.pending ∧ t.clk = Clock.zero ∧ t.dev.fuse = s.dev.fuse ∧
      t.dev.fld F.BOOT_STATUS_phase = 0 ∧ t.dev.fld F.BOOT_STRAPS_board_pos = pos ∧
      t.dev.flag F.BOOT_STRAPS_boot_src = src ∧ t.dev.pkts = ⟨[]⟩ ∧ t.dev.tbls = ⟨[]⟩ ∧
      ∀ r ix, r ≠ .BOOT_STRAPS → r ≠ .BOOT_PHASE_TIME → t.dev.reg r ix = r.resetOf ix


/-- From R32, R69, R70, R71, R73, R74, R104, R437. The steps of the boot ROM from phase 0 to phase 2, and the two ways
into failure. Boot links, images over them, HBM training and lane training. Choices of the model in it: log entries
65, 67, 68. -/
def Obligations.BootRomAndLinks : Prop :=
  (∀ s : State,
      (∀ badCfg badDbg, s.dev.fld F.BOOT_STATUS_phase = 0 →
        Runs (.fuseCheckDone true badCfg badDbg) s (fun d => d.fld F.BOOT_STATUS_phase = 1) ∧
        Runs (.fuseCheckDone false badCfg badDbg) s (fun d =>
          d.fld F.BOOT_STATUS_phase = 9 ∧ d.fld F.BOOT_STATUS_error = 1 ∧ d.evtPending Ev.SEC_FUSE_FAULT.code = true)) ∧
      (s.dev.fld F.BOOT_STATUS_phase = 1 → s.dev.boot.published = false → s.dev.fld F.BOOT_STRAPS_boot_src = 0 →
        s.dev.fld F.BOOT_STRAPS_board_pos = 0 →
        Does .sdtPublish s [.boot, .out] [] (fun d =>
          d.boot.published = true ∧ d.out = s.dev.out ++ [.nvmRead 0 0] ∧ d.boot.publishedAt = s.clk.phys)) ∧
      (∀ answered image, s.dev.fld F.BOOT_STATUS_phase = 1 → s.dev.boot.published = true → s.dev.boot.nvmDone = false →
        s.dev.fld F.BOOT_STRAPS_board_pos = 0 →
        Does (.nvmReadDone answered image) s [.boot]
          [(F.BOOT_STATUS_phase, 0), (F.BOOT_STATUS_recovery, 0), (F.BOOT_PHASE_TIME_entry_us, 2)] (fun d =>
            d.fld F.BOOT_STATUS_phase = 2 ∧ d.boot.image = (if answered then image else []))) ∧
      (s.dev.fld F.BOOT_STATUS_phase = 1 → s.dev.boot.published = true → s.dev.boot.full = false →
        s.dev.fld F.BOOT_STRAPS_board_pos ≠ 0 → s.dev.boot.publishedAt + edgesMs 2000 ≤ s.clk.phys →
        Does .relayTimeout s evtParts
          [(F.BOOT_STATUS_error, 0), (F.BOOT_STATUS_phase, 0), (F.BOOT_STATUS_recovery, 0), (F.BOOT_PHASE_TIME_entry_us, 8),
           (F.EVT_INTN_boot, 0)] (fun d =>
            d.fld F.BOOT_STATUS_phase = 8 ∧ d.fld F.BOOT_STATUS_error = 0x0A ∧ d.flag F.EVT_INTN_boot = true ∧
              d.evtPending Ev.BOOT_RELAY_TIMEOUT.code = true))) ∧
  (∀ s : State,
      (∀ g : Fin 64, s.dev.boot.published = true → g.val ∈ s.dev.bootGroups → s.dev.fld F.BOOT_STATUS_phase < 7 →
        s.dev.linkState g ≠ 6 → (s.dev.boardPos ≠ 0 ∨ s.dev.boot.accepted = false ∧ s.dev.boot.fw = []) →
        Does (.bootLinkUp g) s [.net]
          [(F.PEL_LINK_STATUS_state, g), (F.PEL_GROUP_CFG_boot, g),
           (F.LANE_STATUS_state, if s.dev.boardPos = 0 then 8 * g.val else 504)]
          (fun d => d.fld F.PEL_LINK_STATUS_state g = 6 ∧ d.fld F.PEL_GROUP_CFG_boot g = 1 ∧
            d.fld F.LANE_STATUS_state (if s.dev.boardPos = 0 then 8 * g.val else 504) = 6)) ∧
      (∀ body, s.dev.boardPos ≠ 0 → s.dev.linkState 63 = 6 → s.dev.fld F.BOOT_STATUS_phase = 1 →
        Runs (.bootImageMessage 63 0 0 body) s (fun d => d.boot.image = body ∧ d.boot.source = 1)) ∧
      (∀ offset body, s.dev.boardPos ≠ 0 → s.dev.linkState 63 = 6 → s.dev.fld F.BOOT_STATUS_phase = 1 →
        64 * offset.toNat = s.dev.boot.image.length → offset ≠ 0 →
        Runs (.bootImageMessage 63 0 offset body) s (fun d => d.boot.image = s.dev.boot.image ++ body)) ∧
      (∀ failed : List (Fin 2 × Fin 32), s.dev.boot.published = true → s.dev.boot.hbmDone = false →
        s.dev.fld F.BOOT_STATUS_phase < 6 →
        Does (.hbmTrainingDone failed) s [.boot] [] (fun d => d.boot.hbmDone = true ∧
          ∀ x ∈ failed, x.2.val < s.dev.channels → (x.1.val, x.2.val) ∈ d.boot.hbmFailed)) ∧
      (∀ lane : Fin 512, s.dev.forwards = true → s.dev.laneState lane = 1 → s.dev.pealLane lane = false →
        s.dev.emberUp 0 = false → s.dev.emberUp 1 = false →
        Runs (.laneTrainingDone lane true) s (fun d => d.laneState lane = 2 ∧ d.fld F.LANE_STATUS_fec_lock lane = 1 ∧
          d.fld F.LANE_STATUS_rx_signal lane = 1 ∧ d.fld F.LANE_STATUS_pll_lock lane = 1)))


/-- From R67, R68, R70, R77, R78, R83, R84. Firmware and configuration downloads, and the verdicts on images. The firmware
window opens after the image is applied and may close, generation 0 goes live, and the group forms. Choices of the
model in it: log entries 10, 64, 65, 66. -/
def Obligations.ImagesAndBootWindow : Prop :=
  (∀ s : State,
      (∀ n : BitVec 11, s.dev.boot.fetch = none → s.dev.fld F.BOOT_STATUS_phase = 4 → 1 ≤ n.toNat → n.toNat ≤ 1024 →
        Does (.fwDownloadGo n) s [.boot, .out]
          [(F.BOOT_FW_CTRL_kind, 0), (F.BOOT_FW_CTRL_extents, 0), (F.BOOT_STATUS_phase, 0), (F.BOOT_STATUS_recovery, 0),
           (F.BOOT_PHASE_TIME_entry_us, 5)] (fun d =>
          d.fld F.BOOT_STATUS_phase = 5 ∧ d.boot.fetch = some 0 ∧
            d.out = s.dev.out ++ [.hostRead (64 * s.dev.fld F.BOOT_FW_LIST_list_addr) (16 * n.toNat)])) ∧
      (∀ n : BitVec 11, s.dev.boot.fetch = none → s.dev.fld F.BOOT_STATUS_phase = 8 → 1 ≤ n.toNat → n.toNat ≤ 1024 →
        Does (.cfgDownloadGo n) s [.boot, .out] [(F.BOOT_FW_CTRL_kind, 0), (F.BOOT_FW_CTRL_extents, 0)] (fun d =>
          d.boot.fetch = some 1 ∧
            d.out = s.dev.out ++ [.hostRead (64 * s.dev.fld F.BOOT_FW_LIST_list_addr) (16 * n.toNat)])) ∧
      (s.dev.fld F.BOOT_STATUS_phase = 2 → s.dev.boot.full = true →
        Runs .imageVerifyDone s (fun d => if s.dev.imageCheck s.dev.boot.image = 0 then d.fld F.BOOT_STATUS_phase = 3
          else (d.fld F.BOOT_STATUS_phase = 8 ∧
          d.fld F.BOOT_STATUS_error = s.dev.imageCheck s.dev.boot.image ∧ d.boot.image = [] ∧
          d.evtPending Ev.BOOT_IMAGE_REJECTED.code = true))) ∧
      (∀ image, s.dev.fld F.BOOT_STATUS_phase = 8 → s.dev.boot.fetch = some 1 →
        Runs (.cfgFetchDone image) s (fun d => if s.dev.imageCheck image = 0 then d.fld F.BOOT_STATUS_phase = 3
          else (d.fld F.BOOT_STATUS_phase = 8 ∧
          d.fld F.BOOT_STATUS_error = s.dev.imageCheck image ∧ d.evtPending Ev.BOOT_IMAGE_REJECTED.code = true))) ∧
      (∀ image, s.dev.fld F.BOOT_STATUS_phase = 5 → s.dev.boot.fetch = some 0 →
        Runs (.fwFetchDone false image) s (fun d => (s.dev.fwCheck image false = 0 →
          d.fld F.GLB_CORE_STATUS_in_service = 0xFF) ∧
        (s.dev.fwCheck image false ≠ 0 → s.dev.boot.fwFull = false →
          d.fld F.SEC_STATUS_fw_reject = s.dev.fwCheck image false ∧ d.fld F.BOOT_STATUS_phase = 4 ∧
          d.fld F.BOOT_STATUS_error = 0x0B ∧ d.evtPending Ev.BOOT_FW_REJECTED.code = true)))) ∧
  (∀ s : State,
      (s.dev.fld F.BOOT_STATUS_phase = 3 → ownSections s.dev.boot.image s.dev.boardPos = [] →
        ∃ t, exec .imageApplyDone s = .next t ∧ t.pending = s.pending ∧ t.clk = s.clk ∧ t.dev.boot.windowAt = some s.clk.phys ∧
          t.dev.boot.retained = s.dev.boot.image ∧ t.dev.fld F.BOOT_STATUS_phase = 4) ∧
      (∀ t, s.dev.forwards = true → s.dev.fld F.BOOT_STATUS_phase = 4 → s.dev.boot.windowAt = some t →
        s.dev.boot.expired = false → t + edgesMs 60000 ≤ s.clk.phys → s.dev.net.configured = [] →
        s.dev.emberUp 0 = false → s.dev.emberUp 1 = false →
        Runs .fwWindowTimeout s (fun d => d.boot.expired = true ∧ d.evtPending Ev.BOOT_FW_TIMEOUT.code = true ∧
          d.fld F.BOOT_STATUS_error = 0x0D)) ∧
      (∀ x, s.dev.fld F.BOOT_STATUS_phase = 6 → s.dev.cls.staged = some x → s.dev.net.configured = [] →
        (∀ g ∈ s.dev.bootGroups, s.dev.linkState g ≠ 6) → s.dev.fld F.TWN_STATUS_role = 0 → s.dev.twn.members = [] →
        Runs .generation0Live s (fun d => d.fld F.BOOT_STATUS_phase = 7 ∧ d.cls.live = s.dev.cls.live ++ [x] ∧
          d.evtPending Ev.BOOT_RUNNING.code = true)) ∧
      (s.dev.fld F.BOOT_STATUS_phase = 7 → s.dev.twn.formStart + edgesMs 400 ≤ s.clk.phys → s.dev.twn.formed = false →
        s.dev.fld F.TWN_STATUS_role = 0 →
        Runs .formationTimer s (fun d => d.twn.formed = true ∧
          ∀ q ∈ s.dev.others, s.dev.fld F.PEL_PEER_STATUS_admitted q = 0 → d.evtPending Ev.PEL_MEMBER_MISSING.code = true)))


/-- From R420, R424. Doorbells move a ring's tail, and a transmit descriptor's frame is queued on its port or injected
into its port's pipeline. Choices of the model in it: log entries 10, 79. -/
def Obligations.HostRings : Prop :=
  ∀ (s : State) (r : Fin 2048),
    (∀ (tail : BitVec 16) (bufs : List (BitVec 64)), s.dev.fifos = ⟨[]⟩ → bufs.length ≤ s.dev.rxSize r →
      Does (.rxDoorbell r tail bufs) s [.host] [(F.HST_RXR_PTR_tail, r)] (fun d =>
        d.fld F.HST_RXR_PTR_tail r = tail.toNat ∧ ∀ (i : Nat) b, bufs[i]? = some b →
          d.host.rxBuf.num r ((s.dev.fld F.HST_RXR_PTR_tail r % s.dev.rxSize r + i) % s.dev.rxSize r) = b.toNat)) ∧
    (∀ tail : BitVec 16, Does (.txDoorbell r tail) s [] [(F.HST_TXR_PTR_tail, r)] (fun d =>
      d.fld F.HST_TXR_PTR_tail r = tail.toNat)) ∧
    (∀ slot, s.dev.txNext r = some slot → ∀ x : TxDesc, s.dev.txValid x = true →
      let sg := s.dev.txSegment s.clk r x.port x.frame.length
      ∀ h, sg.2 = some h →
      (let leaf := sg.1.leafOf x.port x.tc 0
       let die := dieOf x.port
       (sg.1.leafPath die leaf).2.2 = x.port.val % 256 → sg.1.profile die leaf 1 7 1 = 1 →
       sg.1.profile die leaf 1 6 1 ≠ 1 →
       Runs (.txDirect r x) s (fun d => ∃ f : EFrame, d.leafQ die leaf = sg.1.leafQ die leaf ++ [f] ∧ f.bytes = x.frame ∧
         f.port = x.port.val ∧ f.txRing = some (r.val, slot) ∧ f.native = x.native)) ∧
      Runs (.txInject r x) s (fun d => d.nextPkt = sg.1.nextPkt + 1 ∧
        (d.pipe (pipeOf x.port)).side = (sg.1.pipe (pipeOf x.port)).side ++ [sg.1.nextPkt] ∧
        ∃ y, d.pkt sg.1.nextPkt = some y ∧ y.bytes = x.frame ∧ y.startState = x.start.toNat ∧
          y.txRing = some (r.val, slot)))


/-- From R417, R426, R427, R433, R484. A ring's held interrupt fires after its interval; an error of a fetch stops the
ring it belongs to and is reported. An event ring starts empty when it is enabled, the PCIe link comes up, and D3hot.
Choices of the model in it: log entries 5, 11, 78, 79. -/
def Obligations.HostInterruptsEventsAndPcie : Prop :=
  (∀ (s : State) (n : Fin 2048),
      (∀ kind : Fin 3, s.dev.msix.waiting.contains (kind.val, n.val) = true → s.dev.itrPassed s.clk kind n = true →
        Runs (.msixFire kind n) s (fun d => (kind.val, n.val) ∉ d.msix.waiting ∧
          d.msix.lastFire.num kind n = s.clk.phys + 1)) ∧
      (∀ frame, s.dev.rxLive n = true → Runs (.fetchError 0 n frame) s (fun d => d.fld F.HST_RXR_CFG_enable n = 0 ∧
        d.out.getLast? = some .aer ∧ d.evtPending Ev.HST_FETCH_ERROR.code = true)) ∧
      (∀ frame slot, s.dev.txNext n = some slot → Runs (.fetchError 1 n frame) s (fun d =>
        d.fld F.HST_TXR_CFG_enable n = 0 ∧ d.out.getLast? = some .aer ∧ d.evtPending Ev.HST_FETCH_ERROR.code = true)) ∧
      (∀ frame, Runs (.fetchError 2 n frame) s (fun d => n.val % 2 ∈ d.host.stopped ∧ d.out.getLast? = some .aer ∧
        d.evtPending Ev.HST_FETCH_ERROR.code = true)) ∧
      (∀ frame, Runs (.fetchError 3 n frame) s (fun d => 2 ∈ d.host.stopped ∧ d.dist.cur = none ∧
        d.evtPending Ev.HST_FETCH_ERROR.code = true))) ∧
  (∀ s : State,
      (∀ k : Fin 8, s.dev.fld F.EVT_RING_CFG_enable k = 0 → 6 ≤ s.dev.fld F.EVT_RING_CFG_log2_size k →
        s.dev.fld F.EVT_RING_CFG_log2_size k ≤ 16 →
        Does (.eventRingEnable k) s [.evt] [(F.EVT_RING_CFG_enable, k)] (fun d => d.fld F.EVT_RING_CFG_enable k = 1 ∧
          d.fld F.EVT_RING_PTR_head k = 0 ∧ d.fld F.EVT_RING_PTR_rd k = 0)) ∧
      (s.dev.boot.published = true → s.dev.host.linkUp = false →
        Runs .pcieLinkUp s (fun d => d.host.linkUp = true ∧ d.flw = s.dev.flw ∧ d.cls = s.dev.cls)) ∧
      (s.dev.host.d3hot = false → Does (.d3hotTransition true) s [.host] [] (fun d => d.host.d3hot = true)) ∧
      (s.dev.host.d3hot = true → Runs (.d3hotTransition false) s (fun d => d.host.d3hot = false ∧ d.flw = s.dev.flw)))


/-- From R79, R88, R89, R90, R91, R429, R430. The host interface's resets and losses, while forwarding continues, and a
warm reset by the host or firmware. A function moves between the device and the host: the move begins unless refused
or already made, and takes effect at its end. Choices of the model in it: log entries 63, 76, 77. -/
def Obligations.HostPresenceAndModes : Prop :=
  (∀ s : State,
      (∀ flr ix, s.dev.boot.fetch = none → s.dev.host.move = none →
        Runs (.pcieReset flr) s (fun d => d.fld F.HST_RXR_CFG_base ix = 0 ∧ d.fld F.HST_RXR_CFG_enable ix = 0 ∧
          d.fld F.HST_TXR_CFG_enable ix = 0 ∧
          d.fld F.HST_HOSTLOSS_CTRL_absent = s.dev.fld F.HST_HOSTLOSS_CTRL_absent ∧
          d.msix = ⟨⟨[]⟩, []⟩ ∧ d.flw = s.dev.flw ∧ d.cls = s.dev.cls ∧
          d.fld F.MAC_PORT_CFG_enable ix = s.dev.fld F.MAC_PORT_CFG_enable ix)) ∧
      (s.dev.host.linkUp = true → s.dev.boot.fetch = none →
        Does .pcieLinkDown s [.host] [] (fun d => d.host.linkUp = false ∧ d.host.downAt = s.clk.phys)) ∧
      (s.dev.fld F.BOOT_STATUS_phase = 7 → s.dev.fld F.HST_HOSTLOSS_CTRL_absent = 0 → s.dev.hostGone s.clk = true →
        (∀ n < 9, s.dev.hostMode n = false) →
        Does .hostAbsent s ([.pwr] ++ evtParts) [(F.HST_HOSTLOSS_CTRL_absent, 0), (F.EVT_INTN_host_absent, 0)] (fun d =>
          d.fld F.HST_HOSTLOSS_CTRL_absent = 1 ∧ d.fld F.EVT_INTN_host_absent = 1 ∧ d.pwr.smbAlert = true ∧
          d.evtPending Ev.HST_HOST_LOST.code = true)) ∧
      (s.dev.fld F.HST_HOSTLOSS_CTRL_absent = 1 → s.dev.host.linkUp = true →
        Does .hostAliveBeat s ([.host, .pwr] ++ evtParts) [(F.HST_HOSTLOSS_CTRL_absent, 0), (F.EVT_INTN_host_absent, 0)]
          (fun d => d.fld F.HST_HOSTLOSS_CTRL_absent = 0 ∧ d.host.aliveAt = s.clk.phys ∧
            d.evtPending Ev.HST_HOST_RETURNED.code = true)) ∧
      (s.dev.boot.retainedHash = sha512 s.dev.boot.retained → Runs (.warmReset false) s (fun d =>
        d.fld F.BOOT_STATUS_phase = 3 ∧ d.boot.image = s.dev.boot.retained)) ∧
      Runs (.warmReset true) s (fun d => d.fld F.BOOT_STATUS_phase = 8 ∧ d.fld F.BOOT_STATUS_error = 0x0E ∧
        d.evtPending Ev.BOOT_IMAGE_REJECTED.code = true)) ∧
  (∀ s : State,
      (∀ (n : Fin 16) (host : Bool), s.dev.fld F.HST_MODE_STATUS_busy = 0 → s.dev.swapBusy = false →
        s.dev.moveRefusal n host = 0 →
        (s.dev.hostMode n ≠ host →
          Does (.modeMove n host) s [.host] [(F.HST_MODE_CTRL_function, 0), (F.HST_MODE_CTRL_mode, 0),
              (F.HST_MODE_STATUS_busy, 0), (F.HST_MODE_STATUS_current, 0)] (fun d => d.fld F.HST_MODE_STATUS_busy = 1 ∧
            d.fld F.HST_MODE_STATUS_current = n.val ∧ d.host.move = some (n.val, host))) ∧
        (s.dev.hostMode n = host →
          Does (.modeMove n host) s evtParts [(F.HST_MODE_CTRL_function, 0), (F.HST_MODE_CTRL_mode, 0)] (fun d =>
            d.evtPending Ev.HST_MODE_DONE.code = true))) ∧
      (∀ (n : Nat) host, n < 9 → s.dev.host.move = some (n, host) → s.dev.fld F.GLB_CORE_STATUS_in_service ≠ 0 →
        s.dev.fld F.HST_HOSTLOSS_CTRL_absent = 0 →
        Runs .modeMoveDone s (fun d => d.hostMode n = host ∧ d.host.move = none ∧ d.fld F.HST_MODE_STATUS_busy = 0 ∧
          bitOf (d.fld F.HST_MODE_STATUS_host_modes) n = host ∧ d.evtPending Ev.HST_MODE_DONE.code = true)))


/-- From R37, R38, R47, R434. A write by any requester acts under each field's access type: read-write fields take the
value, pending bits written with 1 clear, read-only registers keep every bit. A 32-bit read of the low half of a
64-bit register answers the low half and captures the high half for that requester; reading BOOT_STATUS ends the boot
interrupt. Choices of the model in it: log entry 88. -/
def Obligations.RegisterReadsAndWrites : Prop :=
  (∀ (s : State) (req : Fin 13) (v : Word), s.dev.emberUp 0 = false → s.dev.emberUp 1 = false →
      Does (.registerWrite req (BitVec.ofNat 27 Reg.FLW_TIMEOUT.base) 4 v) s [.acc] [(F.FLW_TIMEOUT_seconds, 0)]
        (fun d => d.fld F.FLW_TIMEOUT_seconds 0 = v.toNat % 2 ^ 16) ∧
      Does (.registerWrite req (BitVec.ofNat 27 Reg.EVT_PEND.base) 4 v) s [.acc] [(F.EVT_PEND_pending, 0)]
        (fun d => d.fld F.EVT_PEND_pending 0 =
          s.dev.fld F.EVT_PEND_pending 0 - (s.dev.fld F.EVT_PEND_pending 0 &&& v.toNat % 2 ^ 32)) ∧
      Does (.registerWrite req (BitVec.ofNat 27 Reg.MAC_PORT_STATUS.base) 4 v) s [.acc] [] (fun _ => True)) ∧
  (∀ s : State,
      (∀ req : Fin 13, Does (.halfReadCapture req (BitVec.ofNat 27 Reg.MAC_PORT_CFG.base)) s [.acc, .out] [] (fun d =>
        d.acc.halfRead.find? ⟨req, Reg.MAC_PORT_CFG.num, 0⟩ = some ((s.dev.reg .MAC_PORT_CFG 0).toNat / 2 ^ 32) ∧
          d.out = s.dev.out ++ [.readData req ((s.dev.reg .MAC_PORT_CFG 0).toNat % 2 ^ 32)])) ∧
      Does .bootStatusRead s [.acc, .out] [(F.EVT_INTN_boot, 0)] (fun d => d.fld F.EVT_INTN_boot = 0))


/-- From R28, R30, R50. HOLD is requested, released, and released by itself after 1 µs, in every block that has one. The
reference clock's loss and return, and a write through BAR2, are evented. Choices of the model in it: log entries 5,
90. -/
def Obligations.HoldAndReferenceClock : Prop :=
  (∀ (s : State) (b : Fin 10) (ix : Fin 32),
      (s.dev.fld ⟨holdReg b, 1, 1⟩ ix = 0 →
        Does (.holdRequest b ix) s [.acc] [(⟨holdReg b, 1, 1⟩, ix), (⟨holdReg b, 0, 0⟩, ix)] (fun d =>
          d.fld ⟨holdReg b, 1, 1⟩ ix = 1 ∧ d.fld ⟨holdReg b, 0, 0⟩ ix = 1)) ∧
      (s.dev.fld ⟨holdReg b, 1, 1⟩ ix = 1 →
        Does (.holdRequest b ix) s [] [] (fun _ => True)) ∧
      (s.dev.fld ⟨holdReg b, 1, 1⟩ ix = 1 → s.dev.emberUp ix = false →
        Does (.holdRelease b ix) s [] [(⟨holdReg b, 1, 1⟩, ix), (⟨holdReg b, 0, 0⟩, ix)] (fun d =>
          d.fld ⟨holdReg b, 1, 1⟩ ix = 0 ∧ d.fld ⟨holdReg b, 0, 0⟩ ix = 0)) ∧
      (s.dev.fld ⟨holdReg b, 1, 1⟩ ix = 1 → s.dev.emberUp ix = false →
        s.dev.acc.holdAck.num (holdReg b).num ix + edgesUs 1 ≤ s.clk.phys + 1 →
        Does (.holdExpired b ix) s evtParts
          [(⟨holdReg b, 1, 1⟩, ix), (⟨holdReg b, 0, 0⟩, ix), (⟨holdReg b, 2, 2⟩, ix)] (fun d =>
            d.fld ⟨holdReg b, 1, 1⟩ ix = 0 ∧ d.fld ⟨holdReg b, 0, 0⟩ ix = 0 ∧ d.fld ⟨holdReg b, 2, 2⟩ ix = 1 ∧
              d.evtPending Ev.GLB_HOLD_EXPIRED.code = true))) ∧
  (∀ s : State,
      (s.dev.fld F.CLK_REF_STATUS_lost = 0 →
        Does .refLost s evtParts [(F.CLK_REF_STATUS_lost, 0)] (fun d =>
          d.fld F.CLK_REF_STATUS_lost = 1 ∧ d.evtPending Ev.CLK_REF_LOST.code = true)) ∧
      (s.dev.fld F.CLK_REF_STATUS_lost = 1 →
        Does .refRestored s evtParts [(F.CLK_REF_STATUS_lost, 0)] (fun d =>
          d.fld F.CLK_REF_STATUS_lost = 0 ∧ d.evtPending Ev.CLK_REF_RESTORED.code = true)) ∧
      Does .bar2Write s evtParts [] (fun d => d.evtPending Ev.HST_BAR2_WRITE.code = true))


/-- From R14. A frame received whole with a good FCS gets a segment, a number and a place at its pipeline's intake; a
frame with a bad FCS or of a wrong length is counted at the MAC and makes no descriptor. Choices of the model in it:
log entries 8, 31, 58. -/
def Obligations.FrameReceiveMakesDescriptor : Prop :=
  ∀ (s : State) (p lane : Fin 512) (var : BitVec 24) (bs : List Byte), s.dev.forwards = true →
    s.dev.net.configured.contains p.val = true → s.dev.cls.live ≠ [] → s.dev.net.r75 = false →
    s.dev.fld F.TWN_STATUS_state ≠ 2 → s.dev.fld F.MAC_PORT_CFG_enable p = 1 → s.dev.fld F.MAC_PORT_STATUS_link_up p = 1 →
    (bs.length + 4 < 64 → ∀ fcs, Does (.frameReceive p lane var bs fcs) s [.tel] [(F.MAC_RX_ERR_frames, 4 * p.val + 1)]
      (fun d => d.fld F.MAC_RX_ERR_frames (4 * p.val + 1) = (s.dev.fld F.MAC_RX_ERR_frames (4 * p.val + 1) + 1) % 2 ^ 64)) ∧
    (64 ≤ bs.length + 4 → bs.length + 4 ≤ 2048 → bs.length + 4 ≤ s.dev.maxFrame p →
      Does (.frameReceive p lane var bs false) s [.tel] [(F.MAC_RX_ERR_frames, 4 * p.val)]
        (fun d => d.fld F.MAC_RX_ERR_frames (4 * p.val) = (s.dev.fld F.MAC_RX_ERR_frames (4 * p.val) + 1) % 2 ^ 64)) ∧
    (64 ≤ bs.length + 4 → bs.length + 4 ≤ s.dev.maxFrame p → etherType bs ≠ 0x8808 →
      let d0 := s.dev.bwCount p (bs.length + 4) false
      let i := pipeOf p % 16
      let q := d0.ingressPrio (dieOf p) i bs
      let k := poolOf (bs.length + 4)
      let r1 := d0.admitFrame s.clk p q k
      let r2 := r1.1.segRequest s.clk (dieOf p) i k (some (i, q))
      let d2 := r2.1
      r1.2 = true → ∀ h, r2.2 = .granted h →
      Runs (.frameReceive p lane var bs true) s (fun d => d.nextPkt = d2.nextPkt + 1 ∧
        (d.pipe (pipeOf p)).waiting = (d2.pipe (pipeOf p)).waiting ++ [d2.nextPkt] ∧
        ∃ x, d.pkt d2.nextPkt = some x ∧ x.bytes = bs ∧ x.port = p ∧ x.seg = some (h, i) ∧ x.prio = q))


/-- From R98, R99, R112, R113. Received PAUSE and PFC frames, the expiry of their timers, and the resending of PFC.
Ethernet lanes: a change of a port's link, recalibration and FEC windows. Choices of the model in it: log entry 37. -/
def Obligations.PauseAndEthernetLanes : Prop :=
  (∀ (s : State) (p : Fin 512) (q : Fin 8), s.dev.forwards = true →
      (∀ t : BitVec 16, s.dev.fld F.MAC_PORT_CFG_fc_mode p = 2 →
        bitOf (s.dev.fld F.MAC_PFC_CTRL_rx_prio_enable p) q = true → t ≠ 0 →
        Does (.macControlFrame p 0x0101 [(q, t)]) s [.net] [(F.MAC_PORT_STATUS_pfc_rx, p), (F.MAC_CTL_CNT_frames, 3 * p.val)]
          (fun d => bitOf (d.fld F.MAC_PORT_STATUS_pfc_rx p) q = true ∧
            d.net.rxPause.num p q = s.clk.phys + s.dev.pauseEdges p t.toNat + 1 ∧
            d.fld F.MAC_CTL_CNT_frames (3 * p.val) = (s.dev.fld F.MAC_CTL_CNT_frames (3 * p.val) + 1) % 2 ^ 64)) ∧
      (∀ op timers, s.dev.fld F.MAC_PORT_CFG_fc_mode p = 0 →
        Does (.macControlFrame p op timers) s [] [(F.MAC_CTL_CNT_frames, 3 * p.val + 2)] (fun d =>
          d.fld F.MAC_CTL_CNT_frames (3 * p.val + 2) = (s.dev.fld F.MAC_CTL_CNT_frames (3 * p.val + 2) + 1) % 2 ^ 64)) ∧
      (s.dev.net.rxPause.num p q ≠ 0 → s.dev.net.rxPause.num p q ≤ s.clk.phys + 1 →
        Does (.pauseTimerExpire p q) s [.net] [(F.MAC_PORT_STATUS_pfc_rx, p)] (fun d =>
          bitOf (d.fld F.MAC_PORT_STATUS_pfc_rx p) q = false ∧ d.net.rxPause.num p q = 0)) ∧
      (s.dev.fld F.MAC_PORT_STATUS_pfc_tx p ≠ 0 → s.dev.fld F.MAC_PORT_STATUS_link_up p = 1 →
        s.dev.fld F.MAC_PORT_CFG_fc_mode p = 2 → s.dev.net.pfcSent.num p ≠ 0 →
        s.dev.net.pfcSent.num p + s.dev.pauseEdges p (s.dev.quanta p / 2) ≤ s.clk.phys + 1 →
        Does (.pfcResend p) s [.net, .out] [(F.MAC_PORT_STATUS_pfc_tx, p)] (fun d =>
          d.out = s.dev.out ++ [.macControl p true (((List.range 8).filter
            (bitOf (s.dev.fld F.MAC_PORT_STATUS_pfc_tx p))).map (fun q => (q, s.dev.quanta p)))] ∧
          d.net.pfcSent.num p = s.clk.phys + 1))) ∧
  (∀ (s : State) (n : Fin 512), s.dev.forwards = true → s.dev.pealLane n = false → s.dev.emberUp 0 = false →
      s.dev.emberUp 1 = false →
      (s.dev.net.configured.contains n.val = true → s.dev.fld F.MAC_PORT_CFG_enable n = 1 →
        s.dev.fld F.MAC_PORT_STATUS_link_up n = 1 →
        Runs (.linkStateChange n true true) s (fun d => d.fld F.MAC_PORT_STATUS_link_up n = 0 ∧
          d.fld F.MAC_PORT_STATUS_remote_fault n = 1 ∧ d.evtPending Ev.MAC_LINK_DOWN.code = true)) ∧
      (s.dev.laneState n = 2 →
        Runs (.laneRecal n) s (fun d => d.laneState n = 3 ∧ (d.lane n).recalFrom = 2)) ∧
      (s.dev.laneState n = 3 → (s.dev.lane n).recalFrom = 2 → ∀ err temp,
        Runs (.recalDone n err temp) s (fun d => d.laneState n = 2 ∧ d.evtPending Ev.LANE_RECAL_DONE.code = true)) ∧
      (∀ corr uncorr sym : BitVec 32,
        (sym.toNat ≤ s.dev.fld F.LANE_DEGRADE_CTRL_symbols n →
          Does (.fecWindowEnd n corr uncorr sym) s [.net] [(F.LANE_FEC_CNT_count, 3 * n.val), (F.LANE_FEC_CNT_count, 3 * n.val + 1),
              (F.LANE_FEC_CNT_count, 3 * n.val + 2)] (fun d => (d.lane n).badWindows = 0 ∧
            d.fld F.LANE_FEC_CNT_count (3 * n.val) = (s.dev.fld F.LANE_FEC_CNT_count (3 * n.val) + corr.toNat) % 2 ^ 64)) ∧
        (s.dev.fld F.LANE_DEGRADE_CTRL_symbols n < sym.toNat → s.dev.fld F.LANE_DEGRADE_CTRL_fail_windows n = 0 →
          Does (.fecWindowEnd n corr uncorr sym) s ([.net] ++ evtParts) [(F.LANE_FEC_CNT_count, 3 * n.val),
              (F.LANE_FEC_CNT_count, 3 * n.val + 1), (F.LANE_FEC_CNT_count, 3 * n.val + 2)] (fun d =>
            (d.lane n).badWindows = (s.dev.lane n).badWindows + 1 ∧ d.evtPending Ev.LANE_FEC_DEGRADE.code = true))))


/-- From R104, R106, R107, R411. Cells and the link's control messages. A frame that another member sends over channel 0
is buffered and joins the leaf queue of the port and class it names. Choices of the model in it: log entries 36, 62. -/
def Obligations.PealCellsAndRemoteFrames : Prop :=
  (∀ (s : State) (g : Fin 64), s.dev.forwards = true → s.dev.emberUp 0 = false → s.dev.emberUp 1 = false →
      (∀ lane cell, s.dev.linkState g ≠ 0 →
        Does (.pealCellReceive g lane cell false) s [] [(F.PEL_CELL_CNT_cells, 4 * g.val + 1)] (fun d =>
          d.fld F.PEL_CELL_CNT_cells (4 * g.val + 1) = (s.dev.fld F.PEL_CELL_CNT_cells (4 * g.val + 1) + 1) % 2 ^ 64)) ∧
      (∀ (lane : Fin 8) cell m, s.dev.linkState g ≠ 0 → (s.dev.link g).laneSet = none → (s.dev.link g).newEpoch = none →
        (s.dev.link g).waiting = [] → nextLane (s.dev.link g).rxMask (s.dev.link g).nextRx = lane →
        cell.seq = (s.dev.link g).rxSeq.num lane → cell.msgs = [m] → m.reserved = false → m.part = 0 →
        Does (.pealCellReceive g lane cell true) s [.net] [] (fun d =>
          d.net.inbox = s.dev.net.inbox ++ [(g.val, { m with part := 0 })] ∧
          (d.link g).rxSeq.num lane = (cell.seq + 1) % 2048 ∧ (d.link g).nextRx = (lane.val + 1) % 8)) ∧
      (∀ r, (s.dev.link g).retained = [r] → s.dev.linkState g ≠ 6 → r.endedAt + edgesUs 2 ≤ s.clk.phys →
        Does (.pealCellResend g) s [.net, .out] [(F.PEL_CELL_CNT_cells, 4 * g.val + 2)] (fun d =>
          d.out = s.dev.out ++ [.cell (8 * g.val + r.lane) r.cell] ∧
          (d.link g).retained = [{ r with endedAt := s.clk.phys }])) ∧
      (s.dev.linkUp g = true → Runs (.keyEpochChange g) s (fun d =>
        (d.link g).epochTx = 1 - (s.dev.link g).epochTx % 2 ∧ (d.link g).cellsUnderKey = 0)) ∧
      (∀ (mask spare : BitVec 8) (seq : BitVec 11),
        ((s.dev.link g).passed (nextLane mask.toNat 0) seq.toNat = true →
          Runs (.laneSetMessage g mask spare seq) s (fun d => (d.link g).rxMask = mask.toNat ∧ (d.link g).laneSet = none)) ∧
        ((s.dev.link g).passed (nextLane mask.toNat 0) seq.toNat = false →
          Does (.laneSetMessage g mask spare seq) s [.net] [] (fun d =>
            (d.link g).laneSet = some (mask.toNat, spare.toNat, seq.toNat)))) ∧
      (∀ mask : BitVec 8, Does (.pauseStateMessage g mask) s [.net] [] (fun d => (d.link g).pausedPrios = mask.toNat)) ∧
      (∀ (e : Fin 2) (seq : BitVec 11),
        let low := nextLane (s.dev.fld F.PEL_GROUP_CFG_lane_mask g) 0
        ((s.dev.link g).passed low seq.toNat = true →
          Runs (.keyEpochMessage g e seq) s (fun d => (d.link g).epochRx = e ∧ (d.link g).newEpoch = none)) ∧
        ((s.dev.link g).passed low seq.toNat = false →
          Does (.keyEpochMessage g e seq) s [.net] [] (fun d => (d.link g).newEpoch = some (e.val, seq.toNat))))) ∧
  (∀ (s : State) (g : Fin 64) (port ingress : Fin 512) (tc : Fin 8) (colour : Fin 4) (bs : List Byte),
      s.dev.forwards = true →
      let d0 := s.dev.takeInbox g 0
      let die := dieOf (8 * g)
      let i := pipeOf (8 * g) % 16
      let k := poolOf (bs.length + 4)
      let q := d0.ingressPrio die i bs
      let r := d0.segRequest s.clk die i k (some (i, q))
      let leaf := r.1.leafOf port tc 0
      d0.chargeOf die i q + poolUnits k ≤ d0.fld F.BPM_PRIO_CFG_max (prioIx die i q) → ∀ h, r.2 = .granted h →
      (r.1.leafPath (dieOf port) leaf).2.2 = port % 256 →
      r.1.profile (dieOf port) leaf 1 7 1 = 1 → r.1.profile (dieOf port) leaf 1 6 1 ≠ 1 →
      Runs (.packetMessage g port tc ingress colour bs) s (fun d => ∃ x : EFrame,
        d.leafQ (dieOf port) leaf = r.1.leafQ (dieOf port) leaf ++ [x] ∧ x.bytes = bs ∧ x.port = port.val ∧ x.colour = colour.val ∧
          x.ingressPort = ingress.val))


/-- From R446. The key exchange of a link in state KEYING: the responder answers KX1, both sides derive the link's master,
and a failed exchange may start again after 100 ms. Choices of the model in it: log entry 70. -/
def Obligations.LinkKeying : Prop :=
  ∀ (s : State) (g : Fin 64), s.dev.forwards = true → s.dev.emberUp 0 = false → s.dev.emberUp 1 = false →
    (∀ peer m, s.dev.keyable g = true → (s.dev.link g).keying = none → peer.toNat ≤ s.dev.fuse.serial.toNat →
      m.length = 1060 →
      Runs (.kx1 g peer m) s (fun d => (certified m = true → ∃ k, (d.link g).keying = some k ∧ k.initiator = false ∧
          k.peerKey = m.take 512 ∧ d.draws = s.dev.draws + 16) ∧
        (certified m = false → ((d.link g).keying.bind Keying.failedAt) = some s.clk.phys))) ∧
    (∀ m k, (s.dev.link g).keying = some k → s.dev.keyable g = true → k.initiator = true → k.failedAt = none →
      m.length = 2084 →
      let ok := certified m && transcriptSigned (m.take 512) (k.transcript ++ m.take 1572) (m.drop 1572)
      Runs (.kx2 g m) s (fun d => (ok = true → (d.link g).keyed = true ∧
          (d.net.masters.find? ⟨s.dev.linkPeer g, 0, 0⟩).isSome = true) ∧
        (ok = false → ((d.link g).keying.bind Keying.failedAt) = some s.clk.phys))) ∧
    (∀ m k, (s.dev.link g).keying = some k → s.dev.keyable g = true → k.initiator = false → k.failedAt = none →
      m.length = 1024 →
      let ok := transcriptSigned k.peerKey (k.transcript ++ m.take 512) (m.drop 512)
      Runs (.kx3 g m) s (fun d => (ok = true → (d.link g).keyed = true ∧
          (d.net.masters.find? ⟨s.dev.linkPeer g, 0, 0⟩).isSome = true) ∧
        (ok = false → ((d.link g).keying.bind Keying.failedAt) = some s.clk.phys))) ∧
    (∀ k, (s.dev.link g).keying = some k → ∀ t, k.failedAt = some t → t + edgesMs 100 ≤ s.clk.phys →
      Does (.keyingRetry g) s [.net] [] (fun d => (d.link g).keying = none)) ∧
    (∀ m, s.dev.keyable g = true → (s.dev.link g).keying = none → m.length ≠ 1060 →
      Does (.kx1 g 0 m) s [.net] [] (fun d => ((d.link g).keying.bind Keying.failedAt) = some s.clk.phys))


/-- From R17, R117, R120, R123, R140. A waiting frame takes an intake slot and the live generation's stamp, a held slot
takes nothing, and the distributor numbers a descriptor and deals it to the next engine with room. A parse engine's
result, the release in sequence order, and the retirement and return of engines. Choices of the model in it: log
entries 23, 24, 69. -/
def Obligations.IntakeParseAndReorder : Prop :=
  (∀ (s : State) (p : Fin 32), s.dev.forwards = true →
      (∀ x s1, s.dev.nextFrame p = (some x, s1) → ∀ g sl, s.dev.cls.live.getLast? = some (g, sl) →
        s.dev.net.shut = false → (s.dev.pipe p).side = [] → x.arrival ≠ .recirc → x.arrival ≠ .heldRelease → x.txRing = none →
        (s.dev.pipe p).intake.length < 4096 →
        Runs (.intakeSlot p none) s (fun d => (d.pipe p).intake = (s.dev.pipe p).intake ++ [x.id] ∧
          (d.pipe p).slotNo = ((s.dev.pipe p).slotNo + 1) % 16 ∧
          ∃ y, d.pkt x.id = some y ∧ y.gen = g ∧ y.slot = sl ∧ y.stamped = true ∧ y.loc = .intake)) ∧
      (∀ amps, Runs (.intakeSlot p (some amps)) s (fun d => d.pipes = s.dev.pipes ∧ d.pkts = s.dev.pkts ∧
        d.fld F.PWR_CNT_count 2 = (s.dev.fld F.PWR_CNT_count 2 + 1) % 2 ^ 64)) ∧
      (∀ id rest, (s.dev.pipe p).intake = id :: rest → ∀ e, s.dev.nextEngine p none = some e →
        ∀ x, s.dev.pkt id = some x → s.dev.fld F.PRS_HOLD_ack p = 0 →
        Does (.descriptorDeal p) s [.pipes, .pkts]
          [(F.PRS_INTAKE_OCC_occupancy, p), (F.PRS_INTAKE_OCC_peak, p), (F.PRS_REORDER_OCC_occupancy, p),
           (F.PRS_REORDER_OCC_peak, p)] (fun d =>
          (d.pipe p).intake = rest ∧ (d.pipe p).nextSeq = (s.dev.pipe p).nextSeq + 1 ∧ (d.pipe p).rotate = (e + 1) % 12 ∧
          (d.pipe p).queue e = (s.dev.pipe p).queue e ++ [id] ∧
          d.pkt id = some { x with seq := (s.dev.pipe p).nextSeq, loc := .engineParse e }))) ∧
  (∀ (s : State) (p : Fin 32) (e : Fin 12), s.dev.forwards = true →
      (∀ id rest, (s.dev.pipe p).queue e = id :: rest → ∀ x, s.dev.pkt id = some x → x.id = id →
        bitOf (s.dev.fld F.PRS_ENGINE_CTRL_retire p) e = false →
        let r := s.dev.parseWindow x.slot x.startState x.port x.bytes
        r.has .depth = false → r.has .lenConflict = false →
        Runs (.parseDone p e 0) s (fun d => (d.pipe p).queue e = ((s.dev.pipe p).queue e).filter (· != id) ∧
          ∃ y, d.pkt id = some y ∧ y.parse = r ∧ y.loc = .reorder)) ∧
      (∀ x,
        s.dev.pkts.vals.find? (fun x => x.pipe == p.val && x.loc == .reorder && x.seq == (s.dev.pipe p).releaseSeq) = some x →
        (s.dev.pipe p).gone = [] → (s.dev.pipe p).clsIn.length < 32 →
        Runs (.reorderRelease p) s (fun d => (d.pipe p).clsIn = (s.dev.pipe p).clsIn ++ [x.id] ∧
          (d.pipe p).releaseSeq = (s.dev.pipe p).releaseSeq + 1 ∧ d.pkt x.id = some { x with loc := .classify })) ∧
      (bitOf (s.dev.fld F.PRS_ENGINE_CTRL_retired p) e = false →
        Runs (.parseEngineParity p e) s (fun d => bitOf (d.fld F.PRS_ENGINE_CTRL_retired p) e = true ∧
          d.evtPending Ev.PRS_ENGINE_RETIRED.code = true)) ∧
      (s.dev.fld F.PRS_ENGINE_CTRL_retired p = 0 → s.dev.fld F.PRS_ENGINE_CTRL_retire p = 0 →
        ((s.dev.pipe p).queue e ≠ [] →
          Does (.parseEngineRetire p (BitVec.ofNat 12 (2 ^ e.val))) s [] [(F.PRS_ENGINE_CTRL_retire, p)] (fun d =>
            d.fld F.PRS_ENGINE_CTRL_retire p = 2 ^ e.val)) ∧
        ((s.dev.pipe p).queue e = [] →
          Does (.parseEngineRetire p (BitVec.ofNat 12 (2 ^ e.val))) s []
            [(F.PRS_ENGINE_CTRL_retire, p), (F.PRS_ENGINE_CTRL_retired, p)] (fun d =>
            d.fld F.PRS_ENGINE_CTRL_retire p = 0 ∧ d.fld F.PRS_ENGINE_CTRL_retired p = 2 ^ e.val))) ∧
      (∀ mask : BitVec 12, Does (.parseEngineReturn p mask) s [] [(F.PRS_ENGINE_CTRL_retired, p)] (fun d =>
        d.fld F.PRS_ENGINE_CTRL_retired p = s.dev.fld F.PRS_ENGINE_CTRL_retired p &&& (4095 - mask.toNat))))


/-- From R153, R511. Operations on a table answer in CLS_TBL_STATUS: ADD and DELETE stage a rule, they are refused with
status 4 while no stage is open, and an op the table does not support answers 8. WRITE_AT and READ of the load
balancer's tables, and MOVE and LOCATE in a TCAM slice. Choices of the model in it: log entry 34. -/
def Obligations.TableOperations : Prop :=
  (∀ (s : State) (index : BitVec 32), s.dev.forwards = true →
      let fs := [(F.CLS_TBL_CMD_index, 0), (F.CLS_TBL_CMD_table, 0), (F.CLS_TBL_STATUS_code, 0), (F.CLS_TBL_STATUS_result, 0),
        (F.CLS_TBL_STATUS_busy, 0)]
      (s.dev.fld F.CLS_GEN_STATUS_stage_open = 1 → index.toNat < 0xFFFFF → s.dev.cls.rules.find? ⟨index.toNat, 0, 0⟩ = none →
        Does (.tblAdd .CLS_RULE_TBL index) s [.cls] fs (fun d =>
          (∃ r, d.cls.rules.find? ⟨index.toNat, 0, 0⟩ = some r ∧ r.birth = s.dev.stagedGen ∧ r.death = none ∧ r.state = 1 ∧
            r.action = leAt s.dev.tblData 0 3 % 2 ^ 18) ∧
          d.fld F.CLS_TBL_STATUS_code = 0 ∧ d.fld F.CLS_TBL_STATUS_result = index.toNat)) ∧
      (∀ r, s.dev.fld F.CLS_GEN_STATUS_stage_open = 1 → index.toNat < 0xFFFFF →
        s.dev.ruleAt index.toNat s.dev.stagedGen = some r → r.birth ≠ s.dev.stagedGen →
        Does (.tblDelete .CLS_RULE_TBL index) s [.cls] fs (fun d =>
          d.cls.rules.find? ⟨index.toNat, 0, 0⟩ =
            some { r with death := some s.dev.stagedGen, revoke := leAt s.dev.tblData 4 1 % 2 == 1 } ∧
          d.fld F.CLS_TBL_STATUS_code = 0 ∧ d.fld F.CLS_TBL_STATUS_result = index.toNat)) ∧
      (∀ t ∈ [TableId.TCAM, .CLS_RULE_TBL, .CLS_ACTION_TBL, .LBL_NH_TBL],
        ∀ i ∈ [Instr.tblAdd t index, .tblDelete t index], s.dev.fld F.CLS_GEN_STATUS_stage_open = 0 →
        Does i s evtParts fs (fun d => d.fld F.CLS_TBL_STATUS_code = 4 ∧ d.evtPending Ev.CLS_STAGE_CLOSED.code = true)) ∧
      (∀ i ∈ [Instr.tblMove .CLS_RULE_TBL index, .tblLocate .CLS_ACTION_TBL index, .tblWriteAt .CLS_LPM_TBL index,
          .tblAdd .LBL_SVC_TBL index, .tblDelete .LBL_BACKEND_TBL index, .tblRead .SCH_LEAF_CNT index],
        Does i s [] fs (fun d => d.fld F.CLS_TBL_STATUS_code = 8))) ∧
  (∀ (s : State) (index : BitVec 32), s.dev.forwards = true →
      let fs := [(F.CLS_TBL_CMD_index, 0), (F.CLS_TBL_CMD_table, 0), (F.CLS_TBL_STATUS_code, 0), (F.CLS_TBL_STATUS_result, 0),
        (F.CLS_TBL_STATUS_busy, 0)]
      (index.toNat < 16384 →
        Does (.tblWriteAt .LBL_SVC_TBL index) s [.tbls] fs (fun d =>
          (∀ w < 4, d.tw .LBL_SVC_TBL 0 index.toNat w = leAt s.dev.tblData (8 * w) 8) ∧ d.fld F.CLS_TBL_STATUS_code = 0)) ∧
      (index.toNat < 16384 →
        Runs (.tblRead .LBL_SVC_TBL index) s (fun d =>
          (∀ w < 4, leAt d.tblData (8 * w) 8 = s.dev.tw .LBL_SVC_TBL 0 index.toNat w % 2 ^ 64) ∧
          d.fld F.CLS_TBL_STATUS_code = 0 ∧ d.fld F.CLS_TBL_STATUS_result = index.toNat ∧ d.tbls = s.dev.tbls)) ∧
      (∀ p e, s.dev.tblSlices = [p] → s.dev.tcam p index.toNat = some e →
        let b := leAt s.dev.tblData 0 2
        s.dev.moveOk p index.toNat b = true →
        Does (.tblMove .TCAM index) s [.cls] fs (fun d => d.tcam p b = some e ∧ d.tcam p index.toNat = none ∧
          d.fld F.CLS_TBL_STATUS_code = 0 ∧ d.fld F.CLS_TBL_STATUS_result = b)) ∧
      (∀ p x, s.dev.tblSlices = [p] → (s.dev.slice p).find? (fun x => x.2.rule == index.toNat % 2 ^ 20) = some x →
        Does (.tblLocate .TCAM index) s [] fs (fun d =>
          d.fld F.CLS_TBL_STATUS_code = 0 ∧ d.fld F.CLS_TBL_STATUS_result = x.1 % 2 ^ 32)))


/-- From R24, R141, R161, R171. With the TCAM search off the port's slice's miss rule resolves; a forwarding action sends
the packet to the dispatch queue with its handle, a dropping one removes it. A packet older than 10 ms leaves the
device; a packet whose pair's earlier packets have left joins its leaf queue. Choices of the model in it: log entries
24, 33. -/
def Obligations.ClassificationAndLifetime : Prop :=
  (∀ (s : State) (p : Fin 32), s.dev.forwards = true → s.dev.fld F.CLS_HOLD_ack p = 0 →
      ∀ id rest, (s.dev.pipe p).clsIn = id :: rest → ∀ x, s.dev.pkt id = some x → x.id = id →
      s.dev.fld F.CLS_PORT_CFG_tcam_en x.port = 0 →
      let ranges := s.dev.rangeVector x
      let prof := s.dev.profileOf x
      let res := s.dev.resolveRule (s.dev.fld F.TCM_SLICE_CFG_miss_rule p) x.gen (s.dev.lpmResult x)
        (s.dev.exactLookup x ranges prof 0) (s.dev.exactLookup x ranges prof 1)
      (∀ h action, res = (.forward h, action) → bitOf (action.getD 0 0) 8 = false →
        Runs (.classify p [] [] [] none) s (fun d => (d.pipe p).clsIn = rest ∧
          (d.pipe p).dispatchQ = (s.dev.pipe p).dispatchQ ++ [id] ∧ ∃ y, d.pkt id = some y ∧ y.cls.handle = some h ∧
            y.cls.rule = s.dev.fld F.TCM_SLICE_CFG_miss_rule p ∧ y.loc = .dispatch ∧ y.bytes = x.bytes)) ∧
      (∀ k action, res = (.drop k, action) →
        Runs (.classify p [] [] [] none) s (fun d => d.pkt id = none))) ∧
  (∀ (s : State) (id : Nat) (x : Pkt), s.dev.forwards = true → s.dev.pkt id = some x →
      (x.expired s.clk = true → Runs (.packetLifetime id) s (fun d => d.pkt id = none)) ∧
      (∀ f, x.loc = .egress → x.frames = [f] → f.ioam = none →
        (∀ y ∈ s.dev.pkts.vals, s.dev.holdsBack x y (s.dev.queueOf f x.hash) = false) →
        let leaf := s.dev.leafOf f.port f.tc x.hash.toNat
        (s.dev.leafPath (dieOf f.port) leaf).2.2 = f.port % 256 → s.dev.profile (dieOf f.port) leaf 1 7 1 = 1 →
        s.dev.profile (dieOf f.port) leaf 1 6 1 = 0 →
        Runs (.egressReorderRelease id 0) s (fun d => d.pkt id = none ∧
          d.leafQ (dieOf f.port) leaf = s.dev.leafQ (dieOf f.port) leaf ++ [{ f with enqTs48 := s.clk.stamp.ts48 }])))


/-- From R158, R159, R514. The shadow check, the throttle states and the restoring of holes in a TCAM slice. Choices of
the model in it: log entry 28. -/
def Obligations.TcamUpkeep : Prop :=
  ∀ (s : State) (p : Fin 32), s.dev.forwards = true →
    (∀ ix, Does (.tcamShadowCheck p ix false) s [] [] (fun _ => True) ∧
      Does (.tcamShadowCheck p ix true) s evtParts [] (fun d => d.evtPending Ev.TCM_FALSE_HIT.code = true)) ∧
    (let temp := s.dev.dieDegrees (p.val / 16);
      Does (.throttleChange p) s evtParts [(F.TCM_THERM_STATUS_temp, p), (F.TCM_THERM_STATUS_state, p)] (fun d =>
        d.fld F.TCM_THERM_STATUS_temp p = temp % 256 ∧ d.fld F.TCM_THERM_STATUS_state p = s.dev.throttleNext p temp ∧
        (s.dev.throttleNext p temp ≠ s.dev.fld F.TCM_THERM_STATUS_state p → d.evtPending Ev.TCM_THROTTLE.code = true))) ∧
    (∀ i u, s.dev.fld F.TCM_SLICE_CFG_hw_holes p = 1 → s.dev.fld F.TCM_HOLE_STATUS_spacing_lost p = 0 →
      s.dev.fullWindow p (s.dev.holeN p) tcamSize (s.dev.cls.restoreAt.num p) = some i →
      let top := i + s.dev.holeN p - 1
      s.dev.freeAbove p tcamSize (top + 1) = some u → s.dev.defective p top = false →
      Runs (.tcamHoleRestore p) s (fun d => d.cls.restoreAt.num p = top ∧ d.tcam p top = none))


/-- From R168, R169, R170. Committing, aborting, preparing and draining generations. Choices of the model in it: log
entries 27, 35. -/
def Obligations.GenerationLifecycle : Prop :=
  ∀ s : State, s.dev.forwards = true →
    (∀ g sl, s.dev.cls.staged = some (g, sl) → s.dev.fld F.CLS_GEN_STATUS_stage_open = 1 →
      s.dev.fld F.CLS_GEN_STATUS_commit_pending = 0 →
      Runs .genCommit s (fun d => d.cls.live = s.dev.cls.live ++ [(g, sl)] ∧ d.fld F.CLS_GEN_STATUS_stage_open = 0 ∧
        d.fld F.CLS_GEN_STATUS_commit_pending = 0 ∧ d.fld F.CLS_GEN_STATUS_live_gen = g % 2 ^ 16)) ∧
    (s.dev.fld F.CLS_GEN_STATUS_stage_open = 0 → s.dev.fld F.CLS_GEN_STATUS_commit_pending = 0 →
      Does .genCommit s [] [(F.CLS_GEN_STATUS_commit_pending, 0)] (fun d => d.fld F.CLS_GEN_STATUS_commit_pending = 1)) ∧
    (∀ x, s.dev.cls.staged = some x → s.dev.fld F.CLS_GEN_STATUS_stage_open = 1 →
      Runs .genAbort s (fun d => d.fld F.CLS_GEN_STATUS_stage_open = 0 ∧ d.fld F.CLS_GEN_STATUS_preparing = 1 ∧
        d.cls.live = s.dev.cls.live)) ∧
    (∀ x, s.dev.cls.staged = some x → s.dev.fld F.CLS_GEN_STATUS_preparing = 1 →
      s.dev.fld F.CLS_GEN_STATUS_commit_pending = 0 →
      Runs .stagePrepareDone s (fun d => d.fld F.CLS_GEN_STATUS_stage_open = 1 ∧ d.fld F.CLS_GEN_STATUS_preparing = 0 ∧
        d.cls.live = s.dev.cls.live)) ∧
    (∀ x y rest, s.dev.cls.live = x :: y :: rest → s.dev.fld F.CLS_GEN_INFLIGHT_packets x.2 = 0 →
      Runs .genDrained s (fun d => d.cls.live = y :: rest ∧ d.evtPending Ev.CLS_GEN_DRAINED.code = true))


/-- From R190, R191, R194, R195, R197, R198, R200. A packet's Hearth request takes the lock of an unlocked entry or waits
for a busy bank; a waiter entering a free bank joins the misses; a fill that finds no record installs a provisional
entry. HBM's acknowledgement unpins a new record's entry, and a pending entry past its time is removed. Choices of the
model in it: log entries 41, 42. -/
def Obligations.FlowRecordRequests : Prop :=
  (∀ s : State, s.dev.forwards = true → ∀ id x, s.dev.pkt id = some x → x.id = id →
      let key := x.parse.key
      let b := s.dev.bankOf key
      let die := b / 128
      (∀ h e, x.loc = .hearth → s.dev.keyAhead x = false → s.dev.fld F.FLW_HOLD_ack die = 0 →
        (s.dev.pipe x.pipe).dispatchQ.length < 64 → s.dev.counterMode x = false →
        (∀ y ∈ s.dev.pkts.vals, y.loc = .bankWait → s.dev.bankOf y.parse.key ≠ b) → s.dev.fld F.HRT_BANK_STATUS_state b ≠ 1 →
        s.dev.hearthFind b (s.dev.setOf key) (s.dev.fpOf key) = some h → s.dev.entry b h.set h.way = some e →
        e.kind = .record → e.lock = false → e.waiters = [] → s.dev.revokedFor e.img.rule x.gen = false →
        let i := e.img.access { x with counter := false } h.rev
        i.topBit = false →
        Runs (.hearthRequest id false) s (fun d =>
          (∃ e', d.entry b h.set h.way = some e' ∧ e'.lock = true ∧ e'.img = i) ∧
          (∃ y, d.pkt id = some y ∧ y.loc = .dispatch ∧ y.locked = true ∧ y.copy = some i) ∧
          (d.pipe x.pipe).dispatchQ = (s.dev.pipe x.pipe).dispatchQ ++ [id])) ∧
      (x.loc = .hearth → s.dev.keyAhead x = false → s.dev.fld F.FLW_HOLD_ack die = 0 →
        (s.dev.pipe x.pipe).dispatchQ.length < 64 →
        s.dev.admission die x.actionClass
          (s.dev.pkts.vals.countP (fun y => y.loc == .bankWait && y.parse.key == key)) false = none →
        Runs (.hearthRequest id true) s (fun d => ∃ y, d.pkt id = some y ∧ y.loc = .bankWait ∧
          y.hold = some (die, x.actionClass))) ∧
      (∀ bank : Fin 256, s.dev.pkts.vals.filter (fun y => y.loc == .bankWait && s.dev.bankOf y.parse.key == bank) = [x] →
        s.dev.fld F.HRT_BANK_STATUS_state bank ≠ 1 → x.hold.isSome = true → b = bank →
        s.dev.hearthFind b (s.dev.setOf key) (s.dev.fpOf key) = none → s.dev.missOf die key = none →
        Runs (.bankQueueEnter bank) s (fun d => (∃ y, d.pkt id = some y ∧ y.loc = .missHold) ∧
          ∃ m, d.missOf die key = some m ∧ m.waiters = [id])) ∧
      (∀ m, s.dev.flw.misses.find? (fun m => m.waiters.contains id) = some m → m.waiters = [id] → m.key = key → m.die = die →
        (∀ ix, s.dev.fld F.FLW_HBM_CH_STATUS_ue_window ix = 0 ∧ s.dev.fld F.FLW_HBM_CH_STATUS_ce_window ix = 0) →
        let l := s.dev.lookup die key
        l.2 = .none → s.dev.fld F.FLW_CTRL_ins_host die = 0 → 1250 ≤ s.dev.insertTokens s.clk die →
        (m.retry = false → ∀ w, (l.1.takeWay s.clk b (s.dev.setOf key)).2 = some w →
          Runs (.missFill id 0) s (fun d => ∃ e, d.entry b (s.dev.setOf key) w = some e ∧ e.kind = .provisional ∧
            e.key = key ∧ e.lock = true)) ∧
        (m.retry = true → ∀ w, (s.dev.takeWay s.clk b (s.dev.setOf key)).2 = some w →
          Runs (.fillWayRetry id 0) s (fun d => ∃ e, d.entry b (s.dev.setOf key) w = some e ∧ e.kind = .provisional ∧
            e.key = key ∧ e.lock = true)))) ∧
  (∀ (s : State) (die : Fin 2), s.dev.forwards = true →
      (∀ (n : BitVec 28) b st w, s.dev.resident die n.toNat = some (b, st, w) → ∀ e, s.dev.entry b st w = some e →
        s.dev.bypass b = false →
        Does (.hbmWriteAck die n) s [.flw] [] (fun d => d.entry b st w = some { e with pinned := false })) ∧
      (∀ (b : Fin 256) st w e, s.dev.flw.hearth.cells = [(⟨b, st, w⟩, .entry e)] →
        ∀ t, e.kind = .pending t → b.val / 128 = die.val → t ≤ s.clk.phys → e.waiters = [] →
        Runs (.hostPendingTimeout die) s (fun d => d.entry b st w = none)))


/-- From R201, R202, R203. The host's flow commands act on the flow of the key and complete in the command ring at the
head. Choices of the model in it: log entry 10. -/
def Obligations.HostFlowCommands : Prop :=
  ∀ (s : State) (die : Fin 2), s.dev.forwards = true → s.dev.cmdReady die = true →
    let head := s.dev.fld F.FLW_CMD_PTR_head die
    let reply := fun (status record : Nat) => Out.hostWrite (s.dev.fld F.FLW_CMD_RING_base die * 256 + 256 * head + 8)
      (leBytes 8 (status + 256 + record % 2 ^ 28 * 2 ^ 32))
    let next := (head + 1) % s.dev.cmdSize die
    Does (.flowBadOp die) s [.out] [(F.FLW_CMD_PTR_head, die)] (fun d =>
      d.out = s.dev.out ++ [reply 5 0] ∧ d.fld F.FLW_CMD_PTR_head die = next) ∧
    (∀ (result : BitVec 64) key, badKey key = false →
      ∀ n dir, (s.dev.lookup (s.dev.bankOf key / 128) key).2 = .found n dir →
      ∀ r, s.dev.frec (s.dev.bankOf key / 128) n = some r → ∀ i, s.dev.imgNow (s.dev.bankOf key / 128) n = some i →
      Does (.flowRead die result key) s [.out] [(F.FLW_CMD_PTR_head, die)] (fun d =>
        d.out = s.dev.out ++ [.hostWrite (result.toNat / 64 * 64) (r.flush i).bytes, reply 0 n] ∧
        d.fld F.FLW_CMD_PTR_head die = next)) ∧
    (∀ key, badKey key = false → ∀ hd n dir, s.dev.cmdFlow key = some (.ok (hd, n, dir)) →
      (s.dev.frec hd n).isSome = true → (s.dev.imgNow hd n).isSome = true →
      Runs (.flowDelete die key) s (fun d => d.frec hd n = none ∧ d.out.getLast? = some (reply 0 n) ∧
        d.fld F.FLW_CMD_PTR_head die = next)) ∧
    (∀ body, badKey (recOf body).fwd = false → badKey (recOf body).rev = false →
      ∀ hd n, s.dev.cmdFlow (recOf body).fwd = some (.ok (hd, n, false)) → (s.dev.frec hd n).isSome = true →
      (s.dev.imgNow hd n).isSome = true →
      Runs (.flowUpdate die body) s (fun d => d.out.getLast? = some (reply 0 n) ∧ d.fld F.FLW_CMD_PTR_head die = next ∧
        ∃ r, d.frec hd n = some r ∧ r.timeoutSel = (recOf body).timeoutSel ∧ r.flowClass = (recOf body).flowClass)) ∧
    (∀ release body, let r := recOf body; let hd := s.dev.bankOf r.fwd / 128
      s.dev.insertRefusal s.clk r = none → r.img.snatValid = false → r.img.lbValid = false →
      Runs (.flowInsert die release body) s (fun d => d.fld F.FLW_CMD_PTR_head die = next ∧
        ∃ n, d.out.getLast? = some (reply 0 n) ∧ ∃ r', d.frec hd n = some r' ∧ r'.fwd = r.fwd ∧ r'.rev = r.rev ∧
          r'.hostMade = true)) ∧
    (∀ release body, ∀ st, s.dev.insertRefusal s.clk (recOf body) = some st →
      Does (.flowInsert die release body) s [.out] [(F.FLW_CMD_PTR_head, die)] (fun d =>
        d.out = s.dev.out ++ [reply (st % 256) 0] ∧ d.fld F.FLW_CMD_PTR_head die = next))


/-- From R213, R214. The evacuation of an HBM channel and its retraining, and the replacement of a Hearth bank by a spare.
Choices of the model in it: log entry 57. -/
def Obligations.EvacuationAndSpareBanks : Prop :=
  ∀ (s : State) (die : Fin 2), s.dev.forwards = true →
    (∀ ch : Fin 32, s.dev.fld F.FLW_HBM_EVAC_state die = 0 → s.dev.flw.noReserve.num die = 0 → ch.val < s.dev.channels →
      s.dev.fld F.FLW_HBM_CH_STATUS_state (chIx die ch) = 0 →
      Does (.hbmEvacStart die ch) s [.flw] [(F.FLW_HBM_EVAC_state, die), (F.FLW_HBM_EVAC_progress, die),
          (F.FLW_HBM_CH_STATUS_state, chIx die ch)] (fun d => d.fld F.FLW_HBM_EVAC_state die = 1 ∧
        d.fld F.FLW_HBM_CH_STATUS_state (chIx die ch) = 1)) ∧
    ((∀ ix, s.dev.fld F.FLW_HBM_CH_STATUS_ue_window ix = 0 ∧ s.dev.fld F.FLW_HBM_CH_STATUS_ce_window ix = 0) →
      (s.dev.fld F.FLW_HBM_EVAC_state die = 1 → Runs (.evacDone die) s (fun d => d.fld F.FLW_HBM_EVAC_state die = 2 ∧
        d.fld F.FLW_HBM_EVAC_progress die = 255 ∧ d.evtPending Ev.FLW_EVAC_DONE.code = true)) ∧
      (s.dev.fld F.FLW_HBM_EVAC_state die = 2 →
        Runs (.channelRetrainDone die true) s (fun d => d.fld F.FLW_HBM_EVAC_state die = 0 ∧
          d.fld F.FLW_HBM_CH_STATUS_state (chIx die (s.dev.evacChannel die)) = 0) ∧
        Runs (.channelRetrainDone die false) s (fun d => d.fld F.FLW_HBM_EVAC_state die = 3 ∧
          d.flw.noReserve.num die = 1))) ∧
    (let b := 128 * die.val + s.dev.fld F.HRT_SPARE_CTRL_retire die;
      s.dev.fld F.HRT_BANK_STATUS_state b = 0 → s.dev.fld F.HRT_SPARE_CTRL_spares_free (b / 128) ≠ 0 →
      Does (.bankRetire die) s [.flw] [(F.HRT_BANK_STATUS_state, b)] (fun d => d.fld F.HRT_BANK_STATUS_state b = 1 ∧
        d.flw.copying = s.dev.flw.copying ++ [(b, s.clk.phys)])) ∧
    (∀ b : Fin 256, s.dev.fld F.HRT_BANK_STATUS_state b = 0 →
      s.dev.fld F.HRT_SPARE_CTRL_spares_free (b.val / 128) ≠ 0 →
      Does (.bankControlParity b) s [.flw] [(F.HRT_BANK_STATUS_state, b)] (fun d =>
        d.fld F.HRT_BANK_STATUS_state b = 1 ∧ d.flw.copying = s.dev.flw.copying ++ [(b.val, s.clk.phys)])) ∧
    (∀ (b : Fin 256) since, s.dev.flw.copying.find? (fun x => x.1 == b.val) = some (b.val, since) →
      since + edgesNs 8192 ≤ s.clk.phys → (∀ y ∈ s.dev.pkts.vals, y.loc ≠ .bankWait) →
      let free := s.dev.fld F.HRT_SPARE_CTRL_spares_free (b.val / 128)
      Does (.bankCopyDone b) s ([.flw] ++ evtParts) [(F.HRT_SPARE_CTRL_spares_free, b.val / 128), (F.HRT_BANK_STATUS_spare, b),
          (F.HRT_BANK_STATUS_state, b)] (fun d => d.fld F.HRT_BANK_STATUS_state b = 0 ∧
        d.fld F.HRT_SPARE_CTRL_spares_free (b.val / 128) = free - 1 ∧ d.fld F.HRT_BANK_STATUS_spare b = 3 - free ∧
        d.evtPending Ev.HRT_BANK_RETIRED.code = true))


/-- From R207, R239. A Sweeper takes the next record of its range, the end of a scan, and the report of a slow visit.
Choices of the model in it: log entry 43. -/
def Obligations.SweeperScan : Prop :=
  ∀ (s : State) (die : Fin 2) (n : Fin 32), s.dev.forwards = true →
    (∀ rec, s.dev.nextRecord die (s.dev.sweep die n) = some rec → ∀ i, s.dev.imgNow die rec = some i →
      (∀ ix, s.dev.fld F.FLW_HBM_CH_STATUS_ue_window ix = 0 ∧ s.dev.fld F.FLW_HBM_CH_STATUS_ce_window ix = 0) →
      s.dev.swp.scanning.num die ≠ 0 → s.dev.swpState die n = 0 → (s.dev.sweep die n).visit = none →
      (s.dev.sweep die n).waiting = none → s.dev.resident die rec = none → s.dev.deadRule i = none → i.hasDeltas = false →
      Runs (.sweeperVisit die n false) s (fun d => d.flw.tags.num die rec = 1 ∧
        ∃ v, (d.sweep die n).visit = some v ∧ v.record = rec ∧ v.loaded = true ∧ (d.sweep die n).ctx.pc = 0)) ∧
    (∀ bad, s.dev.swp.scanning.num die ≠ 0 → (∀ k ∈ s.dev.swpServing die, (s.dev.sweep die k).visit = none ∧
        (s.dev.sweep die k).waiting = none ∧ s.dev.nextRecord die (s.dev.sweep die k) = none) →
      Runs (.sweeperScanEnd die bad) s (fun d => d.swp.scanning.num die = 0)) ∧
    (∀ v, (s.dev.sweep die n).visit = some v → (s.dev.sweep die n).slow = false →
      (s.dev.sweep die n).since + edgesUs 10 < s.clk.phys →
      Does (.visitSlow die n) s ([.swp] ++ evtParts) [] (fun d => (d.sweep die n).slow = true ∧
        d.evtPending Ev.SWP_VISIT_SLOW.code = true))


/-- From R218, R219, R222, R230. A packet at the head of the dispatch queue starts its routine on a free engine of the
only cluster that has the routine. The sequencer's codes once both slots of the word are done: the next address, a
jump, the two branches, and the two ends of a routine. Choices of the model in it: log entries 47, 52. -/
def Obligations.EngineDispatchAndSequencer : Prop :=
  (∀ (s : State) (p : Fin 32), s.dev.forwards = true → s.dev.fld F.ENG_HOLD_ack p = 0 →
      ∀ id rest, (s.dev.pipe p).dispatchQ = id :: rest → ∀ x, s.dev.pkt id = some x → x.id = id →
      let opcode := bitsOf (x.cls.action.getD 0 0) 0 8
      ∀ k inst, (s.dev.rotation p).filterMap (fun k => match s.dev.clusterStore p k with
        | some inst => if s.dev.hasRoutine inst opcode then some (k, inst) else none
        | none => none) = [(k, inst)] →
      ∀ e, s.dev.freeEngine inst = some e →
      Runs (.engineDispatch p) s (fun d => (d.pipe p).dispatchQ = rest ∧
        (∃ y, d.pkt id = some y ∧ y.loc = .running k e) ∧
        ∃ r, d.run inst e = some r ∧ r.pkt = id ∧ r.opcode = opcode ∧ r.pc = bitsOf (s.dev.dispatchEntry inst opcode) 0 13 ∧
          r.startAt = s.clk.core)) ∧
  (∀ (s : State) (inst : Fin 256) (e : Fin 8), s.dev.forwards = true →
      ∀ r w, s.dev.current s.clk inst e = some (r, w) → ∀ x, s.dev.pkt r.pkt = some x → x.id = r.pkt →
      r.slots.complete w.alu w.mem = true →
      let goes := fun (i : Instr) (pc : Nat) => Runs i s (fun d => ∃ r', d.run inst e = some r' ∧ r'.pc = pc % 8192 ∧
        r'.slots = Slots.none ∧ r'.regs = r.slots.regs r.regs ∧ r'.flags = r.slots.flags.getD r.flags)
      (w.seq = 0 → goes (.next inst e) (r.pc + 1)) ∧
      (w.seq = 1 → (r.customer = false ∨ 0x1800 ≤ w.target) → goes (.jump inst e) w.target) ∧
      (w.seq = 2 → (r.customer = false ∨ 0x1800 ≤ w.target) →
        goes (.brT inst e) (if condHolds x r w.cond then w.target else r.pc + 1)) ∧
      (w.seq = 3 → (r.customer = false ∨ 0x1800 ≤ w.target) →
        goes (.brF inst e) (if condHolds x r w.cond then r.pc + 1 else w.target)) ∧
      (w.seq = 4 → r.exhausted = none → Runs (.commit inst e) s (fun d => d.run inst e = none)) ∧
      (w.seq = 5 → Runs (.abort inst e) s (fun d => d.run inst e = none ∧ d.pkt r.pkt = none)) ∧
      (w.seq = 6 ∨ w.seq = 7 → Runs (.illegalSeq inst e) s (fun d => d.run inst e = none ∧ d.pkt r.pkt = none)))


/-- From R224. Every ALU operation's result, on 32 bits under alu_w32 and on 64 bits otherwise, waits in the slot for the
word's end; the flags are set as R224 says, by CMP always and by the others under alu_flags. A Sweeper's ALU slot does
what R224 gives each operation, on the Sweeper's own registers. Choices of the model in it: log entries 47, 52. -/
def Obligations.AluResults : Prop :=
  (∀ (s : State) (inst : Fin 256) (e : Fin 8), s.dev.forwards = true →
      ∀ r w, s.dev.current s.clk inst e = some (r, w) → r.slots.aluDone = false →
      let p := Issuer.engine inst e
      let n := if w.alu.w32 then 32 else 64
      let x := (gReg r.regs w.alu.a).toNat % 2 ^ n
      let y := (if w.alu.useImm then immOf w.imm w.alu.w32 else (gReg r.regs w.alu.b).toNat) % 2 ^ n
      (∀ t ∈ [(Instr.add p, 1, (x + y) % 2 ^ n, decide (2 ^ n ≤ x + y)),
          (.sub p, 2, (x + 2 ^ n - y) % 2 ^ n, decide (x < y)), (.and p, 3, x &&& y, false), (.or p, 4, x ||| y, false),
          (.xor p, 5, x ^^^ y, false), (.shl p, 6, x * 2 ^ (y % 64) % 2 ^ n, false), (.shr p, 7, x / 2 ^ (y % 64), false),
          (.sar p, 8, unsigned n (signed n x / ((2 ^ (y % 64) : Nat) : Int)), false), (.mov p, 9, y, false),
          (.min p, 11, if x ≤ y then x else y, false), (.max p, 12, if x ≤ y then y else x, false),
          (.csum p, 13, onesSum (Machine.beBytes 8 x ++ Machine.beBytes 8 y) % 2 ^ n, false),
          (.bswap p, 14, ofBeBytes (leBytes (n / 8) x), false), (.tsdiff p, 15, unsigned n (tsDiff x y), false)],
        w.alu.op = t.2.1 → Does t.1 s [.eng] [] (fun d => ∃ r', d.run inst e = some r' ∧ r'.slots.aluDone = true ∧
          r'.slots.aluW = some (w.alu.dst, BitVec.ofNat 64 t.2.2.1) ∧ r'.regs = r.regs ∧ r'.pc = r.pc ∧
          r'.slots.flags = if w.alu.setFlags then some ⟨t.2.2.1 == 0, bitOf t.2.2.1 (n - 1), t.2.2.2⟩ else r.slots.flags)) ∧
      (w.alu.op = 10 → Does (.cmp p) s [.eng] [] (fun d => ∃ r', d.run inst e = some r' ∧ r'.slots.aluDone = true ∧
        r'.slots.aluW = r.slots.aluW ∧ r'.slots.flags =
          some ⟨(x + 2 ^ n - y) % 2 ^ n == 0, bitOf ((x + 2 ^ n - y) % 2 ^ n) (n - 1), decide (x < y)⟩)) ∧
      (w.alu.op = 0 → Does (.nop p) s [.eng] [] (fun d => ∃ r', d.run inst e = some r' ∧ r'.slots.aluDone = true ∧
        r'.slots.aluW = r.slots.aluW ∧ r'.slots.flags = r.slots.flags))) ∧
  (∀ (s : State) (die : Fin 2) (n : Fin 32), s.dev.forwards = true →
      ∀ v w, s.dev.swpCurrent die n = some (s.dev.sweep die n, v, w) → (s.dev.sweep die n).slots.aluDone = false →
      ∀ t ∈ [(Instr.nop (.sweeper die n), 0), (.add (.sweeper die n), 1), (.sub (.sweeper die n), 2),
          (.and (.sweeper die n), 3), (.or (.sweeper die n), 4), (.xor (.sweeper die n), 5), (.shl (.sweeper die n), 6),
          (.shr (.sweeper die n), 7), (.sar (.sweeper die n), 8), (.mov (.sweeper die n), 9), (.cmp (.sweeper die n), 10),
          (.min (.sweeper die n), 11), (.max (.sweeper die n), 12), (.csum (.sweeper die n), 13),
          (.bswap (.sweeper die n), 14), (.tsdiff (.sweeper die n), 15)],
        (w.alu.op = t.2 → Does t.1 s [.swp] [] (fun d => (d.sweep die n).ctx = (s.dev.sweep die n).ctx ∧
          (d.sweep die n).slots = aluRun (s.dev.sweep die n).ctx.regs (s.dev.sweep die n).slots w.alu w.imm)) ∧
        (w.alu.op ≠ t.2 → Does t.1 s [] [] (fun _ => True)))


/-- From R225, R226, R285. The memory slot: loads, stores to the allowed bytes of metadata, scratch and flow writes,
buffered edits and counter additions, unit calls, the time, and the illegal codes. Choices of the model in it: log
entry 47. -/
def Obligations.MemorySlotOperations : Prop :=
  ∀ (s : State) (inst : Fin 256) (e : Fin 8), s.dev.forwards = true →
    ∀ r w, s.dev.current s.clk inst e = some (r, w) → ∀ x, s.dev.pkt r.pkt = some x → x.id = r.pkt → r.slots.memDone = false →
    let bs := loadBytes (s.dev.actSpace x r w.mem.space) (w.mem.at r.regs) w.mem.bytes
    let off := w.mem.at r.regs
    let v := gReg r.regs w.mem.reg
    let does := fun (i : Instr) (r' : Run) => Does i s [.eng] [] (fun d =>
      d.run inst e = some { r' with slots := { r'.slots with memDone := true } })
    let loads := fun (i : Instr) (n : Nat) =>
      does i { r with slots := { r.slots with memW := some (w.mem.reg, BitVec.ofNat 64 n) } }
    (w.mem.op = 1 → loads (.ld inst e) (ofLeBytes bs)) ∧
    (w.mem.op = 2 → loads (.ldn inst e) (ofBeBytes bs)) ∧
    (w.mem.op = 8 → loads (.ts inst e) s.clk.stamp.ts48) ∧
    (w.mem.op = 3 → w.mem.space = 4 → 29 ≤ off → off + w.mem.bytes ≤ 36 →
      does (.st inst e) { r with metaW := putBytes r.metaW off (leBytes w.mem.bytes v.toNat) }) ∧
    (w.mem.op = 3 → w.mem.space = 5 → off + w.mem.bytes ≤ 256 →
      does (.st inst e) { r with scratch := splice r.scratch off (leBytes w.mem.bytes v.toNat) }) ∧
    (w.mem.op = 3 → w.mem.space = 6 → 38 ≤ off → off + w.mem.bytes ≤ 52 → boundStore x off w.mem.bytes = false →
      does (.st inst e) { r with flowW := putBytes r.flowW off (leBytes w.mem.bytes v.toNat) }) ∧
    (w.mem.op = 3 → w.mem.space = 5 → 256 < off + w.mem.bytes →
      Does (.st inst e) s [.eng] [(F.ENG_CNT_count, 10 * r.pipe + 9)] (fun d => d.run inst e = some r.memDone ∧
        d.fld F.ENG_CNT_count (10 * r.pipe + 9) = (s.dev.fld F.ENG_CNT_count (10 * r.pipe + 9) + 1) % 2 ^ 64)) ∧
    (w.mem.op = 4 → r.edits.length < 24 →
      does (.editRw inst e) { r with edits := r.edits ++ [.rw off (Machine.beBytes w.mem.bytes v.toNat)] }) ∧
    (w.mem.op = 5 → r.edits.length < 24 → does (.editOp inst e) { r with edits := r.edits ++ [.op w.imm] }) ∧
    (w.mem.op = 6 → r.counters.length < 8 → does (.cntAdd inst e) { r with counters := r.counters ++ [(w.imm, v)] }) ∧
    (w.mem.op = 7 → does (.unit inst e)
      { r with slots := { r.slots with call := some (callOf r.regs w.mem.reg w.unit w.fn) } }) ∧
    (9 ≤ w.mem.op → Runs (.illegalMem inst e) s (fun d => d.run inst e = none ∧ d.pkt r.pkt = none))


/-- From R226, R275. The unit functions that only read answer the oldest waiting call of that function, for an engine in
its packet's generation and for a Sweeper in the live one. A Sweeper holds no packet, so the unit functions that act
for a packet answer it with a failed status. Choices of the model in it: log entries 44, 51. -/
def Obligations.ReadingUnitCalls : Prop :=
  (∀ s : State, s.dev.forwards = true →
      let answer := fun (gen : Nat) (k : Call) (f : Nat) => match f with
        | 0 => CallRes.one (s.dev.hash64 (((List.range 4).map (fun i => leBytes 8 (k.op i))).flatten)).toNat 64
        | 1 => .one (Config.portPerm (s.dev.reg .FLW_BANK_KEY 0) (s.dev.reg .FLW_BANK_KEY 1) (k.op 0 % 65536)).val 16
        | 2 => .one (Config.portPermInv (s.dev.reg .FLW_BANK_KEY 0) (s.dev.reg .FLW_BANK_KEY 1) (k.op 0 % 65536)).val 16
        | 3 => (match s.dev.sub (k.op 0 % 2 ^ 18) with | some u => .wide (ofBeBytes u.addr) | none => .failed 1)
        | 4 => let b := k.op 0 % 2 ^ 20
          if s.dev.backend b 2 47 1 == 0 then .failed 1
          else .wide (s.dev.tw .LBL_BACKEND_TBL 0 b 0 + s.dev.tw .LBL_BACKEND_TBL 0 b 1 * 2 ^ 64)
        | 5 => let t := k.op 0 % 16
          (match s.dev.ventry .CLS_EXM_TBL
              [t, (k.op 1 + k.op 2 * 2 ^ 64 + k.op 3 * 2 ^ 128) % 2 ^ s.dev.exmWidth t] gen with
            | some e => .one (e.data.getD 0 0 % 2 ^ 32) 32
            | none => .failed 1)
        | _ => (match s.dev.nhEntry (k.op 0 % 2 ^ 20) gen with | some v => .wide v | none => .failed 1)
      let calls := fun (p : Issuer) => [(Instr.hash64 p, 0, 1, 0), (.pi p, 0, 2, 1), (.piInv p, 0, 3, 2), (.subRead p, 1, 3, 3),
        (.backendRead p, 2, 2, 4), (.lookup p, 6, 1, 5), (.nhRead p, 7, 1, 6)]
      (∀ (inst : Fin 256) (e : Fin 8) r, s.dev.run inst e = some r → ∀ x, s.dev.pkt r.pkt = some x →
        ∀ t ∈ calls (.engine inst e), ∀ k i, callIdx r.calls t.2.1 t.2.2.1 = some (k, i) →
          Does t.1 s [.eng] [] (fun d =>
            d.run inst e = some { r with calls := setRes r.calls i (answer x.gen k t.2.2.2) })) ∧
      (∀ (die : Fin 2) (n : Fin 32), ∀ t ∈ calls (.sweeper die n),
        ∀ k i, callIdx (s.dev.sweep die n).calls t.2.1 t.2.2.1 = some (k, i) →
          Does t.1 s [.swp] [] (fun d => d.sweep die n = { s.dev.sweep die n with
            calls := setRes (s.dev.sweep die n).calls i (answer s.dev.liveGen.1 k t.2.2.2) }))) ∧
  (∀ (s : State) (die : Fin 2) (n : Fin 32), s.dev.forwards = true →
      s.dev.fld F.NAT_HOLD_ack die = 0 → s.dev.fld F.LBL_HOLD_ack die = 0 →
      let p := Issuer.sweeper die n
      ∀ t ∈ [(Instr.snat p, 1, 1), (.xlate p, 1, 2), (.pick p, 2, 1), (.meter p, 3, 1), (.bind p, 4, 1), (.fragXlate p, 4, 2),
          (.fragRead p, 4, 3), (.hist p, 5, 1), (.ioam p, 5, 2), (.resolve p, 7, 2)],
        ∀ k i, callIdx (s.dev.sweep die n).calls t.2.1 t.2.2 = some (k, i) →
        Does t.1 s [.swp] [] (fun d => d.sweep die n = { s.dev.sweep die n with
          calls := setRes (s.dev.sweep die n).calls i (.failed 1) }))


/-- From R262, R276. SNAT reserves a port of the pool for the flow or reports an exhausted pool, and XLATE buffers the
edits that translate the packet's addresses. Choices of the model in it: log entries 53, 54. -/
def Obligations.TranslationUnitCalls : Prop :=
  ∀ (s : State) (inst : Fin 256) (e : Fin 8), s.dev.forwards = true →
    ∀ r, s.dev.run inst e = some r → ∀ x, s.dev.pkt r.pkt = some x → r.resv.length < 4 →
    (∀ k i, callIdx r.calls 1 1 = some (k, i) → ∀ pc, x.pclass = some pc → r.edits.length ≤ 24 →
      s.dev.fld F.NAT_HOLD_ack (inst.val / 128) = 0 → s.dev.fld F.NAT_CTRL_alloc_host = 0 →
      (∀ v ∈ r.resv, ∀ a b c d f g h, v ≠ .snat a b c d f g h) →
      let pool := k.op 0 % 256
      let fwd := x.parse.key
      let die := s.dev.bankOf fwd / 128
      let count := s.dev.fld F.NAT_POOL_CFG_count pool
      let zone := s.dev.fld F.NAT_POOL_CFG2_rev_zone pool
      let far := match r.picked with
        | some (_, b) => s.dev.backendEnd b (keyDport fwd)
        | none => (keyDst fwd, keyDport fwd)
      let at_ := fun (a : Nat) => s.dev.natPort die pool a pc
        (s.dev.natClass fwd far.1 far.2 (s.dev.natAddr a) zone (pc == 2)) (s.dev.natHash fwd % 256)
      count ≠ 0 → s.dev.basis zone ≠ 1 → v4Mapped (s.dev.natAddr (s.dev.fld F.NAT_POOL_CFG_first pool)) ≠ keyV6 fwd →
      let sc := s.dev.natScan die pool at_ (s.dev.natHash (keySrc fwd) % count) 4 0
      Runs (.snat (.engine inst e)) s (fun d => ∃ r', d.run inst e = some r' ∧
        (∀ a port, sc.2 = some (a, port) → ∀ sub, (sc.1.intern s.clk die (keySrc fwd)).2 = some sub →
          r'.calls = setRes r.calls i (.one (port + a * 65536) 26) ∧
          r'.resv = r.resv ++ [.snat die a pc port sub (keySport fwd) pool]) ∧
        (sc.2 = none → r'.calls = setRes r.calls i (.failed 2) ∧ r'.exhausted = some pool ∧ r'.resv = r.resv))) ∧
    (∀ k i, callIdx r.calls 1 2 = some (k, i) → s.dev.backendNow (r.view x) = .keep none →
      let es := x.xlateEdits (s.dev.xlateEnds (r.view x) (match x.flow with | some f => f.2.2 | none => false) none)
        (!x.parse.has .fragLater)
      r.edits.length + es.length ≤ 24 →
      Does (.xlate (.engine inst e)) s [.eng] [] (fun d => d.run inst e =
        some { r with edits := r.edits ++ es, calls := setRes r.calls i ⟨(0, 0), (0, 0), true⟩ })) ∧
    (∀ k i, callIdx r.calls 1 2 = some (k, i) → s.dev.backendNow (r.view x) = .drop → r.edits.length ≤ 24 →
      Does (.xlate (.engine inst e)) s [.eng] [] (fun d => d.run inst e =
        some { r with xdrop := true, calls := setRes r.calls i ⟨(0, 0), (0, 0), true⟩ }))


/-- From R138, R226, R269, R283, R286, R297, R344. The calls that reserve for COMMIT (PICK, METER, BIND, HIST, IOAM), the
fragment reads and RESOLVE; a call to a reserved unit fails. Choices of the model in it: log entries 44, 53. -/
def Obligations.ReservingUnitCalls : Prop :=
  ∀ (s : State) (inst : Fin 256) (e : Fin 8), s.dev.forwards = true →
    ∀ r, s.dev.run inst e = some r → ∀ x, s.dev.pkt r.pkt = some x → r.resv.length < 4 → r.edits.length ≤ 24 →
    let p := Issuer.engine inst e
    let die := r.pipe / 16
    let done : CallRes := ⟨(0, 0), (0, 0), true⟩
    (∀ k i, callIdx r.calls 2 1 = some (k, i) → ∀ b j, s.dev.pickFor (k.op 0 % 2 ^ 14) x.parse.key = some (b, j) →
      s.dev.fld F.LBL_HOLD_ack (inst.val / 128) = 0 → r.picked = none → s.dev.svc (k.op 0 % 2 ^ 14) 2 31 1 ≠ 0 →
      Runs (.pick p) s (fun d => d.run inst e = some { r with
        resv := r.resv ++ [.pick (k.op 0 % 2 ^ 14) b], calls := setRes r.calls i (.one b 20) })) ∧
    (∀ k i, callIdx r.calls 3 1 = some (k, i) → (∀ v ∈ r.resv, ∀ a b c d f, v ≠ .meter a b c d f) →
      let m := s.dev.meter s.clk die (k.op 0 % 65536) (min (k.op 1 % 4) 2) x.rxLen
      Runs (.meter p) s (fun d => d.run inst e = some { r with
        resv := r.resv ++ [.meter die (k.op 0 % 65536) m.2.2.1 m.2.2.2 m.2.1], calls := setRes r.calls i (.one m.2.1 2) })) ∧
    (∀ k i, callIdx r.calls 4 1 = some (k, i) → s.dev.fld F.NAT_CTRL_frag_host = 0 → (∀ v ∈ r.resv, ∀ a b c, v ≠ .bind a b c) →
      s.dev.binding s.clk die x.fragKey = none →
      s.dev.nat.binds.countP (fun b => b.die == die && b.live s.clk) < 65536 →
      Does (.bind p) s [.eng] [] (fun d => d.run inst e = some { r with
        resv := r.resv ++ [.bind (bitsOf (k.op 0) 28 1) (bitsOf (k.op 0) 0 28) (bitOf (k.op 0) 29)],
        calls := setRes r.calls i done })) ∧
    (∀ b, s.dev.binding s.clk die x.fragKey = some b → s.dev.fld F.NAT_CTRL_frag_host = 0 →
      (∀ k i, callIdx r.calls 4 3 = some (k, i) → Does (.fragRead p) s [.eng] [] (fun d =>
        d.run inst e = some { r with calls := setRes r.calls i ⟨(b.word, 30), (b.ts48, 48), true⟩ })) ∧
      (let img := (s.dev.imgNow b.recDie b.record).getD Img.empty
       let es := x.xlateEdits (s.dev.xlateEnds img b.dir (if img.lbValid then some img.backend else none)) false
       ∀ k i, callIdx r.calls 4 2 = some (k, i) → r.edits.length + es.length ≤ 24 →
       Runs (.fragXlate p) s (fun d => d.run inst e = some { r with
         edits := r.edits ++ es, calls := setRes r.calls i (.one b.word 30) }))) ∧
    (∀ k i, callIdx r.calls 5 1 = some (k, i) → (∀ v ∈ r.resv, ∀ h, v ≠ .hist h) →
      Does (.hist p) s [.eng] [] (fun d => d.run inst e = some { r with
        resv := r.resv ++ [.hist (k.op 0 % 32768)], calls := setRes r.calls i done })) ∧
    (∀ k i, callIdx r.calls 5 2 = some (k, i) → (∀ v ∈ r.resv, ∀ h, v ≠ .ioam h) →
      Does (.ioam p) s [.eng] [] (fun d => d.run inst e = some { r with
        resv := r.resv ++ [.ioam (k.op 0 % 32)], calls := setRes r.calls i done })) ∧
    (∀ k i, callIdx r.calls 7 2 = some (k, i) → ∀ h, s.dev.nhResolve (k.op 0 % 2 ^ 20) x.gen x.hash = some h →
      Does (.resolve p) s [.eng] [] (fun d =>
        d.run inst e = some { r with calls := setRes r.calls i (.one h 20) })) ∧
    (∀ (j : Nat) (c : Call), r.calls[j]? = some c → 8 ≤ c.unit → c.res = none →
      Does (.unitReserved p) s [.eng] [] (fun d => ∃ r', d.run inst e = some r' ∧
        r'.calls[j]? = some { c with res := some ⟨(0, 0), (0, 0), false⟩ }))


/-- From R226, R232, R244, R245, R246. A unit's answer leaves the list of calls and, for the latest call, sets the
condition of its success. The watchdog, a machine check and its replay, an engine's return, and a cluster's parity
error and reload. Choices of the model in it: log entries 57, 85. -/
def Obligations.EngineFaultsAndUnitResults : Prop :=
  (∀ (s : State) (call : Fin 8), s.dev.forwards = true →
      (∀ (inst : Fin 256) (e : Fin 8) r, s.dev.run inst e = some r → ∀ k, r.calls[call.val]? = some k → ∀ v, k.res = some v →
        Runs (.unitResult (.engine inst e) call) s (fun d => ∃ r', d.run inst e = some r' ∧
          r'.calls = r.calls.eraseIdx call ∧ r'.lastOk = if k.latest then v.ok else r.lastOk)) ∧
      (∀ (die : Fin 2) (n : Fin 32) k, (s.dev.sweep die n).calls[call.val]? = some k → ∀ v, k.res = some v →
        Runs (.unitResult (.sweeper die n) call) s (fun d =>
          (d.sweep die n).calls = (s.dev.sweep die n).calls.eraseIdx call ∧
          (d.sweep die n).lastOk = if k.latest then v.ok else (s.dev.sweep die n).lastOk))) ∧
  (∀ (s : State) (inst : Fin 256), s.dev.forwards = true →
      (∀ (e : Fin 8) r, s.dev.run inst e = some r → ∀ x, s.dev.pkt r.pkt = some x → x.id = r.pkt →
        (r.limit ≤ r.cycles s.clk → Runs (.watchdog inst e) s (fun d => d.run inst e = none ∧ d.pkt r.pkt = none)) ∧
        (x.mchecks < 2 → ∀ datapath, Runs (.engineMchk inst e datapath) s (fun d => d.run inst e = none ∧
          d.evtPending Ev.ENG_MCHK.code = true ∧ (d.pipe r.pipe).dispatchQ = x.id :: (s.dev.pipe r.pipe).dispatchQ ∧
          ∃ y, d.pkt r.pkt = some y ∧ y.mchecks = x.mchecks + 1 ∧ y.avoid = some inst.val ∧ y.loc = .dispatch)) ∧
        (2 ≤ x.mchecks → ∀ datapath, Runs (.engineMchk inst e datapath) s (fun d => d.run inst e = none ∧
          d.pkt r.pkt = none ∧ d.evtPending Ev.ENG_REPLAY_DROP.code = true))) ∧
      (∀ (p : Fin 32) (b : Fin 48), bitOf (s.dev.fld F.ENG_ENGINE_RETIRED_retired p) b = true →
        Does (.engineReturn p (BitVec.ofNat 48 (2 ^ b.val))) s []
          [(F.ENG_CLUSTER_STATUS_engines_out, 6 * p.val + b.val / 8), (F.ENG_ENGINE_RETIRED_retired, p)] (fun d =>
            bitOf (d.fld F.ENG_ENGINE_RETIRED_retired p) b = false ∧
            bitOf (d.fld F.ENG_CLUSTER_STATUS_engines_out (6 * p.val + b.val / 8)) (b.val % 8) = false)) ∧
      (isSpare inst = false →
        let ix := 6 * instPipe inst + inst.val % 8
        (s.dev.fld F.ENG_CLUSTER_STATUS_state ix = 0 → s.dev.eng.parityAt.num inst = 0 →
          Runs (.clusterParity inst) s (fun d => d.fld F.ENG_CLUSTER_STATUS_state ix = 1 ∧
            d.eng.parityAt.num inst = s.clk.phys + 1 ∧
            ∀ t, s.dev.standby (instDie inst) = some t → d.fld F.ENG_CLUSTER_STATUS_spare_in ix = 1 ∧
              d.fld F.ENG_CLUSTER_STATUS_spare_id ix = t)) ∧
        (s.dev.fld F.ENG_CLUSTER_STATUS_state ix = 1 → s.dev.roll.begun = false → s.dev.fld F.GLB_CORE_STATUS_in_service ≠ 0 →
          (∀ e < 8, s.dev.run inst e = none) →
          Runs (.clusterReloadDone inst true) s (fun d => d.fld F.ENG_CLUSTER_STATUS_state ix = 0) ∧
          Runs (.clusterReloadDone inst false) s (fun d => d.fld F.ENG_CLUSTER_STATUS_state ix = 5 ∧
            d.evtPending Ev.ENG_CLUSTER_RETIRED.code = true))))


/-- From R235, R237, R238, R240. A Sweeper's sequencer codes once both slots are done. A Sweeper's memory slot: loads from
the record, the visit and scratch, stores to the record and scratch, a push into a FIFO, a counter addition, a unit
call and the time. Choices of the model in it: log entries 43, 51, 52. -/
def Obligations.SweeperWords : Prop :=
  (∀ (s : State) (die : Fin 2) (n : Fin 32), s.dev.forwards = true →
      ∀ v w, s.dev.swpCurrent die n = some (s.dev.sweep die n, v, w) → (s.dev.sweep die n).slots.complete w.alu w.mem = true →
      w.mem.op < 7 →
      let x := s.dev.sweep die n
      let goes := fun (i : Instr) (pc : Nat) => Runs i s (fun d => (d.sweep die n).ctx.pc = pc % 4096 ∧
        (d.sweep die n).slots = Slots.none ∧ (d.sweep die n).ctx.regs = x.slots.regs x.ctx.regs ∧
        (d.sweep die n).ctx.flags = x.slots.flags.getD x.ctx.flags ∧ d.fld F.SWP_STATUS_pc (32 * die.val + n) = pc % 4096)
      (w.seq = 0 → goes (.swpNext die n) (x.ctx.pc + 1)) ∧
      (w.seq = 1 → goes (.swpJump die n) w.target) ∧
      (w.seq = 2 → s.dev.fld F.PRF_SAMPLE_CTRL_enable die = 0 → goes (.mway die n) (w.target / 16 * 16 + (w.target % 16 |||
        (w.used.zipIdx.foldl (fun m y => m + bit (s.dev.swpCond die n x v y.1) * 2 ^ y.2) 0)))) ∧
      (w.seq = 3 → s.dev.fld F.PRF_SAMPLE_CTRL_enable die = 0 →
        goes (.swpBrT die n) (if s.dev.swpCond die n x v (w.c.getD 0 0) then w.target else x.ctx.pc + 1)) ∧
      (w.seq = 4 → Runs (.ckpt die n) s (fun d => (d.sweep die n).ctx.pc = (x.ctx.pc + 1) % 4096 ∧
        (d.sweep die n).ckpt = (d.sweep die n).ctx)) ∧
      (w.seq = 5 → v.resident = false → Runs (.endVisit die n) s (fun d => (d.sweep die n).visit = none ∧
        (d.sweep die n).calls = [] ∧ d.flw.tags.num die v.record = 0)) ∧
      (6 ≤ w.seq → Runs (.swpIllegal die n) s (fun d => d.swp.abandoned.num die = 1))) ∧
  (∀ (s : State) (die : Fin 2) (n : Fin 32), s.dev.forwards = true →
      ∀ v w, s.dev.swpCurrent die n = some (s.dev.sweep die n, v, w) → (s.dev.sweep die n).slots.memDone = false →
      let x := s.dev.sweep die n
      let off := w.mem.at x.ctx.regs
      let g := gReg x.ctx.regs w.mem.reg
      let does := fun (i : Instr) (y : Sweep) => Does i s [.swp] [] (fun d =>
        d.sweep die n = { y with slots := { y.slots with memDone := true } })
      let loads := fun (i : Instr) (k : Nat) =>
        does i { x with slots := { x.slots with memW := some (w.mem.reg, BitVec.ofNat 64 k) } }
      (w.mem.op = 1 →
        (w.mem.space = 0 → loads (.swpLd die n) (ofLeBytes (loadBytes x.ctx.buf off w.mem.bytes))) ∧
        (w.mem.space = 1 → loads (.swpLd die n) (ofLeBytes (loadBytes (s.dev.visitInfo s.clk die v) off w.mem.bytes))) ∧
        (w.mem.space = 2 → loads (.swpLd die n) (ofLeBytes (loadBytes x.ctx.scratch off w.mem.bytes)))) ∧
      (w.mem.op = 2 →
        (w.mem.space = 0 → does (.swpSt die n)
          { x with ctx := { x.ctx with buf := splice x.ctx.buf off (leBytes w.mem.bytes g.toNat) } }) ∧
        (w.mem.space = 2 → does (.swpSt die n)
          { x with ctx := { x.ctx with scratch := splice x.ctx.scratch off (leBytes w.mem.bytes g.toNat) } })) ∧
      (w.mem.op = 3 → Runs (.push die n) s (fun d => (d.sweep die n).slots.memDone = true ∧
        d.fifos = (s.dev.fifPush s.clk (w.imm % 1024) (32 * die.val + n) ((List.range w.mem.bytes).map (fun i =>
          BitVec.ofNat 64 (ofLeBytes (loadBytes x.ctx.scratch (off + 8 * i) 8))))).1.fifos)) ∧
      (w.mem.op = 4 → w.imm < 2 ^ 18 → Does (.swpCntAdd die n) s [.swp, .tbls] [] (fun d =>
        (d.sweep die n).slots.memDone = true ∧
        d.tw .TEL_ACT_CNT die w.imm 0 = (s.dev.tw .TEL_ACT_CNT die w.imm 0 + g.toNat) % 2 ^ 64)) ∧
      (w.mem.op = 5 → does (.swpUnit die n)
        { x with slots := { x.slots with call := some (callOf x.ctx.regs w.mem.reg (bitsOf w.imm 12 4) (bitsOf w.imm 0 12)) } }) ∧
      (w.mem.op = 6 → loads (.swpTs die n) s.clk.stamp.ts48))


/-- From R242, R247. A Sweeper's machine check and reload, its pause by SWP_CTRL and the visit it gives up when paused for
more than 10 µs. Choices of the model in it: log entry 56. -/
def Obligations.SweeperFaultsAndPause : Prop :=
  ∀ (s : State) (die : Fin 2) (n : Fin 32), s.dev.forwards = true →
    (∀ datapath, s.dev.swpState die n = 0 → (s.dev.sweep die n).mchkAt = 0 →
      Runs (.sweeperMchk die n datapath) s (fun d => d.swpState die n = 2 ∧ (d.sweep die n).calls = [] ∧
        (d.sweep die n).slots = Slots.none ∧ (d.sweep die n).mchkAt = s.clk.phys + 1 ∧
        d.evtPending Ev.SWP_MCHK.code = true)) ∧
    (s.dev.swpState die n = 2 → s.dev.fld F.GLB_CORE_STATUS_in_service ≠ 0 →
      ((s.dev.sweep die n).waiting = none → Runs (.sweeperReloadDone die n true) s (fun d => d.swpState die n = 0 ∧
        (d.sweep die n).ctx = (s.dev.sweep die n).ckpt ∧ (d.sweep die n).lastOk = false)) ∧
      Runs (.sweeperReloadDone die n false) s (fun d => d.swpState die n = 3 ∧ d.evtPending Ev.SWP_RETIRED.code = true)) ∧
    (∀ mask : BitVec 32,
      (bitOf mask.toNat n = true → s.dev.swpState die n = 0 → (s.dev.sweep die n).slots = Slots.none →
        (s.dev.sweep die n).calls = [] → Runs (.sweeperPause die mask) s (fun d => d.swpState die n = 1 ∧
          (d.sweep die n).pausedAt = some s.clk.phys ∧ d.fld F.SWP_CTRL_pause die = mask.toNat)) ∧
      (bitOf mask.toNat n = false → s.dev.swpState die n = 1 → (s.dev.sweep die n).waiting = none →
        Runs (.sweeperPause die mask) s (fun d => d.swpState die n = 0 ∧ (d.sweep die n).pausedAt = none))) ∧
    (∀ t v, (s.dev.sweep die n).pausedAt = some t → s.dev.swpState die n = 1 → t + edgesUs 10 < s.clk.phys →
      (s.dev.sweep die n).visit = some v → v.resident = false →
      Runs (.visitAbandon die n) s (fun d => (d.sweep die n).visit = none ∧ d.swp.abandoned.num die = 1 ∧
        d.flw.tags.num die v.record = 0 ∧ d.swpState die n = 1))


/-- From R250, R252. A rollout begins with the download of its list, ends after its last unit, and is aborted. Choices of
the model in it: log entry 84. -/
def Obligations.RolloutLifecycle : Prop :=
  ∀ s : State, s.dev.forwards = true →
    (s.dev.rollBusy = false → s.dev.swapBusy = false → s.dev.coresUp = true →
      (1 ≤ s.dev.fld F.ENG_ROLL_CTRL_extents → s.dev.fld F.ENG_ROLL_CTRL_extents ≤ 1024 →
        Does .rolloutGo s [.out] [(F.ENG_ROLL_STATUS_clusters_done, 0), (F.ENG_ROLL_STATUS_sweepers_done, 0),
            (F.ENG_ROLL_STATUS_compat, 0), (F.ENG_ROLL_STATUS_state, 0), (F.ENG_ROLL_STATUS_error, 0)] (fun d =>
          d.fld F.ENG_ROLL_STATUS_state = 1 ∧ d.fld F.ENG_ROLL_STATUS_error = 0 ∧
          d.fld F.ENG_ROLL_STATUS_clusters_done = 0 ∧ d.out = s.dev.out ++
            [.hostRead (64 * s.dev.fld F.ENG_ROLL_LIST_list_addr) (16 * s.dev.fld F.ENG_ROLL_CTRL_extents)])) ∧
      (s.dev.fld F.ENG_ROLL_CTRL_extents = 0 → Runs .rolloutGo s (fun d => d.fld F.ENG_ROLL_STATUS_state = 7 ∧
        d.fld F.ENG_ROLL_STATUS_error = 3 ∧ d.evtPending Ev.ENG_ROLL_REJECTED.code = true))) ∧
    (∀ i rest, s.dev.roll.left = (1, i) :: rest → s.dev.coresUp = true → s.dev.roll.begun = true →
      (∀ e < 8, s.dev.run i e = none) →
      (rest = [] → s.dev.roll.aborting = false → Runs (.rolloutStepDone true) s (fun d =>
        d.fld F.ENG_ROLL_STATUS_state = 6 ∧ d.fld F.ENG_ROLL_STATUS_error = 0 ∧ d.evtPending Ev.ENG_ROLL_DONE.code = true)) ∧
      Runs (.rolloutStepDone false) s (fun d => d.fld F.ENG_ROLL_STATUS_state = 8 ∧ d.fld F.ENG_ROLL_STATUS_error = 5 ∧
        d.evtPending Ev.ENG_ROLL_REJECTED.code = true)) ∧
    (s.dev.rollBusy = true →
      (s.dev.roll.begun = true → Does .rolloutAbort s [.roll] [] (fun d => d.roll.aborting = true)) ∧
      (s.dev.roll.begun = false → s.dev.fld F.ENG_ROLL_STATUS_state ≠ 1 → Runs .rolloutAbort s (fun d =>
        d.fld F.ENG_ROLL_STATUS_state = 8 ∧ d.fld F.ENG_ROLL_STATUS_error = 7 ∧
        d.evtPending Ev.ENG_ROLL_REJECTED.code = true)))


/-- From R136, R264, R270, R272. Quarantined ports past their hold time and fragment bindings past their life are
released. A service's slots are rebuilt into the other bank, which becomes the service's bank when the rebuild ends.
Health probes of a backend: sent when due, answered within the limit, or failed at the limit. Choices of the model in
it: log entry 61. -/
def Obligations.ServicesAndHealth : Prop :=
  (∀ (s : State) (die : Fin 2), s.dev.forwards = true →
      Runs (.portQuarantineRelease die) s (fun d => d.nat.quar = s.dev.nat.quar.filter (fun q =>
          !(q.die == die.val && edgesS (s.dev.holdS q) ≤ s.clk.phys - q.at_)) ∧
        ∀ q, s.dev.nat.quar = [q] → q.die = die.val → edgesS (s.dev.holdS q) ≤ s.clk.phys - q.at_ →
          d.portUsed q.die q.addr q.pclass q.port = false) ∧
      Does (.fragBindingExpire die) s [.nat] [] (fun d =>
        d.nat.binds = s.dev.nat.binds.filter (fun b => b.die != die.val || b.live s.clk))) ∧
  (∀ s : State, s.dev.forwards = true →
      (∀ service : Fin 16384, s.dev.fld F.LBL_SVC_CMD_busy = 0 →
        Does (.rebuildGo service) s [.nat] [(F.LBL_SVC_CMD_service, 0), (F.LBL_SVC_CMD_busy, 0)] (fun d =>
          d.fld F.LBL_SVC_CMD_busy = 1 ∧ d.nat.rebuild = some service.val)) ∧
      (∀ service, s.dev.nat.rebuild = some service →
        Does .rebuildDone s ([.tbls, .nat] ++ evtParts) [(F.LBL_SVC_CMD_busy, 0)] (fun d =>
          d.fld F.LBL_SVC_CMD_busy = 0 ∧ d.nat.rebuild = none ∧ d.svc service 2 30 1 = 1 - s.dev.svc service 2 30 1 ∧
          d.svc service 2 32 22 = s.dev.svc service 2 32 22 ∧ d.evtPending Ev.LBL_REBUILD_DONE.code = true))) ∧
  (∀ (s : State) (b : Fin 1048576), s.dev.forwards = true → s.dev.coresUp = true →
      let p := s.dev.probe b
      (s.dev.probeKind b ≠ 0 → p.open_ = false → p.sentAt = 0 →
        Runs (.probeSend b) s (fun d => (d.probe b).open_ = true ∧ (d.probe b).sentAt = s.clk.phys + 1 ∧
          (d.probe b).goods = p.goods ∧ (d.probe b).fails = p.fails)) ∧
      (p.open_ = true → s.clk.phys + 1 - p.sentAt < s.dev.probeLimit b →
        Runs (.probeReply b) s (fun d => (d.probe b).goods = p.goods + 1 ∧ (d.probe b).fails = 0 ∧
          (d.probe b).open_ = false ∧
          (max 1 (s.dev.svc (s.dev.svcOf b) 3 31 4) ≤ p.goods + 1 → d.backend b 2 46 1 = 1))) ∧
      (p.open_ = true → s.dev.probeLimit b ≤ s.clk.phys + 1 - p.sentAt →
        Runs (.probeTimeout b) s (fun d => (d.probe b).fails = p.fails + 1 ∧ (d.probe b).goods = 0 ∧
          (d.probe b).open_ = false ∧
          (max 1 (s.dev.svc (s.dev.svcOf b) 3 27 4) ≤ p.fails + 1 → d.backend b 2 46 1 = 0))))


/-- From R294, R300, R302. The export's messages and templates leave in time, a port's bandwidth window closes with its
counts, and the profiler's counters are copied and cleared. Choices of the model in it: log entries 38, 39. -/
def Obligations.TelemetryPeriods : Prop :=
  ∀ s : State, s.dev.forwards = true →
    (∀ die : Fin 2, edgesMs 1 ≤ s.clk.phys - (s.dev.expMsg die).since →
      ((s.dev.expMsg die).recs4 ≠ [] ∨ (s.dev.expMsg die).recs6 ≠ []) →
      Runs (.exportMessageAge die) s (fun d => d.expMsg die = ⟨[], [], 0⟩ ∧
        d.tel.sent.num die = (s.dev.tel.sent.num die + (s.dev.expMsg die).recs4.length +
          (s.dev.expMsg die).recs6.length) % 2 ^ 32)) ∧
    (∀ die : Fin 2, s.dev.templateDue s.clk die = true →
      Runs (.templateSend die) s (fun d => d.tel.templAt.num die = s.clk.phys + 1 ∧
        d.fld F.TEL_CNT_count (11 * die.val + 2) = (s.dev.fld F.TEL_CNT_count (11 * die.val + 2) + 1) % 2 ^ 64)) ∧
    (∀ p : Fin 512, (s.dev.bw p).ends ≤ s.clk.stamp.units →
      Does (.portWindowEnd p) s [.tel] [(F.TEL_PORT_BW_RXB_rx_bytes, p), (F.TEL_PORT_BW_TXB_tx_bytes, p),
          (F.TEL_PORT_BW_FRM_tx_frames, p), (F.TEL_PORT_BW_FRM_rx_frames, p), (F.TEL_PORT_BW_SEQ_window_seq, p),
          (F.TEL_PORT_BW_SEQ_end_ts, p), (F.TEL_PORT_BW_LEN_last_len_ns, p), (F.TEL_PORT_BW_RXP_rx_peak, p),
          (F.TEL_PORT_BW_TXP_tx_peak, p)] (fun d =>
        d.fld F.TEL_PORT_BW_RXB_rx_bytes p = (s.dev.bw p).rxBytes % 2 ^ 64 ∧
        d.fld F.TEL_PORT_BW_TXB_tx_bytes p = (s.dev.bw p).txBytes % 2 ^ 64 ∧
        d.fld F.TEL_PORT_BW_FRM_rx_frames p = (s.dev.bw p).rxFrames % 2 ^ 32 ∧
        d.fld F.TEL_PORT_BW_SEQ_window_seq p = (s.dev.fld F.TEL_PORT_BW_SEQ_window_seq p + 1) % 2 ^ 16 ∧
        (d.bw p).rxBytes = 0 ∧ (d.bw p).start = (s.dev.bw p).ends)) ∧
    Does .prfSnap s [] ((List.range 512).map (fun i => (F.PRF_SNAP_snapshot, i))) (fun d =>
      ∀ i < 512, d.fld F.PRF_SNAP_snapshot i = s.dev.fld F.PRF_CNT_count i) ∧
    Does .prfClear s [] ((List.range 512).map (fun i => (F.PRF_CNT_count, i))) (fun d =>
      ∀ i < 512, d.fld F.PRF_CNT_count i = 0)


/-- From R314, R315, R320. A requester's segment request is granted within its quota, waits while the pool manager is
held, and a waiting request is granted or given up after 64 tries. A free releases a reference; the owner's free of
the last one returns the segment or retires a condemned one; a free of a free segment and a bad handle are evented.
Choices of the model in it: log entries 8, 58. -/
def Obligations.SegmentRequestsAndFrees : Prop :=
  (∀ s : State, s.dev.forwards = true →
      (∀ (die : Fin 2) (r : Fin 256) (k : Fin 3), s.dev.fld F.BPM_HOLD_ack die = 0 → s.dev.quotaOk die r k = true →
        s.dev.inUse die k < s.dev.segments die k →
        Runs (.segmentRequest die r k) s (fun d => ∃ ix g, d.bpm.segs.find? ⟨die, k, ix⟩ = some g ∧ g.owner = r.val ∧
          g.refs = 1 ∧ g.units = 0)) ∧
      (∀ (die : Fin 2) (r : Fin 256) (k : Fin 3), s.dev.fld F.BPM_HOLD_ack die = 1 →
        Does (.segmentRequest die r k) s [.bpm] [] (fun d =>
          d.bpm.retries = s.dev.bpm.retries ++ [⟨die, r, k, 0, none, 0⟩] ∧ d.bpm.segs = s.dev.bpm.segs)) ∧
      (∀ (n : Nat) w, s.dev.bpm.retries[n]? = some w → s.dev.fld F.BPM_HOLD_ack w.die = 0 → w.tries ≠ 0 →
        (w.pkt = none → s.dev.inUse w.die w.pool < s.dev.segments w.die w.pool →
          Runs (.segmentRetry n) s (fun d => d.bpm.retries = s.dev.bpm.retries.eraseIdx n ∧
            ∃ ix g, d.bpm.segs.find? ⟨w.die, w.pool, ix⟩ = some g ∧ g.owner = w.requester ∧ g.refs = 1)) ∧
        (s.dev.segments w.die w.pool ≤ s.dev.inUse w.die w.pool → w.tries + 1 < 64 →
          Does (.segmentRetry n) s [.bpm] [] (fun d =>
            d.bpm.retries = s.dev.bpm.retries.set n { w with tries := w.tries + 1 })))) ∧
  (∀ (s : State) (h : BitVec 24) (r : Fin 256), s.dev.forwards = true →
      (s.dev.badHandle h.toNat = true →
        Runs (.segmentFree h r) s (fun d => d.evtPending Ev.BPM_BAD_HANDLE.code = true ∧ d.bpm = s.dev.bpm)) ∧
      (s.dev.badHandle h.toNat = false →
        (s.dev.seg h.toNat = none →
          Runs (.segmentFree h r) s (fun d => d.evtPending Ev.BPM_DOUBLE_FREE.code = true ∧ d.bpm = s.dev.bpm)) ∧
        (∀ g, s.dev.seg h.toNat = some g → g.retired = false →
          (2 ≤ g.refs → Does (.segmentFree h r) s [.bpm] [] (fun d =>
            d.seg h.toNat = some { g with refs := g.refs - 1 })) ∧
          (g.refs < 2 → g.owner ≠ r.val → Runs (.segmentFree h r) s (fun d => d.seg h.toNat = some g ∧
            d.evtPending Ev.BPM_FOREIGN_FREE.code = true)) ∧
          (g.refs < 2 → g.owner = r.val → g.condemned = false →
            Runs (.segmentFree h r) s (fun d => d.seg h.toNat = none)) ∧
          (g.refs < 2 → g.owner = r.val → g.condemned = true → Runs (.segmentFree h r) s (fun d =>
            d.evtPending Ev.BPM_SEG_RETIRED.code = true ∧ ∃ g', d.seg h.toNat = some g' ∧ g'.retired = true)))))


/-- From R325, R327, R328, R330, R331. A word written into a FIFO with credits starts or ends an item, the consumer's last
word removes the item, and the idle timer, the flush and a stalled producer. Choices of the model in it: log entry 13. -/
def Obligations.FifoOperations : Prop :=
  ∀ (s : State) (f : Fin 1024), s.dev.forwards = true →
    let x := s.dev.fifo f
    (∀ (slot : Fin 4) data len, s.dev.fld F.FIF_CFG_enable f = 1 → s.dev.fld F.FIF_PROD_valid (4 * f.val + slot) = 1 →
      x.tail = none → x.partialItem = none → s.dev.fld F.FIF_CFG_mode f = 0 → 1 ≤ s.dev.credits f slot →
      Does (.fifoWrite f slot data false len) s [.fifos] [(F.FIF_PROD_held, 4 * f.val + slot), (F.FIF_STATUS_items, f),
          (F.FIF_STATUS_words, f), (F.FIF_STATUS_mid_item, f), (F.FIF_STATUS_holder, f)] (fun d =>
        (d.fifo f).partialItem = some ⟨slot, 0, [⟨data, false⟩]⟩ ∧ d.credits f slot = s.dev.credits f slot - 1 ∧
        d.fld F.FIF_STATUS_mid_item f = 1 ∧ d.fld F.FIF_STATUS_holder f = slot) ∧
      (s.dev.fld F.FIF_CFG_consumer f ≠ 2 → Runs (.fifoWrite f slot data true len) s (fun d =>
        (d.fifo f).whole = x.whole ++ [⟨slot, 0, [⟨data, false⟩]⟩] ∧ d.credits f slot = s.dev.credits f slot - 1))) ∧
    (∀ i rest, f.val ≠ exportFifo (f.val / 512) → x.whole = i :: rest → s.dev.fld F.FIF_CFG_mode f = 0 →
      i.words.length = x.reading.length + 1 →
      Runs (.fifoRead f 0) s (fun d => (d.fifo f).whole = rest ∧ (d.fifo f).reading = [] ∧
        (d.fifo f).lastRead = s.clk.phys)) ∧
    (s.dev.fld F.FIF_TIMER_idle f ≠ 0 → s.dev.fld F.FIF_CFG_consumer f ≠ 2 → x.whole ≠ [] →
      min (s.dev.fld F.FIF_TIMER_idle f) 15625 * 80 ≤ s.clk.phys - x.lastRead →
      Runs (.fifoIdleTimeout f) s (fun d => (d.fifo f).woken = true ∧ (d.fifo f).whole = x.whole)) ∧
    (s.dev.fld F.FIF_STATUS_flush_busy f = 0 → Runs (.fifoFlush f) s (fun d => (d.fifo f).whole = [] ∧
      (d.fifo f).partialItem = none ∧ d.fld F.FIF_STATUS_flush_busy f = 1 ∧ d.fld F.FIF_STATUS_items f = 0)) ∧
    (s.dev.fld F.FIF_STATUS_flush_busy f = 1 → x.tail = none →
      Does (.flushDone f) s evtParts [(F.FIF_STATUS_flush_busy, f)] (fun d => d.fld F.FIF_STATUS_flush_busy f = 0 ∧
        d.evtPending Ev.FIF_FLUSH_DONE.code = true)) ∧
    (∀ i, x.partialItem = some i → edgesUs 1 ≤ s.clk.phys - x.lastWrite →
      Runs (.producerStall f) s (fun d => (d.fifo f).partialItem = none ∧
        (d.fifo f).tail = some (i.slot, s.dev.fifLeft f i) ∧ d.evtPending Ev.FIF_PRODUCER_STALL.code = true))


/-- From R337, R348, R359. The scheduler's pick leaves its leaf queue and starts on the wire; at the stamp point the frame
leaves the device with its FCS; a port without a link drops its queues where so configured. Choices of the model in
it: log entries 14, 20. -/
def Obligations.FramesLeavePorts : Prop :=
  ∀ (s : State) (p lane : Fin 512), s.dev.forwards = true →
    (s.dev.fld F.SCH_HOLD_ack (dieOf p) = 0 → s.dev.pealPort p = false →
      s.dev.fld F.MAC_PORT_CFG_enable p = 1 → s.dev.fld F.MAC_PORT_STATUS_link_up p = 1 →
      let d1 := (s.dev.portLeaves p).foldl (fun d l => d.discardHead s.clk p l (d.leafQ (dieOf p) l)) s.dev
      let d2 := d1.gateWaits s.clk p
      let k := d2.pick s.clk p (d2.eligible s.clk p)
      d2.eligible s.clk p ≠ [] → ∀ f rest, k.1.leafQ (dieOf p) k.2 = f :: rest → f.ptpOff = none →
      ∀ ahead var : BitVec 24, Runs (.dequeue p lane ahead var .good) s (fun d => d.leafQ (dieOf p) k.2 = rest ∧
        ∃ w, d.sch.wire.get (fun _ => []) ⟨p, 0, 0⟩ = k.1.sch.wire.get (fun _ => []) ⟨p, 0, 0⟩ ++ [w] ∧ w.frame = f ∧
          w.badFcs = false)) ∧
    (∀ w rest, s.dev.sch.wire.get (fun _ => []) ⟨p, 0, 0⟩ = w :: rest → s.dev.pealPort p = false → w.frame.ioam = none →
      w.frame.hist = none → w.frame.compat = none → w.frame.txRing = none →
      Runs (.egressCapture p) s (fun d => d.sch.wire.get (fun _ => []) ⟨p, 0, 0⟩ = rest ∧
        (w.frame.seg = none → d.out = s.dev.out ++ [.frame p (w.frame.bytes ++
          (if w.badFcs then (fcs w.frame.bytes).map (fun b => ~~~b) else fcs w.frame.bytes)) w.stamp])))


/-- From R351, R352. A port's gate list: made pending, aborted, taken over at its time, followed at its boundaries, and
disabled. Choices of the model in it: log entry 14. -/
def Obligations.GateLists : Prop :=
  ∀ (s : State) (p : Fin 512), s.dev.forwards = true →
    (s.dev.fld F.SCH_GATE_STATUS_pending p = 0 →
      Does (.gateGo p) s [.sch] [(F.SCH_GATE_STATUS_pending, p), (F.SCH_GATE_CHANGE_t_s, p), (F.SCH_GATE_CHANGE_t_ns, p)]
        (fun d => d.fld F.SCH_GATE_STATUS_pending p = 1 ∧ (d.gate p).oper = (s.dev.gate p).oper ∧
          (d.gate p).pend = some (s.dev.gateWritten p, (s.dev.gateWritten p).firstFrom (s.clk.stamp.units + nsUnits 10000)))) ∧
    Does (.gateAbort p) s [.sch] [(F.SCH_GATE_STATUS_pending, p)] (fun d =>
      d.fld F.SCH_GATE_STATUS_pending p = 0 ∧ (d.gate p).pend = none ∧ (d.gate p).oper = (s.dev.gate p).oper) ∧
    Does (.gateDisable p) s [.sch] ([(F.SCH_GATE_STATUS_pending, p.val), (F.SCH_GATE_CTRL_enable, p.val),
        (F.SCH_GATE_STATUS_operating, p.val), (F.SCH_GATE_STATUS_gates, p.val), (F.SCH_GATE_STATUS_entry, p.val)] ++
        (List.range 8).map (fun tc => (F.SCH_GATE_MAXOPEN_ns, 8 * p.val + tc))) (fun d =>
      d.gate p = ⟨none, none⟩ ∧ d.fld F.SCH_GATE_CTRL_enable p = 0 ∧ d.fld F.SCH_GATE_STATUS_gates p = 0xFF ∧
      d.fld F.SCH_GATE_STATUS_operating p = 0) ∧
    Does (.gateBoundary p) s [] [(F.SCH_GATE_STATUS_entry, p), (F.SCH_GATE_STATUS_gates, p)] (fun d =>
      d.fld F.SCH_GATE_STATUS_entry p = (s.dev.gatesNow p s.clk.stamp.units).1 % 2 ^ 10 ∧
      d.fld F.SCH_GATE_STATUS_gates p = (s.dev.gatesNow p s.clk.stamp.units).2 % 2 ^ 8) ∧
    (∀ l t, (s.dev.gate p).pend = some (l, t) → t ≤ s.clk.stamp.units →
      Runs (.gateTakeover p) s (fun d => d.gate p = ⟨some l, none⟩ ∧ d.fld F.SCH_GATE_STATUS_pending p = 0 ∧
        d.fld F.SCH_GATE_STATUS_operating p = 1 ∧ d.evtPending Ev.SCH_GATE_TAKEOVER.code = true))


/-- From R370. A step adds its amount to the clock, a set loads it, and both end a slew and raise EV_TIM_STEP; a slew
starts unless one runs, stops at once on an abort with its remainder readable, and reports its end. Choices of the
model in it: log entry 3. -/
def Obligations.ClockAdjustments : Prop :=
  ∀ s : State,
    let answers := fun (i : Instr) (P : State → Prop) => ∃ t, exec i s = .next t ∧ t.pending = s.pending ∧
      t.clk.phys = s.clk.phys ∧ t.clk.fifth = s.clk.fifth ∧ P t
    answers .stepGo (fun t => (t.clk.units : Int) =
        ((s.clk.units : Int) + s.dev.sfld F.TIM_STEP_amount * 2 ^ 32) % (2 ^ 48 * 10 ^ 9 * 2 ^ 48) ∧ t.clk.slew = none ∧
      t.dev.evtPending Ev.TIM_STEP.code = true ∧ t.dev.tim.stepEpoch = s.dev.tim.stepEpoch + 1) ∧
    answers .setGo (fun t => t.clk.slew = none ∧ t.dev.evtPending Ev.TIM_STEP.code = true ∧
      t.clk.sec = bitsOf (s.dev.fld F.TIM_SET_LO_time) 48 16 + bitsOf (s.dev.fld F.TIM_SET_HI_time) 0 32 * 2 ^ 16 ∧
      t.clk.ns = min (bitsOf (s.dev.fld F.TIM_SET_LO_time) 16 32) 999999999 ∧
      t.clk.frac = bitsOf (s.dev.fld F.TIM_SET_LO_time) 0 16 * 2 ^ 32) ∧
    (s.clk.slew = none → answers .slewGo (fun t => t.clk.units = s.clk.units ∧
      t.clk.slew = some ⟨min (max (s.dev.fld F.TIM_SLEW_rate_ppm) 1) 1000, s.dev.sfld F.TIM_SLEW_amount * 2 ^ 32, 0⟩ ∧
      t.dev.fld F.TIM_CNT_count 6 = (s.dev.fld F.TIM_CNT_count 6 + 1) % 2 ^ 64)) ∧
    (∀ w, s.clk.slew = some w →
      answers .slewGo (fun t => t.clk = s.clk ∧ t.dev.evtPending Ev.GLB_TRIGGER_BUSY.code = true) ∧
      answers .slewAbort (fun t => t.clk.units = s.clk.units ∧ t.clk.slew = none ∧
        t.dev.fld F.TIM_ADJ_STATUS_remaining = unsigned 48 w.remaining % 2 ^ 48)) ∧
    (s.clk.slewDue = true → ∃ t, exec .slewDone s = .next t ∧ t.pending = s.pending ∧ t.clk.slew = none ∧
      t.clk.phys = s.clk.phys + 1 ∧ t.dev.fld F.TIM_ADJ_STATUS_remaining = 0 ∧
      t.dev.evtPending Ev.TIM_SLEW_DONE.code = true)


/-- From R368, R373, R374, R376, R377, R380. The compatibility queue's pop, the pulse-per-second input and its loss, the
pulse output, and the 10 MHz measurement. The internal servo's states, time over a PEAL link, and its loss. Each
second's ledger record joins the open block, the sixtieth closes it, and the chiplets' temperatures enter the timing
terms. Choices of the model in it: log entry 19. -/
def Obligations.TimePinsServoAndLedger : Prop :=
  (∀ s : State,
      Does .txqPop s [.tim] [] (fun d => d.tim.txq = s.dev.tim.txq.drop 1) ∧
      (s.dev.fld F.TIM_PPS_CFG_in_en = 1 →
        let t := s.clk.stamp.addPs (-(s.dev.sfld F.TIM_PPS_CFG_in_delay))
        Does .ppsInEdge s [.tim] [(F.TIM_PPS_IN_LO_time, 0), (F.TIM_PPS_IN_HI_seconds_hi, 0), (F.TIM_PPS_IN_HI_valid, 0),
            (F.TIM_CNT_count, 9)] (fun d => d.fld F.TIM_PPS_IN_LO_time = t.lo % 2 ^ 64 ∧ d.fld F.TIM_PPS_IN_HI_valid = 1 ∧
          d.fld F.TIM_CNT_count 9 = (s.dev.fld F.TIM_CNT_count 9 + 1) % 2 ^ 64 ∧ d.tim.ppsInAt = s.clk.phys ∧
          d.tim.ppsInLost = false)) ∧
      (s.dev.fld F.TIM_PPS_CFG_in_en = 1 → s.dev.tim.ppsInLost = false → edgesMs 1500 ≤ s.clk.phys - s.dev.tim.ppsInAt →
        Does .ppsInLost s ([.tim] ++ evtParts) [] (fun d => d.tim.ppsInLost = true ∧
          d.evtPending Ev.TIM_PPS_IN_LOST.code = true)) ∧
      (s.dev.fld F.TIM_PPS_CFG_out_en = 1 → s.dev.tim.ppsOut = false → s.dev.ppsSecond s.clk ≠ s.dev.tim.ppsOutSec →
        Does .ppsOutRise s [.tim, .out] [] (fun d => d.tim.ppsOut = true ∧ d.tim.ppsOutAt = s.clk.phys ∧
          d.out = s.dev.out ++ [.pin .ppsOut true])) ∧
      (s.dev.tim.ppsOut = true → edgesUs (min (max (s.dev.fld F.TIM_PPS_CFG_out_width) 1) 1000) ≤ s.clk.phys - s.dev.tim.ppsOutAt →
        Does .ppsOutFall s [.tim, .out] [] (fun d => d.tim.ppsOut = false ∧ d.out = s.dev.out ++ [.pin .ppsOut false])) ∧
      (Does (.clk10mMeasure none) s [] [(F.TIM_CLK10_STATUS_present, 0), (F.CLK_REF_STATUS_ref10_valid, 0)] (fun d =>
        d.fld F.TIM_CLK10_STATUS_present = 0 ∧ d.fld F.CLK_REF_STATUS_ref10_valid = 0)) ∧
      (∀ a b : BitVec 24, Does (.clk10mMeasure (some (a, b))) s [] [(F.TIM_CLK10_STATUS_present, 0),
          (F.TIM_CLK10_STATUS_offset, 0), (F.CLK_REF_STATUS_ref10_valid, 0), (F.CLK_REF_STATUS_offset, 0)] (fun d =>
        d.fld F.TIM_CLK10_STATUS_present = 1 ∧ d.fld F.TIM_CLK10_STATUS_offset = a.toNat ∧
        d.fld F.CLK_REF_STATUS_ref10_valid = 1 ∧ d.fld F.CLK_REF_STATUS_offset = b.toNat))) ∧
  (∀ s : State, s.dev.forwards = true → s.dev.coresUp = true →
      (s.dev.fld F.TIM_CTRL_servo_host = 0 → s.dev.tim.servo = .acquiring →
        Does .servoLocked s [.tim] [] (fun d => d.tim.servo = .locked)) ∧
      (s.dev.fld F.TIM_CTRL_servo_host = 0 → s.dev.tim.servo = .acquiring ∨ s.dev.tim.servo = .locked →
        Does .sourceLost s [.tim] [] (fun d => d.tim.servo = .holdover)) ∧
      (∀ g, s.dev.fld F.TIM_PEAL_CFG_follow = 1 → s.dev.followGroup = some g →
        Runs .timeRequest s (fun d => d.tim.pealSeq = (s.dev.tim.pealSeq + 1) % 65536 ∧
          ∃ t1, d.tim.pealReq = some (s.dev.tim.pealSeq, t1))) ∧
      (∀ (g : Fin 64) (seq : BitVec 16), s.dev.mayTalk g 4 = true → s.dev.windowRoom g = false →
        Does (.timeRequestReceive g seq) s [.net] [] (fun d => (d.link g).waiting = (s.dev.link g).waiting ++
          partsOf ⟨4, timeHeader 1 seq.toNat s.dev.boardPos, (s.dev.rxStamp s.clk (groupLane g) 0).bytes ++
            (s.dev.txStamp s.clk (groupLane g) 0).bytes, 0⟩)) ∧
      (∀ x, s.dev.tim.pealReq = some x → ∀ (g : Fin 64) (seq : BitVec 16) t2 t3, x.1 = seq.toNat →
        Does (.timeResponse g seq t2 t3) s [.tim] [(F.TIM_CNT_count, 7)] (fun d => d.tim.pealReq = none ∧
          d.tim.pealLost = false ∧ d.tim.pealDoneAt = s.clk.phys ∧ d.tim.source = 3 ∧
          d.fld F.TIM_CNT_count 7 = (s.dev.fld F.TIM_CNT_count 7 + 1) % 2 ^ 64)) ∧
      (s.dev.tim.pealReq = none → ∀ (g : Fin 64) (seq : BitVec 16) t2 t3,
        Does (.timeResponse g seq t2 t3) s [] [(F.TIM_CNT_count, 8)] (fun d =>
          d.fld F.TIM_CNT_count 8 = (s.dev.fld F.TIM_CNT_count 8 + 1) % 2 ^ 64)) ∧
      (s.dev.fld F.TIM_PEAL_CFG_follow = 1 → s.dev.tim.pealLost = false → edgesMs 10 ≤ s.clk.phys - s.dev.tim.pealDoneAt →
        Does .pealTimeLost s ([.tim] ++ evtParts) [] (fun d => d.tim.pealLost = true ∧
          d.evtPending Ev.TIM_PEAL_LOST.code = true))) ∧
  (∀ s : State,
      (∀ info, s.dev.tim.openRecs.length < 59 →
        Does (.ledgerRecord info) s [.tim] [(F.TIM_LEDGER_STATUS_records, 0)] (fun d =>
          d.tim.openRecs = s.dev.tim.openRecs ++ [s.dev.ledgerRecord info] ∧ d.tim.blocks = s.dev.tim.blocks ∧
          d.tim.ledger.getLast? = some (s.dev.ledgerRecord info) ∧ d.tim.stepSum = 0 ∧
          d.fld F.TIM_LEDGER_STATUS_records = (s.dev.fld F.TIM_LEDGER_STATUS_records + 1) % 2 ^ 32)) ∧
      (∀ info, s.dev.tim.openRecs.length = 59 → s.dev.fld F.SEC_STATUS_debug_opened = 0 →
        Runs (.ledgerRecord info) s (fun d => d.tim.openRecs = [] ∧ d.evtPending Ev.TIM_LEDGER_SIGNED.code = true ∧
          d.fld F.TIM_LEDGER_STATUS_blocks = (s.dev.fld F.TIM_LEDGER_STATUS_blocks + 1) % 2 ^ 32)) ∧
      Does .temperatureTermUpdate s [.tim] [] (fun d =>
        ∀ j < 8, d.tim.chipTemp.get (fun _ => 0) ⟨j, 0, 0⟩ = s.dev.sfld F.PWR_TEMP_temp (24 + j)))


/-- From R386, R387, R405, R406, R407, R408. Tolls: the sequence sent, a peer's toll that admits it or names another
image, and the intervals after which a silent member is lost. The copying of flows between twins: its end image, its
completion, the merge and the host's completion. Choices of the model in it: log entry 62. -/
def Obligations.TollsAndKindling : Prop :=
  (∀ s : State, s.dev.forwards = true →
      (s.dev.fld F.BOOT_STATUS_phase = 7 → s.dev.pwr.tripAt = none →
        Runs .tollSend s (fun d => d.twn.tollSeq = (s.dev.twn.tollSeq + 1) % 2 ^ 32)) ∧
      (∀ (g : Fin 64) (pos : Fin 4) (seq : BitVec 32) (info : TollInfo), s.dev.fld F.PEL_GROUP_CFG_cable g = 0 →
        s.dev.fld F.TWN_STATUS_role = 0 → s.dev.fld F.BOOT_STATUS_phase ≠ 7 → seq.toNat % 100 ≠ 0 →
        (info.serial = s.dev.fld F.BOOT_IMAGE_SERIAL_image_serial →
          Runs (.tollReceive g pos seq info) s (fun d => d.fld F.PEL_PEER_STATUS_admitted pos = 1 ∧
            d.fld F.PEL_PEER_STATUS_lost pos = 0 ∧ d.fld F.PEL_PEER_STATUS_toll_seq pos = seq.toNat ∧
            (d.peer pos).info = some info ∧ (d.peer pos).tollIn = true)) ∧
        (info.serial ≠ s.dev.fld F.BOOT_IMAGE_SERIAL_image_serial →
          Runs (.tollReceive g pos seq info) s (fun d => d.fld F.PEL_PEER_STATUS_serial_mismatch pos = 1 ∧
            d.fld F.PEL_PEER_STATUS_admitted pos = s.dev.fld F.PEL_PEER_STATUS_admitted pos))) ∧
      (s.dev.fld F.TWN_STATUS_role = 0 → s.dev.others.Nodup → ∀ q ∈ s.dev.others, q < 4 →
        ((s.dev.peer q).tollIn = true → Runs .tollIntervalEnd s (fun d => (d.peer q).tollIn = false ∧
          (d.peer q).missedRun = 0 ∧ d.fld F.PEL_PEER_STATUS_missed q = 0)) ∧
        (∀ info, (s.dev.peer q).tollIn = false → (s.dev.peer q).missedRun = 2 → (s.dev.peer q).info = some info →
          s.dev.fld F.PEL_PEER_STATUS_lost q = 0 → s.dev.fld F.PEL_PEER_STATUS_admitted q = 1 →
          Runs .tollIntervalEnd s (fun d => d.fld F.PEL_PEER_STATUS_lost q = 1 ∧ d.fld F.PEL_PEER_STATUS_admitted q = 0 ∧
            d.fld F.PEL_PEER_STATUS_missed q = 3 ∧ d.evtPending Ev.PEL_MEMBER_LOST.code = true)))) ∧
  (∀ s : State, s.dev.forwards = true →
      (∀ (g : Fin 64) body key, s.dev.fld F.TWN_STATUS_role ≠ 0 → s.dev.fld F.TWN_STATUS_state = 2 →
        (s.dev.twn.keysAgree = true →
          (s.dev.twn.kindleEnd.num 1 = 0 → Does (.kindlingImage g 0 0 0 body key) s [.net, .twn] [] (fun d =>
            d.twn.kindleEnd.num 0 = leAt body 0 4 + 1)) ∧
          (s.dev.twn.kindleEnd.num 1 ≠ 0 → Does (.kindlingImage g 0 0 0 body key) s [.net, .twn]
            [(F.TWN_KINDLE_STATUS_kstate, 0)] (fun d => d.twn.kindleEnd.num 0 = leAt body 0 4 + 1 ∧
              d.fld F.TWN_KINDLE_STATUS_kstate = 4))) ∧
        (s.dev.twn.keysAgree = false → s.dev.flw.recs = ⟨[]⟩ → Runs (.kindlingImage g 0 0 0 body key) s (fun d =>
          d.reg .FLW_BANK_KEY 0 = key.1 ∧ d.reg .FLW_BANK_KEY 1 = key.2 ∧ d.twn.keysAgree = true))) ∧
      (s.dev.fld F.TWN_STATUS_state = 2 → s.dev.fld F.TWN_KINDLE_STATUS_kstate = 4 →
        s.dev.lag s.clk 0 ≤ s.dev.lagBound → s.dev.lag s.clk 1 ≤ s.dev.lagBound → s.dev.twn.lagBadAt = 0 →
        Does .kindleDone s ([.twn] ++ evtParts) [(F.TWN_STATUS_state, 0), (F.TWN_KINDLE_STATUS_kstate, 0)] (fun d =>
          d.fld F.TWN_STATUS_state = 3 ∧ d.fld F.TWN_KINDLE_STATUS_kstate = 0 ∧ d.twn.kindleEnd = ⟨[]⟩ ∧
          d.evtPending Ev.TWN_KINDLE_DONE.code = true)) ∧
      (s.dev.fld F.TWN_KINDLE_STATUS_kstate = 0 → s.dev.fld F.TWN_CTRL_resync_host = 0 → s.dev.fld F.TWN_STATUS_state = 3 →
        s.dev.seesEmber = true → Runs .kindleMerge s (fun d => d.fld F.TWN_KINDLE_STATUS_kstate = 3 ∧
          d.fld F.TWN_KINDLE_STATUS_progress = 255)) ∧
      (s.dev.fld F.TWN_KINDLE_STATUS_kstate ≠ 4 → s.dev.fld F.TWN_CTRL_resync_host = 1 → s.dev.fld F.TWN_STATUS_state = 2 →
        Does .kindleHostDone s [] [(F.TWN_KINDLE_STATUS_kstate, 0)] (fun d => d.fld F.TWN_KINDLE_STATUS_kstate = 4)))


/-- From R391, R392, R397, R398. The twin applies each Ember entry that is newer than the last applied one and no other.
Choices of the model in it: log entry 62. -/
def Obligations.EmberEntriesApplied : Prop :=
  ∀ (s : State) (g : Fin 64) (die : Fin 2) (seq : BitVec 32) (body : List Byte), s.dev.forwards = true →
    (seqNewer seq.toNat (s.dev.twn.applied.num die) = false →
      ∀ i ∈ [Instr.emberInsert g die seq body, .emberUpdate g die seq body, .emberHostUpdate g die seq body,
          .emberDelete g die seq body, .emberCounter g die seq body, .emberTouch g die seq body],
        Does i s [.net] [] (fun d => d.net = (s.dev.takeInbox g 1).net)) ∧
    (seqNewer seq.toNat (s.dev.twn.applied.num die) = true → s.dev.fld F.TWN_STATUS_role ≠ 0 →
      (∀ st, s.dev.underCreation (recOf body) = false → s.dev.cmdFlow (recOf body).fwd = some (.error st) →
        Runs (.emberInsert g die seq body) s (fun d => d.twn.applied.num die = seq.toNat)) ∧
      (∀ hd n dir, s.dev.cmdFlow (bodyKey body) = some (.ok (hd, n, dir)) → ∀ r, s.dev.frec hd n = some r →
          (s.dev.imgNow hd n).isSome = true →
          Runs (.emberUpdate g die seq body) s (fun d => d.twn.applied.num die = seq.toNat ∧
            ∃ j, d.imgNow hd n = some j ∧ j.state = leAt body 44 4 ∧ j.opA = leAt body 48 5 ∧ j.opB = leAt body 53 5) ∧
          Runs (.emberDelete g die seq body) s (fun d => d.twn.applied.num die = seq.toNat ∧ d.frec hd n = none) ∧
          Runs (.emberCounter g die seq body) s (fun d => d.twn.applied.num die = seq.toNat ∧
            ∃ r', d.frec hd n = some r' ∧ r'.lastSeenS = laterS r.lastSeenS (leAt body 56 2)) ∧
          Runs (.emberTouch g die seq body) s (fun d => d.twn.applied.num die = seq.toNat ∧
            ∃ r', d.frec hd n = some r' ∧ r'.lastSeenS = laterS r.lastSeenS (leAt body 44 2))) ∧
      (∀ hd n dir, s.dev.cmdFlow (recOf body).fwd = some (.ok (hd, n, dir)) → (s.dev.frec hd n).isSome = true →
          (s.dev.imgNow hd n).isSome = true →
          Runs (.emberHostUpdate g die seq body) s (fun d => d.twn.applied.num die = seq.toNat ∧
            ∃ r', d.frec hd n = some r' ∧ r'.timeoutSel = (recOf body).timeoutSel ∧
              r'.flowClass = (recOf body).flowClass)))


/-- From R394, R397, R400. Acknowledgements, the walk that sends counters, and Ember coming up. Choices of the model in
it: log entries 62, 71. -/
def Obligations.EmberFlowControl : Prop :=
  ∀ (s : State) (die : Fin 2), s.dev.forwards = true →
    (∀ (g : Fin 64) (seq : BitVec 32), seqNewer seq.toNat (s.dev.fld F.TWN_STREAM_STATUS_acked_seq die) = true →
      Runs (.emberAck g die seq) s (fun d => d.fld F.TWN_STREAM_STATUS_acked_seq die = seq.toNat)) ∧
    (∀ (b : Fin 256) st w e, s.dev.flw.hearth.cells = [(⟨b, st, w⟩, .entry e)] → b.val / 128 = die.val →
      e.isRecord = true → e.img.hasDeltas = true → e.lock = false →
      Runs (.counterWalk die) s (fun d => ∃ e', d.entry b st w = some e' ∧ e'.img = e.img.zeroDeltas ∧ e'.dirty = true)) ∧
    (∀ key t, s.dev.twinInfo = some t → s.dev.emberUp die = false → s.dev.seesEmber = true → t.seesEmber = true →
      s.dev.twn.keysAgree = true → s.dev.unacked die = [] → s.dev.backlog die = [] → s.dev.twn.overflow.num die = 0 →
      Does (.emberUp die key) s [.twn] [(F.TWN_STATUS_ember, 0)] (fun d => d.emberUp die = true)) ∧
    (s.dev.emberUp die = true → s.dev.backlog die = [] → s.dev.twn.holdsOn.num die = 0 →
      s.dev.lag s.clk die ≤ s.dev.lagBound →
      Does (.backlogDrained die) s ([.twn] ++ evtParts) [(F.TWN_STATUS_ember, 0)] (fun d =>
        d.twn.holdsOn.num die = 1 ∧ d.evtPending Ev.TWN_EMBER_UP.code = true))


/-- From R412, R413, R414. Writes distributed by a peer take effect where PEL_DIST_CFG accepts the peer, at once or when
due, and are refused with an event elsewhere; the digest list is answered. The results of a command distributed to the
group are collected, a silent peer counts as refusing after 1 ms, and a lasting difference of digests is captured and
evented. Choices of the model in it: log entry 92. -/
def Obligations.GroupDistribution : Prop :=
  (∀ (s : State) (g : Fin 64) (tag : BitVec 16), s.dev.emberUp 0 = false → s.dev.emberUp 1 = false →
      let base := BitVec.ofNat 32 Reg.FLW_TIMEOUT.base
      (bitOf (s.dev.fld F.PEL_DIST_CFG_accept) (s.dev.linkPeer g) = true →
        (∀ v : BitVec 32, (s.dev.takeInbox g 5).writeRefused s.clk 4 base.toNat v.toNat = false →
          Runs (.distWrite32 g tag base v) s (fun d => d.fld F.FLW_TIMEOUT_seconds 0 = v.toNat % 2 ^ 16)) ∧
        (∀ v : Word, (s.dev.takeInbox g 5).writeRefused s.clk 8 Reg.LBL_HASH_KEY.base v.toNat = false →
          Runs (.distWrite64 g tag (BitVec.ofNat 32 Reg.LBL_HASH_KEY.base) v) s (fun d => d.reg .LBL_HASH_KEY 0 = v)) ∧
        (∀ offset v (due : Stamp), Does (.distWrite64At g tag offset v due) s [.net, .dist] [] (fun d =>
          d.dist.held = s.dev.dist.held ++
            [⟨g, tag.toNat, s.dev.linkPeer g, offset.toNat, v.toNat, due.units * 2 ^ 32⟩])) ∧
        (s.dev.mayTalk g 5 = true → s.dev.windowRoom g = false → Does (.distDigestList g tag) s [.net] [] (fun d =>
          ∃ body, (d.link g).waiting = (s.dev.link g).waiting ++
            partsOf ⟨5, s.dev.distHeader 2 (s.dev.linkPeer g) tag.toNat, body, 0⟩))) ∧
      (bitOf (s.dev.fld F.PEL_DIST_CFG_accept) (s.dev.linkPeer g) = false →
        ∀ (offset value : BitVec 32) (due : Stamp) (v : Word),
          ∀ i ∈ [Instr.distWrite32 g tag offset value, .distWrite64 g tag offset v, .distWrite64At g tag offset v due,
              .distDigestList g tag],
            Runs i s (fun d => d.evtPending Ev.PEL_DIST_REFUSED.code = true ∧ d.tbls = s.dev.tbls ∧
              d.dist = s.dev.dist)) ∧
      (∀ h, s.dev.dist.held.find? (fun h => h.due ≤ s.clk.units) = some h → h.offset = Reg.LBL_HASH_KEY.base →
        ({ s.dev with dist := { s.dev.dist with held := s.dev.dist.held.erase h } } : Dev).writeRefused s.clk 8 h.offset h.value = false →
        h.value < 2 ^ 64 →
        Runs .distWriteAtExecute s (fun d => d.dist.held = s.dev.dist.held.erase h ∧
          d.reg .LBL_HASH_KEY 0 = BitVec.ofNat 64 h.value))) ∧
  (∀ s : State,
      (∀ k, s.dev.dist.cur = some k → ∀ (g : Fin 64) (tag : BitVec 16) refused, k.tag = tag.toNat →
        k.waiting.contains (s.dev.linkPeer g) = true → k.waiting.filter (fun x => x != s.dev.linkPeer g) ≠ [] →
        Does (.distResult g tag refused) s [.net, .dist] [] (fun d => ∃ k', d.dist.cur = some k' ∧
          k'.waiting = k.waiting.filter (fun x => x != s.dev.linkPeer g) ∧ k'.tag = k.tag)) ∧
      (∀ k, s.dev.dist.cur = some k → ∀ q : Fin 5, k.sentAt + edgesMs 1 ≤ s.clk.phys → k.waiting.contains q.val = true →
        k.waiting.filter (fun x => x != q.val) ≠ [] → k.bytes.length = 32 →
        Does (.distSilent q) s [.dist] [] (fun d => ∃ k', d.dist.cur = some k' ∧
          k'.waiting = k.waiting.filter (fun x => x != q.val) ∧ bitOf (k'.bytes.getD 29 0).toNat q = true)) ∧
      (∀ (q : Fin 5) theirs, (s.dev.peer q).differAt ≠ 0 → (s.dev.peer q).diverged = false →
        edgesMs (max 1 (s.dev.fld F.TWN_DIGEST_CTRL_grace_ms)) ≤ s.clk.phys + 1 - (s.dev.peer q).differAt →
        (∀ g < 64, s.dev.linkPeer g ≠ q) → (s.dev.firstDiffer q theirs).isSome = true →
        s.dev.fld F.TWN_DIVERGE_CAPTURE_valid = 0 →
        Does (.digestDiverge q theirs) s ([.twn] ++ evtParts) [(F.TWN_DIVERGE_CAPTURE_valid, 0),
            (F.TWN_DIVERGE_CAPTURE_kind, 0), (F.TWN_DIVERGE_CAPTURE_peer, 0), (F.TWN_DIVERGE_CAPTURE_component, 0),
            (F.TWN_DIVERGE_CAPTURE_instance, 0)] (fun d => (d.peer q).diverged = true ∧
          d.fld F.TWN_DIVERGE_CAPTURE_valid = 1 ∧ d.fld F.TWN_DIVERGE_CAPTURE_peer = q.val ∧
          d.evtPending Ev.TWN_CFG_DIVERGE.code = true)))


/-- From R452, R454. A debug token that passes the checks opens the device and starts the clearing of its stores; one that
fails is counted and evented; the end of the clearing reports the scope. Choices of the model in it: log entries 72,
73. -/
def Obligations.DebugOpening : Prop :=
  ∀ s : State,
    (∀ (req : Fin 13) (n : BitVec 13), s.dev.fld F.SEC_CMD_STATUS_busy = 0 →
      Runs (.debugToken req n) s (fun d => if s.dev.tokenCheck (s.dev.blob n.toNat) = 0 then
        (d.sec.clearing = some (leAt (s.dev.blob n.toNat) 48 1) ∧ d.fld F.SEC_STATUS_debug_opened = 1 ∧
        d.pkts = ⟨[]⟩ ∧ d.net.keysDead = true ∧ d.net.masters = ⟨[]⟩)
        else
        (d.fld F.SEC_CMD_STATUS_result = s.dev.tokenCheck (s.dev.blob n.toNat) ∧ d.fld F.SEC_CMD_STATUS_busy = 0 ∧
        d.fld F.SEC_STATUS_deny_count = min 8 (s.dev.fld F.SEC_STATUS_deny_count + 1) ∧
        d.fld F.SEC_STATUS_chal_valid = 0 ∧ d.sec.clearing = s.dev.sec.clearing ∧
        d.evtPending Ev.SEC_DEBUG_DENIED.code = true))) ∧
    (∀ scope, s.dev.sec.clearing = some scope → Runs .storeClearDone s (fun d => d.sec.clearing = none ∧
      d.fld F.SEC_STATUS_scope = scope % 16 ∧ d.fld F.SEC_CMD_STATUS_busy = 0 ∧ d.fld F.SEC_CMD_STATUS_result = 0 ∧
      d.flw.recs = ⟨[]⟩ ∧ d.flw.hearth = ⟨[]⟩ ∧ d.evtPending Ev.SEC_DEBUG_OPENED.code = true ∧
      d.evtPending Ev.SEC_ZEROIZED.code = true))


/-- From R439, R443, R445, R448, R450. A fuse request that passes the checks burns; its end programs or revokes the anchor
it named. The quote, the challenge and its lapse, the epoch's commit to fuses, and the key ladder. Choices of the
model in it: log entries 68, 72, 74, 75. -/
def Obligations.FusesQuotesAndKeys : Prop :=
  (∀ s : State,
      (∀ (req : Fin 13) (n : BitVec 13), s.dev.fld F.SEC_CMD_STATUS_busy = 0 →
        let bs := s.dev.blob n.toNat
        Runs (.fuseRequest req n) s (fun d => if s.dev.fuseCheck bs = 0 then
          (d.sec.burning = some ⟨leAt bs 48 1, leAt bs 49 1, (bs.drop 64).take 64⟩ ∧ d.fld F.SEC_CMD_STATUS_busy = 1 ∧
          d.fuse = s.dev.fuse)
          else
          (d.fld F.SEC_CMD_STATUS_result = s.dev.fuseCheck bs ∧ d.fld F.SEC_CMD_STATUS_busy = 0 ∧ d.sec = s.dev.sec))) ∧
      (∀ op, s.dev.sec.burning = some op →
        Runs (.fuseProgramDone true) s (fun d => d.sec.burning = none ∧ d.fld F.SEC_CMD_STATUS_result = 0 ∧
          d.anchor (fuseDbg op.op) op.slot = (if fuseProgram op.op then
              { s.dev.anchor (fuseDbg op.op) op.slot with digest := op.digest, programmed := true }
            else { s.dev.anchor (fuseDbg op.op) op.slot with revoked := true })) ∧
        Runs (.fuseProgramDone false) s (fun d => d.sec.burning = none ∧ d.fld F.SEC_CMD_STATUS_result = 7 ∧
          d.evtPending Ev.SEC_FUSE_FAULT.code = true))) ∧
  (∀ (s : State) (req : Fin 13),
      (s.dev.fld F.SEC_CMD_STATUS_busy = 0 →
        (4 ≤ s.dev.fld F.BOOT_STATUS_phase → s.dev.fld F.BOOT_STATUS_phase ≠ 9 → s.dev.fld F.SEC_STATUS_ladder_ready = 1 →
          Runs (.quote req) s (fun d => d.fld F.SEC_CMD_STATUS_result = 0 ∧ d.fld F.SEC_CMD_STATUS_busy = 0 ∧
            d.fld F.SEC_CMD_STATUS_requester = req.val)) ∧
        (s.dev.fld F.BOOT_STATUS_phase < 4 → Runs (.quote req) s (fun d => d.fld F.SEC_CMD_STATUS_result = 5 ∧
          d.tbls = s.dev.tbls)) ∧
        Runs (.newChallenge req) s (fun d => d.fld F.SEC_STATUS_chal_valid = 1 ∧ d.sec.chalAt = s.clk.phys ∧
          d.fld F.SEC_CMD_STATUS_result = 0 ∧ d.fld F.SEC_CMD_STATUS_busy = 0) ∧
        (s.dev.fld F.BOOT_STATUS_phase = 7 → s.dev.fld F.SEC_STATUS_debug_opened = 0 →
          Runs (.epochCommit req) s (fun d => d.fld F.SEC_CMD_STATUS_result = 0 ∧ s.dev.fuse.epoch ≤ d.fuse.epoch ∧
            d.fuse.epoch = max s.dev.fuse.epoch (min (s.dev.sec.fwVersion / 2 ^ 24) (min s.dev.sec.minEpoch 64)))) ∧
        (s.dev.fld F.BOOT_STATUS_phase ≠ 7 → Runs (.epochCommit req) s (fun d => d.fld F.SEC_CMD_STATUS_result = 5 ∧
          d.fuse = s.dev.fuse))) ∧
      (s.dev.fld F.SEC_STATUS_chal_valid = 1 → edgesS 600 ≤ s.clk.phys - s.dev.sec.chalAt →
        Does .challengeLapse s [] ((F.SEC_STATUS_chal_valid, 0) :: (List.range 4).map (fun k => (F.SEC_CHAL_value, k)))
          (fun d => d.fld F.SEC_STATUS_chal_valid = 0 ∧ ∀ k < 4, d.fld F.SEC_CHAL_value k = 0)) ∧
      (s.dev.fld F.BOOT_STATUS_phase ≠ 0 → s.dev.fld F.BOOT_STATUS_phase ≠ 9 → s.dev.fld F.SEC_STATUS_ladder_blocked = 0 →
        Does .ladderReady s [] [(F.SEC_STATUS_ladder_ready, 0)] (fun d => d.fld F.SEC_STATUS_ladder_ready = 1)))


/-- From R456. The test access port's instructions and what SECACC reaches. -/
def Obligations.TestAccessPort : Prop :=
  ∀ s : State,
    (∀ t ∈ [(Instr.bypass, 0), (.samplePreload, 2)], Does t.1 s [.sec] [] (fun d => d.sec.jtag = t.2 ∧
      d.sec.pinsOut = s.dev.sec.pinsOut)) ∧
    (∀ t ∈ [(Instr.extest, 3), (.clamp, 4), (.highz, 5), (.extestPulse, 6), (.extestTrain, 7)],
      Does t.1 s [.sec] [] (fun d => d.sec.jtag = t.2 ∧ d.sec.pinsOut = true)) ∧
    Does .idcode s [.sec, .out] [] (fun d => d.sec.jtag = 1 ∧ d.out = s.dev.out ++ [.readData 10 idcode]) ∧
    (∀ (addr : BitVec 27) size value, secReach addr.toNat = false →
      Does (.secacc true addr size value) s [.sec] [] (fun d => d.sec.jtag = 8) ∧
      Does (.secacc false addr size value) s [.sec, .out] [] (fun d => d.out = s.dev.out ++ [.readData 10 0])) ∧
    (∀ size value, Runs (.secacc false (BitVec.ofNat 27 Reg.SEC_STATUS.base) 8 value) s (fun d =>
      d.sec.jtag = 8 ∧ d.fld F.SEC_STATUS_scope = s.dev.fld F.SEC_STATUS_scope) ∧
      Runs (.secacc false (BitVec.ofNat 27 Reg.SEC_STATUS.base) size value) s (fun d => d.sec.jtag = 8))


/-- From R461, R464, R466, R469. Scrub reads count corrected errors by class, the window of a channel's errors ends, a
channel's loss is marked, and a quarantined record may be released. Choices of the model in it: log entry 81. -/
def Obligations.ScrubbingAndChannelLoss : Prop :=
  ∀ s : State, s.dev.forwards = true →
    (∀ ix, s.dev.fld F.FLW_HBM_CH_STATUS_ue_window ix = 0 ∧ s.dev.fld F.FLW_HBM_CH_STATUS_ce_window ix = 0) →
    (∀ h, Does (.scrubRead (.buffer h) 0 false) s [] [] (fun _ => True) ∧
      Does (.scrubRead (.buffer h) 1 false) s [] [(F.GLB_ECC_CNT_count, 2 * (ScrubAt.buffer h).cls)] (fun d =>
        d.fld F.GLB_ECC_CNT_count (2 * (ScrubAt.buffer h).cls) =
          (s.dev.fld F.GLB_ECC_CNT_count (2 * (ScrubAt.buffer h).cls) + 1) % 2 ^ 64)) ∧
    (∀ (die : Fin 2) (ch : Fin 32), ch.val < s.dev.channels → s.dev.windowDue die ch ≤ s.clk.phys →
      Does (.ceWindowEnd die ch) s [.rel] [(F.FLW_HBM_CH_STATUS_ce_window, chIx die ch),
          (F.FLW_HBM_CH_STATUS_ue_window, chIx die ch)] (fun d => d.rel.windowAt.num die ch =
        s.clk.phys + edgesS (max 1 (s.dev.fld F.FLW_HBM_CE_CTRL_window_s die)))) ∧
    (∀ (die : Fin 2) (ch : Fin 32), ch.val < s.dev.channels → s.dev.fld F.FLW_HBM_CH_STATUS_state (chIx die ch) = 0 →
      s.dev.fld F.FLW_HBM_EVAC_state die = 0 →
      Runs (.channelLost true die ch 0 []) s (fun d => d.flw.lost.num die ch = (if s.dev.reserveFree die then 1 else 2) ∧
        d.fld F.FLW_HBM_CH_STATUS_state (chIx die ch) = if s.dev.reserveFree die then 2 else 3)) ∧
    (∀ (die : Fin 2) (n : BitVec 28), s.dev.flw.quar.num die n.toNat = 1 →
      Does (.quarReleaseRequest die n) s [.flw] [] (fun d => d.flw.quar.num die n.toNat = 2))


/-- From R471. A control core that fails leaves service and returns after its test. Choices of the model in it: log entry
83. -/
def Obligations.ControlCores : Prop :=
  ∀ (s : State) (core : Fin 8),
    (bitOf (s.dev.fld F.GLB_CORE_STATUS_in_service) core = true → s.dev.fld F.BOOT_SWAP_STATUS_state ≠ 3 →
      s.dev.rel.handoverAt = none →
      Does (.coreHeartbeatMiss core) s [] [(F.GLB_CORE_STATUS_in_service, 0), (F.GLB_CORE_STATUS_failed, 0)] (fun d =>
        bitOf (d.fld F.GLB_CORE_STATUS_in_service) core = false ∧ bitOf (d.fld F.GLB_CORE_STATUS_failed) core = true) ∧
      (∀ ue, Runs (.coreMachineCheck core ue) s (fun d => bitOf (d.fld F.GLB_CORE_STATUS_in_service) core = false ∧
        bitOf (d.fld F.GLB_CORE_STATUS_failed) core = true))) ∧
    (bitOf (s.dev.fld F.GLB_CORE_STATUS_failed) core = true → s.dev.rel.returning = some core.val →
      (s.dev.slot (s.dev.fld F.BOOT_SWAP_STATUS_running_slot)).sound = true →
      Runs (.coreReturn true) s (fun d =>
        s.dev.fwCheck (s.dev.slot (s.dev.fld F.BOOT_SWAP_STATUS_running_slot)).image false = 0 →
        s.dev.KeepsParts d [.rel] ∧
        s.dev.KeepsFields d false [(F.GLB_CORE_STATUS_in_service, 0), (F.GLB_CORE_STATUS_failed, 0)] ∧
        bitOf (d.fld F.GLB_CORE_STATUS_in_service) core = true ∧ bitOf (d.fld F.GLB_CORE_STATUS_failed) core = false ∧
        d.rel.returning = none)) ∧
    Does (.coreReturn false) s [.rel] [] (fun d => d.rel.returning = none)


/-- From R250, R474, R475. The swap of firmware slots: its download, its check, the handover, the reverts; and the check
of a rollout's image. Choices of the model in it: log entries 82, 84. -/
def Obligations.FirmwareSwapAndRolloutImage : Prop :=
  ∀ s : State, s.dev.coresUp = true →
    (s.dev.swapBusy = false → s.dev.rollBusy = false → s.dev.fld F.HST_MODE_STATUS_busy = 0 →
      s.dev.fld F.BOOT_STATUS_phase = 7 →
      (1 ≤ s.dev.fld F.BOOT_SWAP_CTRL_extents → s.dev.fld F.BOOT_SWAP_CTRL_extents ≤ 1024 →
        Does .swapGo s [.out] [(F.BOOT_SWAP_STATUS_state, 0), (F.BOOT_SWAP_STATUS_error, 0)] (fun d =>
          d.fld F.BOOT_SWAP_STATUS_state = 1 ∧ d.fld F.BOOT_SWAP_STATUS_error = 0 ∧ d.out = s.dev.out ++
            [.hostRead (64 * s.dev.fld F.BOOT_SWAP_LIST_list_addr) (16 * s.dev.fld F.BOOT_SWAP_CTRL_extents)])) ∧
      Runs .swapRevert s (fun d =>
        d.fld F.BOOT_SWAP_STATUS_error = s.dev.swapCheck (s.dev.slot s.dev.standbySlot) true % 16 ∧
        if s.dev.swapCheck (s.dev.slot s.dev.standbySlot) true = 0 then
          s.dev.KeepsParts d [] ∧ d.fld F.BOOT_SWAP_STATUS_state = 3
        else d.fld F.BOOT_SWAP_STATUS_state = 6 ∧ d.evtPending Ev.BOOT_FW_REJECTED.code = true)) ∧
    (∀ image, s.dev.fld F.BOOT_SWAP_STATUS_state = 1 → Runs (.swapVerifyDone image) s (fun d =>
      d.fld F.BOOT_SWAP_STATUS_standby_version = leAt image 20 4 ∧
      (d.slot s.dev.standbySlot).image = image ∧
      (d.fld F.BOOT_SWAP_STATUS_state = 3 ∨ d.fld F.BOOT_SWAP_STATUS_state = 6))) ∧
    (∀ image, s.dev.fld F.BOOT_SWAP_STATUS_state = 3 → Runs (.swapVerifyDone image) s (fun d =>
      d.fld F.BOOT_SWAP_STATUS_running_slot = s.dev.standbySlot ∧ d.rel.handoverAt = some s.clk.phys ∧
      d.boot.fw = (s.dev.slot s.dev.standbySlot).image)) ∧
    (∀ t, s.dev.rel.handoverAt = some t → t + edgesMs 100 ≤ s.clk.phys →
      s.dev.fuse.epoch ≤ leAt (s.dev.slot s.dev.standbySlot).image 23 1 →
      (s.dev.slot s.dev.standbySlot).sound = true →
      Runs .swapAutoRevert s (fun d => s.dev.fwCheck (s.dev.slot s.dev.standbySlot).image false = 0 →
        d.fld F.BOOT_SWAP_STATUS_running_slot = s.dev.standbySlot ∧ d.rel.handoverAt = none)) ∧
    (∀ image, s.dev.forwards = true → s.dev.fld F.ENG_ROLL_STATUS_state = 1 →
      Runs (.rolloutFetchDone image) s (fun d =>
        (s.dev.fwCheck image true = 1 → d.fld F.ENG_ROLL_STATUS_state = 7 ∧
          d.fld F.ENG_ROLL_STATUS_error = 3 ∧ d.evtPending Ev.ENG_ROLL_REJECTED.code = true) ∧
        (s.dev.fwCheck image true = 0 → s.dev.compatible (microOf image) = true →
          (s.dev.roll.aborting = true → d.fld F.ENG_ROLL_STATUS_state = 8 ∧ d.roll.aborting = false) ∧
          (s.dev.roll.aborting = false → ∀ u rest, s.dev.rollUnits (microOf image) = u :: rest →
            u.1 = 0 ∨ u.1 = 2 ∧ s.dev.swpState 0 0 ≠ 3 → d.fld F.ENG_ROLL_STATUS_state = 3 + u.1 ∧
              d.fld F.ENG_ROLL_STATUS_error = 0 ∧ d.roll.left = u :: rest ∧ d.roll.comps = microOf image))))


/-- From R482, R483, R488, R502. A rail's set point follows a request in steps of at most 5 mV within 620 to 780 mV. A
step of load waits for the damper's ceiling, is granted below it, and is counted once when it waits for more than 100
µs. The sideband's status word releases the alert, its reads answer a register, and its writes reach the power and
reset registers alone. Choices of the model in it: log entries 87, 88. -/
def Obligations.VoltageDamperAndSideband : Prop :=
  (∀ (s : State) (rail : Fin 3) (want : BitVec 12) (ack : Bool), s.dev.fld F.BOOT_STATUS_phase ≠ 0 →
      s.dev.pwr.avsAt.num rail = 0 →
      let now := s.dev.fld F.PWR_RAIL_STATUS_setpoint_mv rail
      let goal := min 780 (max 620 want.toNat)
      let target := if now ≤ goal then min goal (now + 5) else max goal (now - 5)
      (target ≠ now → Runs (.avsCommand rail want ack) s (fun d =>
        d.fld F.PWR_RAIL_STATUS_setpoint_mv rail = (if ack then target % 2 ^ 10 else now) ∧
        d.fld F.PWR_CNT_count 4 = (s.dev.fld F.PWR_CNT_count 4 + 1) % 2 ^ 64 ∧
        d.pwr.avsWant.num rail = want.toNat ∧ d.pwr.avsAt.num rail = s.clk.phys + 1)) ∧
      (780 < want.toNat → Runs (.avsCommand rail want ack) s (fun d => d.fld F.PWR_STATUS_avs_limit = 1))) ∧
  (∀ (s : State) (rail : Fin 3),
      (∀ step amps ballast : BitVec 32, s.dev.pwr.tripAt = none →
        Runs (.damperRequest rail step amps ballast) s (fun d =>
          d.pwr.waiting = s.dev.pwr.waiting ++ [⟨rail, step.toNat, s.clk.phys, false⟩] ∧
          (ballast.toNat ≠ 0 → d.fld F.PWR_CNT_count 3 = (s.dev.fld F.PWR_CNT_count 3 + ballast.toNat) % 2 ^ 64))) ∧
      (∀ (amps ballast : BitVec 32) q, s.dev.pwr.waiting.find? (fun q => q.rail == rail.val) = some q →
        (s.dev.damper s.clk rail amps.toNat ballast.toNat false).pwr.estimate.num rail + q.step ≤
          (s.dev.damper s.clk rail amps.toNat ballast.toNat false).pwr.ceiling.num rail →
        Runs (.damperGrant rail amps ballast) s (fun d => d.pwr.waiting = s.dev.pwr.waiting.erase q ∧
          d.fld F.PWR_CNT_count 0 = (s.dev.fld F.PWR_CNT_count 0 + 1) % 2 ^ 64)) ∧
      (∀ q, s.dev.pwr.waiting.find? (fun q => q.rail == rail.val && !q.deferred && edgesUs 100 < s.clk.phys - q.at_) = some q →
        Runs (.damperDefer rail) s (fun d => { q with deferred := true } ∈ d.pwr.waiting ∧
          d.fld F.PWR_CNT_count 1 = (s.dev.fld F.PWR_CNT_count 1 + 1) % 2 ^ 64))) ∧
  (∀ s : State,
      (s.dev.pwr.smbAlert = false → Does .sbStatus s [.out] [] (fun d => d.out = s.dev.out ++ [.readData 11 s.dev.sbWord])) ∧
      (s.dev.pwr.smbAlert = true → Does .sbStatus s [.out, .pwr] [] (fun d => d.pwr.smbAlert = false ∧
        d.out = s.dev.out ++ [.readData 11 s.dev.sbWord, .pin .smbAlertN true])) ∧
      Runs (.sbRead (BitVec.ofNat 27 Reg.PWR_STATUS.base)) s (fun d =>
        d.out = s.dev.out ++ [.readData 11 (s.dev.reg .PWR_STATUS 0).toNat]) ∧
      (∀ (addr : BitVec 27) v, sbWritable addr.toNat = false → Does (.sbWrite addr v) s evtParts
        [(F.GLB_LOCK_CAPTURE_valid, 0), (F.GLB_LOCK_CAPTURE_type, 0), (F.GLB_LOCK_CAPTURE_requester, 0),
         (F.GLB_LOCK_CAPTURE_address, 0), (F.GLB_LOCK_CAPTURE_count, 0)] (fun d =>
          d.evtPending Ev.GLB_LOCK_VIOLATION.code = true ∧ d.fld F.GLB_LOCK_CAPTURE_valid = 1)) ∧
      (∀ v : Word, Runs (.sbWrite (BitVec.ofNat 27 Reg.PWR_RAIL_CFG.base) v) s (fun d =>
        d.fld F.PWR_RAIL_CFG_slew = v.toNat % 2 ^ 6 ∧ d.fld F.PWR_RAIL_CFG_floor_a = v.toNat / 2 ^ 6 % 2 ^ 10 ∧
        d.fld F.PWR_RAIL_CFG_resp_us = v.toNat / 2 ^ 24 % 2 ^ 8 ∧ d.fld F.PWR_RAIL_CFG_l_eff_nh = v.toNat / 2 ^ 32 % 2 ^ 16)))


/-- From R483, R491, R492, R493, R494. A trip stops new frames at once, records its first cause and pulls its pin; the
lanes stop when its ramp ends; the causes that trip. Choices of the model in it: log entry 87. -/
def Obligations.PowerTrips : Prop :=
  ∀ s : State,
    (s.dev.pwr.tripAt = none → s.dev.fld F.PWR_TRIP_CAPTURE_valid = 0 →
      let trips := fun (i : Instr) (cause : Nat) => Runs i s (fun d => d.pwr.tripAt = some s.clk.phys ∧
        d.net.shut = true ∧ d.fld F.PWR_STATUS_trip = 1 ∧ d.fld F.PWR_TRIP_CAPTURE_valid = 1 ∧
        d.fld F.PWR_TRIP_CAPTURE_cause = cause ∧ d.pwr.smbAlert = true ∧ d.evtPending Ev.PWR_TRIP.code = true)
      trips .pwrFault 2 ∧ trips .pwrgdFall 6 ∧ (∀ die, trips (.analogTrip die) 1) ∧
      (s.dev.liveFld F.PWR_TRIP_CFG_coolant_en = 1 → trips .coolantFault 3) ∧
      (∀ rail : Fin 3, s.dev.fld F.PWR_RAIL_STATUS_setpoint_mv rail = 780 → trips (.marginFail rail) 5) ∧
      (∀ (n : Fin 36) (v : BitVec 12), n.val = 32 → 105 ≤ v.toNat % 256 → trips (.sensorReading n v) 4)) ∧
    (∀ (n : Fin 36) (v : BitVec 12), n.val < 32 → Runs (.sensorReading n v) s (fun d =>
      d.fld F.PWR_TEMP_temp n = v.toNat)) ∧
    (∀ t, s.dev.pwr.tripAt = some t → s.dev.pwr.stopped = false → s.dev.pwr.tripRamp ≤ s.clk.phys - t →
      Does .tripRampDone s [.pwr, .out] ((List.range 512).map (fun l => (F.LANE_STATUS_state, l))) (fun d =>
        d.pwr.stopped = true ∧ ∀ l < 512, d.fld F.LANE_STATUS_state l = 0))
end

