-- ==== Sys2Proof/Laws/Tbl.lean ====
section
/-! SUPPORT. Sparse tables: a read after a write, and the canonical form kept by every operation. -/
namespace Sys2Proof.Machine

/-! ### The order of keys -/

theorem Key.lt_irrefl (k : Key) : k.lt k = false := by
  simp [Key.lt]

theorem Key.lt_trans {x y z : Key} (h : x.lt y = true) (g : y.lt z = true) : x.lt z = true := by
  simp only [Key.lt, Bool.or_eq_true, Bool.and_eq_true, decide_eq_true_eq, beq_iff_eq] at *
  omega

theorem Key.ne_of_lt {x y : Key} (h : x.lt y = true) : x ≠ y := by
  rintro rfl
  simp [Key.lt_irrefl] at h

theorem Key.lt_total {x y : Key} (h : x ≠ y) (g : x.lt y = false) : y.lt x = true := by
  obtain ⟨a, b, c⟩ := x
  obtain ⟨a', b', c'⟩ := y
  simp only [ne_eq, Key.mk.injEq, Key.lt, Bool.or_eq_false_iff, Bool.and_eq_false_iff, decide_eq_false_iff_not,
    Bool.or_eq_true, Bool.and_eq_true, decide_eq_true_eq, beq_iff_eq, beq_eq_false_iff_ne] at *
  omega

namespace Cells
variable {α : Type}

/-! ### Reads after writes -/

theorem find_insert_same (l : List (Key × α)) (k : Key) (v : α) : find? (insert l k v) k = some v := by
  induction l with
  | nil => simp [insert, find?]
  | cons p t ih =>
    obtain ⟨j, w⟩ := p
    simp only [insert]
    split
    · simp [find?]
    · split
      · simp [find?]
      · simp_all [find?]

theorem find_insert_other (l : List (Key × α)) {k j : Key} (v : α) (h : j ≠ k) :
    find? (insert l k v) j = find? l j := by
  induction l with
  | nil => simp [insert, find?, Ne.symm h]
  | cons p t ih =>
    obtain ⟨i, w⟩ := p
    simp only [insert]
    split
    · subst_vars; simp [find?, Ne.symm h]
    · split
      · simp [find?, Ne.symm h]
      · simp [find?, ih]

theorem find_erase_other (l : List (Key × α)) {k j : Key} (h : j ≠ k) : find? (erase l k) j = find? l j := by
  induction l with
  | nil => rfl
  | cons p t ih =>
    obtain ⟨i, w⟩ := p
    simp only [erase]
    split
    · subst_vars; simp [find?, Ne.symm h, ih]
    · simp [find?, ih]

/-- Every key of a rising list lies above a key below its head. -/
theorem sorted_cons {k : Key} {v : α} {t : List (Key × α)} :
    sorted ((k, v) :: t) = true ↔ (∀ p ∈ t, k.lt p.1 = true) ∧ sorted t = true := by
  induction t generalizing k v with
  | nil => simp [sorted]
  | cons p t ih =>
    obtain ⟨j, w⟩ := p
    simp only [sorted, Bool.and_eq_true, List.mem_cons, forall_eq_or_imp]
    constructor
    · rintro ⟨h, g⟩
      exact ⟨⟨h, fun p hp => Key.lt_trans h ((ih.mp g).1 p hp)⟩, g⟩
    · rintro ⟨⟨h, -⟩, g⟩
      exact ⟨h, g⟩

theorem find_erase_same (l : List (Key × α)) (k : Key) : find? (erase l k) k = none := by
  induction l with
  | nil => rfl
  | cons p t ih =>
    obtain ⟨j, w⟩ := p
    simp only [erase]
    split
    · exact ih
    · simp_all [find?]

theorem find_filter_key (l : List (Key × α)) (p : Key → Bool) (k : Key) :
    find? (l.filter (fun x => p x.1)) k = if p k then find? l k else none := by
  induction l with
  | nil => simp [find?]
  | cons q t ih =>
    obtain ⟨j, w⟩ := q
    simp only [List.filter_cons, find?]
    split
    · by_cases e : j = k
      · subst e; simp_all [find?]
      · simp [find?, e, ih]
    · by_cases e : j = k
      · subst e; simp_all
      · simp [e, ih]

/-! ### The canonical form -/

theorem mem_insert {l : List (Key × α)} {k : Key} {v : α} {p : Key × α} (h : p ∈ insert l k v) :
    p = (k, v) ∨ p ∈ l := by
  induction l with
  | nil => simpa [insert] using h
  | cons q t ih =>
    obtain ⟨j, w⟩ := q
    simp only [insert] at h
    split at h
    · rcases List.mem_cons.mp h with h | h
      · exact .inl h
      · exact .inr (List.mem_cons_of_mem _ h)
    · split at h
      · simpa using h
      · rcases List.mem_cons.mp h with h | h
        · exact .inr (by simp [h])
        · rcases ih h with h | h
          · exact .inl h
          · exact .inr (List.mem_cons_of_mem _ h)

theorem mem_erase {l : List (Key × α)} {k : Key} {p : Key × α} (h : p ∈ erase l k) : p ∈ l := by
  induction l with
  | nil => exact h
  | cons q t ih =>
    obtain ⟨j, w⟩ := q
    simp only [erase] at h
    split at h
    · exact List.mem_cons_of_mem _ (ih h)
    · rcases List.mem_cons.mp h with h | h
      · simp [h]
      · exact List.mem_cons_of_mem _ (ih h)

theorem sorted_insert {l : List (Key × α)} (h : sorted l = true) (k : Key) (v : α) : sorted (insert l k v) = true := by
  induction l with
  | nil => rfl
  | cons q t ih =>
    obtain ⟨j, w⟩ := q
    obtain ⟨hj, ht⟩ := sorted_cons.mp h
    simp only [insert]
    split
    · subst_vars; exact sorted_cons.mpr ⟨hj, ht⟩
    · split
      · rename_i hk
        refine sorted_cons.mpr ⟨fun p hp => ?_, h⟩
        rcases List.mem_cons.mp hp with rfl | hp
        · exact hk
        · exact Key.lt_trans hk (hj p hp)
      · rename_i hne hk
        refine sorted_cons.mpr ⟨fun p hp => ?_, ih ht⟩
        rcases mem_insert hp with rfl | hp
        · exact Key.lt_total (Ne.symm hne) (by simpa using hk)
        · exact hj p hp

theorem sorted_erase {l : List (Key × α)} (h : sorted l = true) (k : Key) : sorted (erase l k) = true := by
  induction l with
  | nil => rfl
  | cons q t ih =>
    obtain ⟨j, w⟩ := q
    obtain ⟨hj, ht⟩ := sorted_cons.mp h
    simp only [erase]
    split
    · exact ih ht
    · exact sorted_cons.mpr ⟨fun p hp => hj p (mem_erase hp), ih ht⟩

theorem sorted_filter {l : List (Key × α)} (h : sorted l = true) (f : Key × α → Bool) : sorted (l.filter f) = true := by
  induction l with
  | nil => rfl
  | cons q t ih =>
    obtain ⟨j, w⟩ := q
    obtain ⟨hj, ht⟩ := sorted_cons.mp h
    simp only [List.filter_cons]
    split
    · exact sorted_cons.mpr ⟨fun p hp => hj p (List.mem_of_mem_filter hp), ih ht⟩
    · exact ih ht

theorem sorted_map {β : Type} {l : List (Key × α)} (h : sorted l = true) (f : Key × α → β) :
    sorted (l.map (fun p => (p.1, f p))) = true := by
  induction l with
  | nil => rfl
  | cons q t ih =>
    obtain ⟨j, w⟩ := q
    obtain ⟨hj, ht⟩ := sorted_cons.mp h
    simp only [List.map_cons]
    refine sorted_cons.mpr ⟨fun p hp => ?_, ih ht⟩
    obtain ⟨r, hr, rfl⟩ := List.mem_map.mp hp
    exact hj r hr

end Cells

namespace Tbl
variable {α : Type}

@[simp] theorem find_put_same (t : Tbl α) (k : Key) (v : α) : (t.put k v).find? k = some v :=
  Cells.find_insert_same _ _ _

theorem find_put_other (t : Tbl α) {k j : Key} (v : α) (h : j ≠ k) : (t.put k v).find? j = t.find? j :=
  Cells.find_insert_other _ _ h

theorem find_erase_other (t : Tbl α) {k j : Key} (h : j ≠ k) : (t.erase k).find? j = t.find? j :=
  Cells.find_erase_other _ h

@[simp] theorem find_erase_same (t : Tbl α) (k : Key) : (t.erase k).find? k = none :=
  Cells.find_erase_same _ k

/-- A filter by key keeps the keys it accepts. -/
theorem find_filter_key (t : Tbl α) (p : Key → Bool) (k : Key) :
    (t.filter (fun j _ => p j)).find? k = if p k then t.find? k else none :=
  Cells.find_filter_key _ _ _

/-- The key last written reads as the value written. -/
@[simp] theorem get_set_same [DecidableEq α] (d : Key → α) (t : Tbl α) (k : Key) (v : α) :
    (t.set d k v).get d k = v := by
  unfold Tbl.set Tbl.get
  split
  · simp_all
  · simp

/-- Every other key reads as before a write. -/
theorem get_set_other [DecidableEq α] (d : Key → α) (t : Tbl α) {k j : Key} (v : α) (h : j ≠ k) :
    (t.set d k v).get d j = t.get d j := by
  unfold Tbl.set Tbl.get
  split
  · rw [find_erase_other t h]
  · rw [find_put_other t v h]

/-! ### Every operation keeps the canonical form -/

theorem wf_iff [DecidableEq α] (d : Key → α) (t : Tbl α) :
    t.wf d = true ↔ Cells.sorted t.cells = true ∧ ∀ p ∈ t.cells, p.2 ≠ d p.1 := by
  simp [Tbl.wf, List.all_eq_true]

theorem wf_empty [DecidableEq α] (d : Key → α) : (Tbl.empty : Tbl α).wf d = true := rfl

theorem wf_put [DecidableEq α] (d : Key → α) (t : Tbl α) (k : Key) (v : α) (h : t.wf d = true) (hv : v ≠ d k) :
    (t.put k v).wf d = true := by
  obtain ⟨hs, hd⟩ := (wf_iff d t).mp h
  refine (wf_iff d _).mpr ⟨Cells.sorted_insert hs k v, fun p hp => ?_⟩
  rcases Cells.mem_insert hp with rfl | hp
  · exact hv
  · exact hd p hp

theorem wf_erase [DecidableEq α] (d : Key → α) (t : Tbl α) (k : Key) (h : t.wf d = true) : (t.erase k).wf d = true := by
  obtain ⟨hs, hd⟩ := (wf_iff d t).mp h
  exact (wf_iff d _).mpr ⟨Cells.sorted_erase hs k, fun p hp => hd p (Cells.mem_erase hp)⟩

theorem wf_set [DecidableEq α] (d : Key → α) (t : Tbl α) (k : Key) (v : α) (h : t.wf d = true) :
    (t.set d k v).wf d = true := by
  unfold Tbl.set
  split
  · exact wf_erase d t k h
  · exact wf_put d t k v h ‹_›

theorem wf_filter [DecidableEq α] (d : Key → α) (t : Tbl α) (f : Key → α → Bool) (h : t.wf d = true) :
    (t.filter f).wf d = true := by
  obtain ⟨hs, hd⟩ := (wf_iff d t).mp h
  exact (wf_iff d _).mpr ⟨Cells.sorted_filter hs _, fun p hp => hd p (List.mem_of_mem_filter hp)⟩

theorem wf_map [DecidableEq α] (d : Key → α) (t : Tbl α) (f : Key → α → α) (h : t.wf d = true)
    (hf : ∀ k v, v ≠ d k → f k v ≠ d k) : (t.map f).wf d = true := by
  obtain ⟨hs, hd⟩ := (wf_iff d t).mp h
  refine (wf_iff d _).mpr ⟨Cells.sorted_map hs _, fun p hp => ?_⟩
  obtain ⟨q, hq, rfl⟩ := List.mem_map.mp hp
  exact hf q.1 q.2 (hd q hq)

theorem wf_modify [DecidableEq α] (d : Key → α) (t : Tbl α) (k : Key) (f : α → α) (h : t.wf d = true)
    (hf : ∀ v, f v ≠ d k) : (t.modify k f).wf d = true := by
  unfold Tbl.modify
  split
  · exact h
  · exact wf_put d t k _ h (hf _)

theorem wf_setNum (t : Tbl Nat) (k : Key) (v : Nat) (h : t.wf (fun _ => 0) = true) :
    (t.setNum k v).wf (fun _ => 0) = true := wf_set _ t k v h

@[simp] theorem num_setNum_same (t : Tbl Nat) (a b c v : Nat) :
    (t.setNum ⟨a, b, c⟩ v).num a b c = v := get_set_same _ t _ v

theorem num_setNum_other (t : Tbl Nat) {k : Key} {a b c : Nat} (v : Nat) (h : (⟨a, b, c⟩ : Key) ≠ k) :
    (t.setNum k v).num a b c = t.num a b c := get_set_other _ t v h

end Tbl

end Sys2Proof.Machine
end

