-- ==== Sys2Proof/Laws/State.lean ====
section
/-! SUPPORT. The parts of the state after each primitive update: one lemma per part per update, so that no proof unfolds
a record update. -/
namespace Sys2Proof.Machine

/-! ### Register reads as reads of the register file alone -/

/-- Raw value of a register copy in a register file. -/
def Tbl.regAt (t : Tbl Word) (r : Reg) (ix : Nat) : Word := (t.find? ⟨r.num, ix, 0⟩).getD (r.resetOf ix)

/-- Value of a field in a register file. -/
def Tbl.fldAt (t : Tbl Word) (f : Fld) (ix : Nat) : Nat := bitsOf (t.regAt f.reg ix).toNat f.lo f.bits

@[simp] theorem Dev.regAt_regs (d : Dev) (r : Reg) (ix : Nat) : d.regs.regAt r ix = d.reg r ix := (rfl)
@[simp] theorem Dev.fldAt_regs (d : Dev) (f : Fld) (ix : Nat) : d.regs.fldAt f ix = d.fld f ix := (rfl)

@[simp] theorem Dev.reg_mk (r : Reg) (ix : Nat) x0 x1 x2 x3 x4 x5 x6 x7 x8 x9 x10 x11 x12 x13 x14 x15 x16 x17 x18 x19 x20 x21 x22 x23 x24 x25 x26 x27 x28 x29 :
    (Dev.mk x0 x1 x2 x3 x4 x5 x6 x7 x8 x9 x10 x11 x12 x13 x14 x15 x16 x17 x18 x19 x20 x21 x22 x23 x24 x25 x26 x27 x28 x29).reg r ix = x0.regAt r ix := (rfl)
@[simp] theorem Dev.fld_mk (f : Fld) (ix : Nat) x0 x1 x2 x3 x4 x5 x6 x7 x8 x9 x10 x11 x12 x13 x14 x15 x16 x17 x18 x19 x20 x21 x22 x23 x24 x25 x26 x27 x28 x29 :
    (Dev.mk x0 x1 x2 x3 x4 x5 x6 x7 x8 x9 x10 x11 x12 x13 x14 x15 x16 x17 x18 x19 x20 x21 x22 x23 x24 x25 x26 x27 x28 x29).fld f ix = x0.fldAt f ix := (rfl)
@[simp] theorem Dev.tw_mk (t : TableId) (i ix w : Nat) x0 x1 x2 x3 x4 x5 x6 x7 x8 x9 x10 x11 x12 x13 x14 x15 x16 x17 x18 x19 x20 x21 x22 x23 x24 x25 x26 x27 x28 x29 :
    (Dev.mk x0 x1 x2 x3 x4 x5 x6 x7 x8 x9 x10 x11 x12 x13 x14 x15 x16 x17 x18 x19 x20 x21 x22 x23 x24 x25 x26 x27 x28 x29).tw t i ix w = x1.num t.num i (64 * ix + w) := (rfl)
@[simp] theorem Dev.tw_fold (d : Dev) (t : TableId) (i ix w : Nat) : d.tbls.num t.num i (64 * ix + w) = d.tw t i ix w := (rfl)
theorem Dev.flag_eq (d : Dev) (f : Fld) (ix : Nat) : d.flag f ix = (d.fld f ix == 1) := (rfl)
theorem Dev.sfld_eq (d : Dev) (f : Fld) (ix : Nat) : d.sfld f ix = signed f.bits (d.fld f ix) := (rfl)

/-! `setReg` changes regs alone. -/
@[simp] theorem Dev.setReg_tbls (d : Dev) (r : Reg) (ix : Nat) (v : Word) : (d.setReg r ix v).tbls = d.tbls := (rfl)
@[simp] theorem Dev.setReg_acc (d : Dev) (r : Reg) (ix : Nat) (v : Word) : (d.setReg r ix v).acc = d.acc := (rfl)
@[simp] theorem Dev.setReg_evt (d : Dev) (r : Reg) (ix : Nat) (v : Word) : (d.setReg r ix v).evt = d.evt := (rfl)
@[simp] theorem Dev.setReg_msix (d : Dev) (r : Reg) (ix : Nat) (v : Word) : (d.setReg r ix v).msix = d.msix := (rfl)
@[simp] theorem Dev.setReg_tim (d : Dev) (r : Reg) (ix : Nat) (v : Word) : (d.setReg r ix v).tim = d.tim := (rfl)
@[simp] theorem Dev.setReg_net (d : Dev) (r : Reg) (ix : Nat) (v : Word) : (d.setReg r ix v).net = d.net := (rfl)
@[simp] theorem Dev.setReg_bpm (d : Dev) (r : Reg) (ix : Nat) (v : Word) : (d.setReg r ix v).bpm = d.bpm := (rfl)
@[simp] theorem Dev.setReg_fifos (d : Dev) (r : Reg) (ix : Nat) (v : Word) : (d.setReg r ix v).fifos = d.fifos := (rfl)
@[simp] theorem Dev.setReg_sch (d : Dev) (r : Reg) (ix : Nat) (v : Word) : (d.setReg r ix v).sch = d.sch := (rfl)
@[simp] theorem Dev.setReg_host (d : Dev) (r : Reg) (ix : Nat) (v : Word) : (d.setReg r ix v).host = d.host := (rfl)
@[simp] theorem Dev.setReg_pkts (d : Dev) (r : Reg) (ix : Nat) (v : Word) : (d.setReg r ix v).pkts = d.pkts := (rfl)
@[simp] theorem Dev.setReg_nextPkt (d : Dev) (r : Reg) (ix : Nat) (v : Word) : (d.setReg r ix v).nextPkt = d.nextPkt := (rfl)
@[simp] theorem Dev.setReg_pipes (d : Dev) (r : Reg) (ix : Nat) (v : Word) : (d.setReg r ix v).pipes = d.pipes := (rfl)
@[simp] theorem Dev.setReg_cls (d : Dev) (r : Reg) (ix : Nat) (v : Word) : (d.setReg r ix v).cls = d.cls := (rfl)
@[simp] theorem Dev.setReg_tel (d : Dev) (r : Reg) (ix : Nat) (v : Word) : (d.setReg r ix v).tel = d.tel := (rfl)
@[simp] theorem Dev.setReg_flw (d : Dev) (r : Reg) (ix : Nat) (v : Word) : (d.setReg r ix v).flw = d.flw := (rfl)
@[simp] theorem Dev.setReg_twn (d : Dev) (r : Reg) (ix : Nat) (v : Word) : (d.setReg r ix v).twn = d.twn := (rfl)
@[simp] theorem Dev.setReg_eng (d : Dev) (r : Reg) (ix : Nat) (v : Word) : (d.setReg r ix v).eng = d.eng := (rfl)
@[simp] theorem Dev.setReg_swp (d : Dev) (r : Reg) (ix : Nat) (v : Word) : (d.setReg r ix v).swp = d.swp := (rfl)
@[simp] theorem Dev.setReg_nat (d : Dev) (r : Reg) (ix : Nat) (v : Word) : (d.setReg r ix v).nat = d.nat := (rfl)
@[simp] theorem Dev.setReg_roll (d : Dev) (r : Reg) (ix : Nat) (v : Word) : (d.setReg r ix v).roll = d.roll := (rfl)
@[simp] theorem Dev.setReg_fuse (d : Dev) (r : Reg) (ix : Nat) (v : Word) : (d.setReg r ix v).fuse = d.fuse := (rfl)
@[simp] theorem Dev.setReg_boot (d : Dev) (r : Reg) (ix : Nat) (v : Word) : (d.setReg r ix v).boot = d.boot := (rfl)
@[simp] theorem Dev.setReg_sec (d : Dev) (r : Reg) (ix : Nat) (v : Word) : (d.setReg r ix v).sec = d.sec := (rfl)
@[simp] theorem Dev.setReg_rel (d : Dev) (r : Reg) (ix : Nat) (v : Word) : (d.setReg r ix v).rel = d.rel := (rfl)
@[simp] theorem Dev.setReg_pwr (d : Dev) (r : Reg) (ix : Nat) (v : Word) : (d.setReg r ix v).pwr = d.pwr := (rfl)
@[simp] theorem Dev.setReg_dist (d : Dev) (r : Reg) (ix : Nat) (v : Word) : (d.setReg r ix v).dist = d.dist := (rfl)
@[simp] theorem Dev.setReg_out (d : Dev) (r : Reg) (ix : Nat) (v : Word) : (d.setReg r ix v).out = d.out := (rfl)
@[simp] theorem Dev.setReg_draws (d : Dev) (r : Reg) (ix : Nat) (v : Word) : (d.setReg r ix v).draws = d.draws := (rfl)

/-! `put` changes regs alone. -/
@[simp] theorem Dev.put_tbls (d : Dev) (f : Fld) (ix v : Nat) : (d.put f ix v).tbls = d.tbls := (rfl)
@[simp] theorem Dev.put_acc (d : Dev) (f : Fld) (ix v : Nat) : (d.put f ix v).acc = d.acc := (rfl)
@[simp] theorem Dev.put_evt (d : Dev) (f : Fld) (ix v : Nat) : (d.put f ix v).evt = d.evt := (rfl)
@[simp] theorem Dev.put_msix (d : Dev) (f : Fld) (ix v : Nat) : (d.put f ix v).msix = d.msix := (rfl)
@[simp] theorem Dev.put_tim (d : Dev) (f : Fld) (ix v : Nat) : (d.put f ix v).tim = d.tim := (rfl)
@[simp] theorem Dev.put_net (d : Dev) (f : Fld) (ix v : Nat) : (d.put f ix v).net = d.net := (rfl)
@[simp] theorem Dev.put_bpm (d : Dev) (f : Fld) (ix v : Nat) : (d.put f ix v).bpm = d.bpm := (rfl)
@[simp] theorem Dev.put_fifos (d : Dev) (f : Fld) (ix v : Nat) : (d.put f ix v).fifos = d.fifos := (rfl)
@[simp] theorem Dev.put_sch (d : Dev) (f : Fld) (ix v : Nat) : (d.put f ix v).sch = d.sch := (rfl)
@[simp] theorem Dev.put_host (d : Dev) (f : Fld) (ix v : Nat) : (d.put f ix v).host = d.host := (rfl)
@[simp] theorem Dev.put_pkts (d : Dev) (f : Fld) (ix v : Nat) : (d.put f ix v).pkts = d.pkts := (rfl)
@[simp] theorem Dev.put_nextPkt (d : Dev) (f : Fld) (ix v : Nat) : (d.put f ix v).nextPkt = d.nextPkt := (rfl)
@[simp] theorem Dev.put_pipes (d : Dev) (f : Fld) (ix v : Nat) : (d.put f ix v).pipes = d.pipes := (rfl)
@[simp] theorem Dev.put_cls (d : Dev) (f : Fld) (ix v : Nat) : (d.put f ix v).cls = d.cls := (rfl)
@[simp] theorem Dev.put_tel (d : Dev) (f : Fld) (ix v : Nat) : (d.put f ix v).tel = d.tel := (rfl)
@[simp] theorem Dev.put_flw (d : Dev) (f : Fld) (ix v : Nat) : (d.put f ix v).flw = d.flw := (rfl)
@[simp] theorem Dev.put_twn (d : Dev) (f : Fld) (ix v : Nat) : (d.put f ix v).twn = d.twn := (rfl)
@[simp] theorem Dev.put_eng (d : Dev) (f : Fld) (ix v : Nat) : (d.put f ix v).eng = d.eng := (rfl)
@[simp] theorem Dev.put_swp (d : Dev) (f : Fld) (ix v : Nat) : (d.put f ix v).swp = d.swp := (rfl)
@[simp] theorem Dev.put_nat (d : Dev) (f : Fld) (ix v : Nat) : (d.put f ix v).nat = d.nat := (rfl)
@[simp] theorem Dev.put_roll (d : Dev) (f : Fld) (ix v : Nat) : (d.put f ix v).roll = d.roll := (rfl)
@[simp] theorem Dev.put_fuse (d : Dev) (f : Fld) (ix v : Nat) : (d.put f ix v).fuse = d.fuse := (rfl)
@[simp] theorem Dev.put_boot (d : Dev) (f : Fld) (ix v : Nat) : (d.put f ix v).boot = d.boot := (rfl)
@[simp] theorem Dev.put_sec (d : Dev) (f : Fld) (ix v : Nat) : (d.put f ix v).sec = d.sec := (rfl)
@[simp] theorem Dev.put_rel (d : Dev) (f : Fld) (ix v : Nat) : (d.put f ix v).rel = d.rel := (rfl)
@[simp] theorem Dev.put_pwr (d : Dev) (f : Fld) (ix v : Nat) : (d.put f ix v).pwr = d.pwr := (rfl)
@[simp] theorem Dev.put_dist (d : Dev) (f : Fld) (ix v : Nat) : (d.put f ix v).dist = d.dist := (rfl)
@[simp] theorem Dev.put_out (d : Dev) (f : Fld) (ix v : Nat) : (d.put f ix v).out = d.out := (rfl)
@[simp] theorem Dev.put_draws (d : Dev) (f : Fld) (ix v : Nat) : (d.put f ix v).draws = d.draws := (rfl)

/-! `putB` changes regs alone. -/
@[simp] theorem Dev.putB_tbls (d : Dev) (f : Fld) (ix : Nat) (b : Bool) : (d.putB f ix b).tbls = d.tbls := (rfl)
@[simp] theorem Dev.putB_acc (d : Dev) (f : Fld) (ix : Nat) (b : Bool) : (d.putB f ix b).acc = d.acc := (rfl)
@[simp] theorem Dev.putB_evt (d : Dev) (f : Fld) (ix : Nat) (b : Bool) : (d.putB f ix b).evt = d.evt := (rfl)
@[simp] theorem Dev.putB_msix (d : Dev) (f : Fld) (ix : Nat) (b : Bool) : (d.putB f ix b).msix = d.msix := (rfl)
@[simp] theorem Dev.putB_tim (d : Dev) (f : Fld) (ix : Nat) (b : Bool) : (d.putB f ix b).tim = d.tim := (rfl)
@[simp] theorem Dev.putB_net (d : Dev) (f : Fld) (ix : Nat) (b : Bool) : (d.putB f ix b).net = d.net := (rfl)
@[simp] theorem Dev.putB_bpm (d : Dev) (f : Fld) (ix : Nat) (b : Bool) : (d.putB f ix b).bpm = d.bpm := (rfl)
@[simp] theorem Dev.putB_fifos (d : Dev) (f : Fld) (ix : Nat) (b : Bool) : (d.putB f ix b).fifos = d.fifos := (rfl)
@[simp] theorem Dev.putB_sch (d : Dev) (f : Fld) (ix : Nat) (b : Bool) : (d.putB f ix b).sch = d.sch := (rfl)
@[simp] theorem Dev.putB_host (d : Dev) (f : Fld) (ix : Nat) (b : Bool) : (d.putB f ix b).host = d.host := (rfl)
@[simp] theorem Dev.putB_pkts (d : Dev) (f : Fld) (ix : Nat) (b : Bool) : (d.putB f ix b).pkts = d.pkts := (rfl)
@[simp] theorem Dev.putB_nextPkt (d : Dev) (f : Fld) (ix : Nat) (b : Bool) : (d.putB f ix b).nextPkt = d.nextPkt := (rfl)
@[simp] theorem Dev.putB_pipes (d : Dev) (f : Fld) (ix : Nat) (b : Bool) : (d.putB f ix b).pipes = d.pipes := (rfl)
@[simp] theorem Dev.putB_cls (d : Dev) (f : Fld) (ix : Nat) (b : Bool) : (d.putB f ix b).cls = d.cls := (rfl)
@[simp] theorem Dev.putB_tel (d : Dev) (f : Fld) (ix : Nat) (b : Bool) : (d.putB f ix b).tel = d.tel := (rfl)
@[simp] theorem Dev.putB_flw (d : Dev) (f : Fld) (ix : Nat) (b : Bool) : (d.putB f ix b).flw = d.flw := (rfl)
@[simp] theorem Dev.putB_twn (d : Dev) (f : Fld) (ix : Nat) (b : Bool) : (d.putB f ix b).twn = d.twn := (rfl)
@[simp] theorem Dev.putB_eng (d : Dev) (f : Fld) (ix : Nat) (b : Bool) : (d.putB f ix b).eng = d.eng := (rfl)
@[simp] theorem Dev.putB_swp (d : Dev) (f : Fld) (ix : Nat) (b : Bool) : (d.putB f ix b).swp = d.swp := (rfl)
@[simp] theorem Dev.putB_nat (d : Dev) (f : Fld) (ix : Nat) (b : Bool) : (d.putB f ix b).nat = d.nat := (rfl)
@[simp] theorem Dev.putB_roll (d : Dev) (f : Fld) (ix : Nat) (b : Bool) : (d.putB f ix b).roll = d.roll := (rfl)
@[simp] theorem Dev.putB_fuse (d : Dev) (f : Fld) (ix : Nat) (b : Bool) : (d.putB f ix b).fuse = d.fuse := (rfl)
@[simp] theorem Dev.putB_boot (d : Dev) (f : Fld) (ix : Nat) (b : Bool) : (d.putB f ix b).boot = d.boot := (rfl)
@[simp] theorem Dev.putB_sec (d : Dev) (f : Fld) (ix : Nat) (b : Bool) : (d.putB f ix b).sec = d.sec := (rfl)
@[simp] theorem Dev.putB_rel (d : Dev) (f : Fld) (ix : Nat) (b : Bool) : (d.putB f ix b).rel = d.rel := (rfl)
@[simp] theorem Dev.putB_pwr (d : Dev) (f : Fld) (ix : Nat) (b : Bool) : (d.putB f ix b).pwr = d.pwr := (rfl)
@[simp] theorem Dev.putB_dist (d : Dev) (f : Fld) (ix : Nat) (b : Bool) : (d.putB f ix b).dist = d.dist := (rfl)
@[simp] theorem Dev.putB_out (d : Dev) (f : Fld) (ix : Nat) (b : Bool) : (d.putB f ix b).out = d.out := (rfl)
@[simp] theorem Dev.putB_draws (d : Dev) (f : Fld) (ix : Nat) (b : Bool) : (d.putB f ix b).draws = d.draws := (rfl)

/-! `bump` changes regs alone. -/
@[simp] theorem Dev.bump_tbls (d : Dev) (f : Fld) (ix n : Nat) : (d.bump f ix n).tbls = d.tbls := (rfl)
@[simp] theorem Dev.bump_acc (d : Dev) (f : Fld) (ix n : Nat) : (d.bump f ix n).acc = d.acc := (rfl)
@[simp] theorem Dev.bump_evt (d : Dev) (f : Fld) (ix n : Nat) : (d.bump f ix n).evt = d.evt := (rfl)
@[simp] theorem Dev.bump_msix (d : Dev) (f : Fld) (ix n : Nat) : (d.bump f ix n).msix = d.msix := (rfl)
@[simp] theorem Dev.bump_tim (d : Dev) (f : Fld) (ix n : Nat) : (d.bump f ix n).tim = d.tim := (rfl)
@[simp] theorem Dev.bump_net (d : Dev) (f : Fld) (ix n : Nat) : (d.bump f ix n).net = d.net := (rfl)
@[simp] theorem Dev.bump_bpm (d : Dev) (f : Fld) (ix n : Nat) : (d.bump f ix n).bpm = d.bpm := (rfl)
@[simp] theorem Dev.bump_fifos (d : Dev) (f : Fld) (ix n : Nat) : (d.bump f ix n).fifos = d.fifos := (rfl)
@[simp] theorem Dev.bump_sch (d : Dev) (f : Fld) (ix n : Nat) : (d.bump f ix n).sch = d.sch := (rfl)
@[simp] theorem Dev.bump_host (d : Dev) (f : Fld) (ix n : Nat) : (d.bump f ix n).host = d.host := (rfl)
@[simp] theorem Dev.bump_pkts (d : Dev) (f : Fld) (ix n : Nat) : (d.bump f ix n).pkts = d.pkts := (rfl)
@[simp] theorem Dev.bump_nextPkt (d : Dev) (f : Fld) (ix n : Nat) : (d.bump f ix n).nextPkt = d.nextPkt := (rfl)
@[simp] theorem Dev.bump_pipes (d : Dev) (f : Fld) (ix n : Nat) : (d.bump f ix n).pipes = d.pipes := (rfl)
@[simp] theorem Dev.bump_cls (d : Dev) (f : Fld) (ix n : Nat) : (d.bump f ix n).cls = d.cls := (rfl)
@[simp] theorem Dev.bump_tel (d : Dev) (f : Fld) (ix n : Nat) : (d.bump f ix n).tel = d.tel := (rfl)
@[simp] theorem Dev.bump_flw (d : Dev) (f : Fld) (ix n : Nat) : (d.bump f ix n).flw = d.flw := (rfl)
@[simp] theorem Dev.bump_twn (d : Dev) (f : Fld) (ix n : Nat) : (d.bump f ix n).twn = d.twn := (rfl)
@[simp] theorem Dev.bump_eng (d : Dev) (f : Fld) (ix n : Nat) : (d.bump f ix n).eng = d.eng := (rfl)
@[simp] theorem Dev.bump_swp (d : Dev) (f : Fld) (ix n : Nat) : (d.bump f ix n).swp = d.swp := (rfl)
@[simp] theorem Dev.bump_nat (d : Dev) (f : Fld) (ix n : Nat) : (d.bump f ix n).nat = d.nat := (rfl)
@[simp] theorem Dev.bump_roll (d : Dev) (f : Fld) (ix n : Nat) : (d.bump f ix n).roll = d.roll := (rfl)
@[simp] theorem Dev.bump_fuse (d : Dev) (f : Fld) (ix n : Nat) : (d.bump f ix n).fuse = d.fuse := (rfl)
@[simp] theorem Dev.bump_boot (d : Dev) (f : Fld) (ix n : Nat) : (d.bump f ix n).boot = d.boot := (rfl)
@[simp] theorem Dev.bump_sec (d : Dev) (f : Fld) (ix n : Nat) : (d.bump f ix n).sec = d.sec := (rfl)
@[simp] theorem Dev.bump_rel (d : Dev) (f : Fld) (ix n : Nat) : (d.bump f ix n).rel = d.rel := (rfl)
@[simp] theorem Dev.bump_pwr (d : Dev) (f : Fld) (ix n : Nat) : (d.bump f ix n).pwr = d.pwr := (rfl)
@[simp] theorem Dev.bump_dist (d : Dev) (f : Fld) (ix n : Nat) : (d.bump f ix n).dist = d.dist := (rfl)
@[simp] theorem Dev.bump_out (d : Dev) (f : Fld) (ix n : Nat) : (d.bump f ix n).out = d.out := (rfl)
@[simp] theorem Dev.bump_draws (d : Dev) (f : Fld) (ix n : Nat) : (d.bump f ix n).draws = d.draws := (rfl)

/-! `bumpSat` changes regs alone. -/
@[simp] theorem Dev.bumpSat_tbls (d : Dev) (f : Fld) (ix : Nat) : (d.bumpSat f ix).tbls = d.tbls := (rfl)
@[simp] theorem Dev.bumpSat_acc (d : Dev) (f : Fld) (ix : Nat) : (d.bumpSat f ix).acc = d.acc := (rfl)
@[simp] theorem Dev.bumpSat_evt (d : Dev) (f : Fld) (ix : Nat) : (d.bumpSat f ix).evt = d.evt := (rfl)
@[simp] theorem Dev.bumpSat_msix (d : Dev) (f : Fld) (ix : Nat) : (d.bumpSat f ix).msix = d.msix := (rfl)
@[simp] theorem Dev.bumpSat_tim (d : Dev) (f : Fld) (ix : Nat) : (d.bumpSat f ix).tim = d.tim := (rfl)
@[simp] theorem Dev.bumpSat_net (d : Dev) (f : Fld) (ix : Nat) : (d.bumpSat f ix).net = d.net := (rfl)
@[simp] theorem Dev.bumpSat_bpm (d : Dev) (f : Fld) (ix : Nat) : (d.bumpSat f ix).bpm = d.bpm := (rfl)
@[simp] theorem Dev.bumpSat_fifos (d : Dev) (f : Fld) (ix : Nat) : (d.bumpSat f ix).fifos = d.fifos := (rfl)
@[simp] theorem Dev.bumpSat_sch (d : Dev) (f : Fld) (ix : Nat) : (d.bumpSat f ix).sch = d.sch := (rfl)
@[simp] theorem Dev.bumpSat_host (d : Dev) (f : Fld) (ix : Nat) : (d.bumpSat f ix).host = d.host := (rfl)
@[simp] theorem Dev.bumpSat_pkts (d : Dev) (f : Fld) (ix : Nat) : (d.bumpSat f ix).pkts = d.pkts := (rfl)
@[simp] theorem Dev.bumpSat_nextPkt (d : Dev) (f : Fld) (ix : Nat) : (d.bumpSat f ix).nextPkt = d.nextPkt := (rfl)
@[simp] theorem Dev.bumpSat_pipes (d : Dev) (f : Fld) (ix : Nat) : (d.bumpSat f ix).pipes = d.pipes := (rfl)
@[simp] theorem Dev.bumpSat_cls (d : Dev) (f : Fld) (ix : Nat) : (d.bumpSat f ix).cls = d.cls := (rfl)
@[simp] theorem Dev.bumpSat_tel (d : Dev) (f : Fld) (ix : Nat) : (d.bumpSat f ix).tel = d.tel := (rfl)
@[simp] theorem Dev.bumpSat_flw (d : Dev) (f : Fld) (ix : Nat) : (d.bumpSat f ix).flw = d.flw := (rfl)
@[simp] theorem Dev.bumpSat_twn (d : Dev) (f : Fld) (ix : Nat) : (d.bumpSat f ix).twn = d.twn := (rfl)
@[simp] theorem Dev.bumpSat_eng (d : Dev) (f : Fld) (ix : Nat) : (d.bumpSat f ix).eng = d.eng := (rfl)
@[simp] theorem Dev.bumpSat_swp (d : Dev) (f : Fld) (ix : Nat) : (d.bumpSat f ix).swp = d.swp := (rfl)
@[simp] theorem Dev.bumpSat_nat (d : Dev) (f : Fld) (ix : Nat) : (d.bumpSat f ix).nat = d.nat := (rfl)
@[simp] theorem Dev.bumpSat_roll (d : Dev) (f : Fld) (ix : Nat) : (d.bumpSat f ix).roll = d.roll := (rfl)
@[simp] theorem Dev.bumpSat_fuse (d : Dev) (f : Fld) (ix : Nat) : (d.bumpSat f ix).fuse = d.fuse := (rfl)
@[simp] theorem Dev.bumpSat_boot (d : Dev) (f : Fld) (ix : Nat) : (d.bumpSat f ix).boot = d.boot := (rfl)
@[simp] theorem Dev.bumpSat_sec (d : Dev) (f : Fld) (ix : Nat) : (d.bumpSat f ix).sec = d.sec := (rfl)
@[simp] theorem Dev.bumpSat_rel (d : Dev) (f : Fld) (ix : Nat) : (d.bumpSat f ix).rel = d.rel := (rfl)
@[simp] theorem Dev.bumpSat_pwr (d : Dev) (f : Fld) (ix : Nat) : (d.bumpSat f ix).pwr = d.pwr := (rfl)
@[simp] theorem Dev.bumpSat_dist (d : Dev) (f : Fld) (ix : Nat) : (d.bumpSat f ix).dist = d.dist := (rfl)
@[simp] theorem Dev.bumpSat_out (d : Dev) (f : Fld) (ix : Nat) : (d.bumpSat f ix).out = d.out := (rfl)
@[simp] theorem Dev.bumpSat_draws (d : Dev) (f : Fld) (ix : Nat) : (d.bumpSat f ix).draws = d.draws := (rfl)

/-! `peak` changes regs alone. -/
@[simp] theorem Dev.peak_tbls (d : Dev) (f : Fld) (ix v : Nat) : (d.peak f ix v).tbls = d.tbls := (rfl)
@[simp] theorem Dev.peak_acc (d : Dev) (f : Fld) (ix v : Nat) : (d.peak f ix v).acc = d.acc := (rfl)
@[simp] theorem Dev.peak_evt (d : Dev) (f : Fld) (ix v : Nat) : (d.peak f ix v).evt = d.evt := (rfl)
@[simp] theorem Dev.peak_msix (d : Dev) (f : Fld) (ix v : Nat) : (d.peak f ix v).msix = d.msix := (rfl)
@[simp] theorem Dev.peak_tim (d : Dev) (f : Fld) (ix v : Nat) : (d.peak f ix v).tim = d.tim := (rfl)
@[simp] theorem Dev.peak_net (d : Dev) (f : Fld) (ix v : Nat) : (d.peak f ix v).net = d.net := (rfl)
@[simp] theorem Dev.peak_bpm (d : Dev) (f : Fld) (ix v : Nat) : (d.peak f ix v).bpm = d.bpm := (rfl)
@[simp] theorem Dev.peak_fifos (d : Dev) (f : Fld) (ix v : Nat) : (d.peak f ix v).fifos = d.fifos := (rfl)
@[simp] theorem Dev.peak_sch (d : Dev) (f : Fld) (ix v : Nat) : (d.peak f ix v).sch = d.sch := (rfl)
@[simp] theorem Dev.peak_host (d : Dev) (f : Fld) (ix v : Nat) : (d.peak f ix v).host = d.host := (rfl)
@[simp] theorem Dev.peak_pkts (d : Dev) (f : Fld) (ix v : Nat) : (d.peak f ix v).pkts = d.pkts := (rfl)
@[simp] theorem Dev.peak_nextPkt (d : Dev) (f : Fld) (ix v : Nat) : (d.peak f ix v).nextPkt = d.nextPkt := (rfl)
@[simp] theorem Dev.peak_pipes (d : Dev) (f : Fld) (ix v : Nat) : (d.peak f ix v).pipes = d.pipes := (rfl)
@[simp] theorem Dev.peak_cls (d : Dev) (f : Fld) (ix v : Nat) : (d.peak f ix v).cls = d.cls := (rfl)
@[simp] theorem Dev.peak_tel (d : Dev) (f : Fld) (ix v : Nat) : (d.peak f ix v).tel = d.tel := (rfl)
@[simp] theorem Dev.peak_flw (d : Dev) (f : Fld) (ix v : Nat) : (d.peak f ix v).flw = d.flw := (rfl)
@[simp] theorem Dev.peak_twn (d : Dev) (f : Fld) (ix v : Nat) : (d.peak f ix v).twn = d.twn := (rfl)
@[simp] theorem Dev.peak_eng (d : Dev) (f : Fld) (ix v : Nat) : (d.peak f ix v).eng = d.eng := (rfl)
@[simp] theorem Dev.peak_swp (d : Dev) (f : Fld) (ix v : Nat) : (d.peak f ix v).swp = d.swp := (rfl)
@[simp] theorem Dev.peak_nat (d : Dev) (f : Fld) (ix v : Nat) : (d.peak f ix v).nat = d.nat := (rfl)
@[simp] theorem Dev.peak_roll (d : Dev) (f : Fld) (ix v : Nat) : (d.peak f ix v).roll = d.roll := (rfl)
@[simp] theorem Dev.peak_fuse (d : Dev) (f : Fld) (ix v : Nat) : (d.peak f ix v).fuse = d.fuse := (rfl)
@[simp] theorem Dev.peak_boot (d : Dev) (f : Fld) (ix v : Nat) : (d.peak f ix v).boot = d.boot := (rfl)
@[simp] theorem Dev.peak_sec (d : Dev) (f : Fld) (ix v : Nat) : (d.peak f ix v).sec = d.sec := (rfl)
@[simp] theorem Dev.peak_rel (d : Dev) (f : Fld) (ix v : Nat) : (d.peak f ix v).rel = d.rel := (rfl)
@[simp] theorem Dev.peak_pwr (d : Dev) (f : Fld) (ix v : Nat) : (d.peak f ix v).pwr = d.pwr := (rfl)
@[simp] theorem Dev.peak_dist (d : Dev) (f : Fld) (ix v : Nat) : (d.peak f ix v).dist = d.dist := (rfl)
@[simp] theorem Dev.peak_out (d : Dev) (f : Fld) (ix v : Nat) : (d.peak f ix v).out = d.out := (rfl)
@[simp] theorem Dev.peak_draws (d : Dev) (f : Fld) (ix v : Nat) : (d.peak f ix v).draws = d.draws := (rfl)

/-! `bumpWrap` changes regs alone. -/
@[simp] theorem Dev.bumpWrap_tbls (d : Dev) (f : Fld) (ix : Nat) (w : Fld) (i b : Nat) : (d.bumpWrap f ix w i b).tbls = d.tbls := by unfold Dev.bumpWrap; simp only []; split <;> rfl
@[simp] theorem Dev.bumpWrap_acc (d : Dev) (f : Fld) (ix : Nat) (w : Fld) (i b : Nat) : (d.bumpWrap f ix w i b).acc = d.acc := by unfold Dev.bumpWrap; simp only []; split <;> rfl
@[simp] theorem Dev.bumpWrap_evt (d : Dev) (f : Fld) (ix : Nat) (w : Fld) (i b : Nat) : (d.bumpWrap f ix w i b).evt = d.evt := by unfold Dev.bumpWrap; simp only []; split <;> rfl
@[simp] theorem Dev.bumpWrap_msix (d : Dev) (f : Fld) (ix : Nat) (w : Fld) (i b : Nat) : (d.bumpWrap f ix w i b).msix = d.msix := by unfold Dev.bumpWrap; simp only []; split <;> rfl
@[simp] theorem Dev.bumpWrap_tim (d : Dev) (f : Fld) (ix : Nat) (w : Fld) (i b : Nat) : (d.bumpWrap f ix w i b).tim = d.tim := by unfold Dev.bumpWrap; simp only []; split <;> rfl
@[simp] theorem Dev.bumpWrap_net (d : Dev) (f : Fld) (ix : Nat) (w : Fld) (i b : Nat) : (d.bumpWrap f ix w i b).net = d.net := by unfold Dev.bumpWrap; simp only []; split <;> rfl
@[simp] theorem Dev.bumpWrap_bpm (d : Dev) (f : Fld) (ix : Nat) (w : Fld) (i b : Nat) : (d.bumpWrap f ix w i b).bpm = d.bpm := by unfold Dev.bumpWrap; simp only []; split <;> rfl
@[simp] theorem Dev.bumpWrap_fifos (d : Dev) (f : Fld) (ix : Nat) (w : Fld) (i b : Nat) : (d.bumpWrap f ix w i b).fifos = d.fifos := by unfold Dev.bumpWrap; simp only []; split <;> rfl
@[simp] theorem Dev.bumpWrap_sch (d : Dev) (f : Fld) (ix : Nat) (w : Fld) (i b : Nat) : (d.bumpWrap f ix w i b).sch = d.sch := by unfold Dev.bumpWrap; simp only []; split <;> rfl
@[simp] theorem Dev.bumpWrap_host (d : Dev) (f : Fld) (ix : Nat) (w : Fld) (i b : Nat) : (d.bumpWrap f ix w i b).host = d.host := by unfold Dev.bumpWrap; simp only []; split <;> rfl
@[simp] theorem Dev.bumpWrap_pkts (d : Dev) (f : Fld) (ix : Nat) (w : Fld) (i b : Nat) : (d.bumpWrap f ix w i b).pkts = d.pkts := by unfold Dev.bumpWrap; simp only []; split <;> rfl
@[simp] theorem Dev.bumpWrap_nextPkt (d : Dev) (f : Fld) (ix : Nat) (w : Fld) (i b : Nat) : (d.bumpWrap f ix w i b).nextPkt = d.nextPkt := by unfold Dev.bumpWrap; simp only []; split <;> rfl
@[simp] theorem Dev.bumpWrap_pipes (d : Dev) (f : Fld) (ix : Nat) (w : Fld) (i b : Nat) : (d.bumpWrap f ix w i b).pipes = d.pipes := by unfold Dev.bumpWrap; simp only []; split <;> rfl
@[simp] theorem Dev.bumpWrap_cls (d : Dev) (f : Fld) (ix : Nat) (w : Fld) (i b : Nat) : (d.bumpWrap f ix w i b).cls = d.cls := by unfold Dev.bumpWrap; simp only []; split <;> rfl
@[simp] theorem Dev.bumpWrap_tel (d : Dev) (f : Fld) (ix : Nat) (w : Fld) (i b : Nat) : (d.bumpWrap f ix w i b).tel = d.tel := by unfold Dev.bumpWrap; simp only []; split <;> rfl
@[simp] theorem Dev.bumpWrap_flw (d : Dev) (f : Fld) (ix : Nat) (w : Fld) (i b : Nat) : (d.bumpWrap f ix w i b).flw = d.flw := by unfold Dev.bumpWrap; simp only []; split <;> rfl
@[simp] theorem Dev.bumpWrap_twn (d : Dev) (f : Fld) (ix : Nat) (w : Fld) (i b : Nat) : (d.bumpWrap f ix w i b).twn = d.twn := by unfold Dev.bumpWrap; simp only []; split <;> rfl
@[simp] theorem Dev.bumpWrap_eng (d : Dev) (f : Fld) (ix : Nat) (w : Fld) (i b : Nat) : (d.bumpWrap f ix w i b).eng = d.eng := by unfold Dev.bumpWrap; simp only []; split <;> rfl
@[simp] theorem Dev.bumpWrap_swp (d : Dev) (f : Fld) (ix : Nat) (w : Fld) (i b : Nat) : (d.bumpWrap f ix w i b).swp = d.swp := by unfold Dev.bumpWrap; simp only []; split <;> rfl
@[simp] theorem Dev.bumpWrap_nat (d : Dev) (f : Fld) (ix : Nat) (w : Fld) (i b : Nat) : (d.bumpWrap f ix w i b).nat = d.nat := by unfold Dev.bumpWrap; simp only []; split <;> rfl
@[simp] theorem Dev.bumpWrap_roll (d : Dev) (f : Fld) (ix : Nat) (w : Fld) (i b : Nat) : (d.bumpWrap f ix w i b).roll = d.roll := by unfold Dev.bumpWrap; simp only []; split <;> rfl
@[simp] theorem Dev.bumpWrap_fuse (d : Dev) (f : Fld) (ix : Nat) (w : Fld) (i b : Nat) : (d.bumpWrap f ix w i b).fuse = d.fuse := by unfold Dev.bumpWrap; simp only []; split <;> rfl
@[simp] theorem Dev.bumpWrap_boot (d : Dev) (f : Fld) (ix : Nat) (w : Fld) (i b : Nat) : (d.bumpWrap f ix w i b).boot = d.boot := by unfold Dev.bumpWrap; simp only []; split <;> rfl
@[simp] theorem Dev.bumpWrap_sec (d : Dev) (f : Fld) (ix : Nat) (w : Fld) (i b : Nat) : (d.bumpWrap f ix w i b).sec = d.sec := by unfold Dev.bumpWrap; simp only []; split <;> rfl
@[simp] theorem Dev.bumpWrap_rel (d : Dev) (f : Fld) (ix : Nat) (w : Fld) (i b : Nat) : (d.bumpWrap f ix w i b).rel = d.rel := by unfold Dev.bumpWrap; simp only []; split <;> rfl
@[simp] theorem Dev.bumpWrap_pwr (d : Dev) (f : Fld) (ix : Nat) (w : Fld) (i b : Nat) : (d.bumpWrap f ix w i b).pwr = d.pwr := by unfold Dev.bumpWrap; simp only []; split <;> rfl
@[simp] theorem Dev.bumpWrap_dist (d : Dev) (f : Fld) (ix : Nat) (w : Fld) (i b : Nat) : (d.bumpWrap f ix w i b).dist = d.dist := by unfold Dev.bumpWrap; simp only []; split <;> rfl
@[simp] theorem Dev.bumpWrap_out (d : Dev) (f : Fld) (ix : Nat) (w : Fld) (i b : Nat) : (d.bumpWrap f ix w i b).out = d.out := by unfold Dev.bumpWrap; simp only []; split <;> rfl
@[simp] theorem Dev.bumpWrap_draws (d : Dev) (f : Fld) (ix : Nat) (w : Fld) (i b : Nat) : (d.bumpWrap f ix w i b).draws = d.draws := by unfold Dev.bumpWrap; simp only []; split <;> rfl

/-! `setTw` changes tbls alone. -/
@[simp] theorem Dev.setTw_regs (d : Dev) (t : TableId) (i ix w v : Nat) : (d.setTw t i ix w v).regs = d.regs := (rfl)
@[simp] theorem Dev.setTw_acc (d : Dev) (t : TableId) (i ix w v : Nat) : (d.setTw t i ix w v).acc = d.acc := (rfl)
@[simp] theorem Dev.setTw_evt (d : Dev) (t : TableId) (i ix w v : Nat) : (d.setTw t i ix w v).evt = d.evt := (rfl)
@[simp] theorem Dev.setTw_msix (d : Dev) (t : TableId) (i ix w v : Nat) : (d.setTw t i ix w v).msix = d.msix := (rfl)
@[simp] theorem Dev.setTw_tim (d : Dev) (t : TableId) (i ix w v : Nat) : (d.setTw t i ix w v).tim = d.tim := (rfl)
@[simp] theorem Dev.setTw_net (d : Dev) (t : TableId) (i ix w v : Nat) : (d.setTw t i ix w v).net = d.net := (rfl)
@[simp] theorem Dev.setTw_bpm (d : Dev) (t : TableId) (i ix w v : Nat) : (d.setTw t i ix w v).bpm = d.bpm := (rfl)
@[simp] theorem Dev.setTw_fifos (d : Dev) (t : TableId) (i ix w v : Nat) : (d.setTw t i ix w v).fifos = d.fifos := (rfl)
@[simp] theorem Dev.setTw_sch (d : Dev) (t : TableId) (i ix w v : Nat) : (d.setTw t i ix w v).sch = d.sch := (rfl)
@[simp] theorem Dev.setTw_host (d : Dev) (t : TableId) (i ix w v : Nat) : (d.setTw t i ix w v).host = d.host := (rfl)
@[simp] theorem Dev.setTw_pkts (d : Dev) (t : TableId) (i ix w v : Nat) : (d.setTw t i ix w v).pkts = d.pkts := (rfl)
@[simp] theorem Dev.setTw_nextPkt (d : Dev) (t : TableId) (i ix w v : Nat) : (d.setTw t i ix w v).nextPkt = d.nextPkt := (rfl)
@[simp] theorem Dev.setTw_pipes (d : Dev) (t : TableId) (i ix w v : Nat) : (d.setTw t i ix w v).pipes = d.pipes := (rfl)
@[simp] theorem Dev.setTw_cls (d : Dev) (t : TableId) (i ix w v : Nat) : (d.setTw t i ix w v).cls = d.cls := (rfl)
@[simp] theorem Dev.setTw_tel (d : Dev) (t : TableId) (i ix w v : Nat) : (d.setTw t i ix w v).tel = d.tel := (rfl)
@[simp] theorem Dev.setTw_flw (d : Dev) (t : TableId) (i ix w v : Nat) : (d.setTw t i ix w v).flw = d.flw := (rfl)
@[simp] theorem Dev.setTw_twn (d : Dev) (t : TableId) (i ix w v : Nat) : (d.setTw t i ix w v).twn = d.twn := (rfl)
@[simp] theorem Dev.setTw_eng (d : Dev) (t : TableId) (i ix w v : Nat) : (d.setTw t i ix w v).eng = d.eng := (rfl)
@[simp] theorem Dev.setTw_swp (d : Dev) (t : TableId) (i ix w v : Nat) : (d.setTw t i ix w v).swp = d.swp := (rfl)
@[simp] theorem Dev.setTw_nat (d : Dev) (t : TableId) (i ix w v : Nat) : (d.setTw t i ix w v).nat = d.nat := (rfl)
@[simp] theorem Dev.setTw_roll (d : Dev) (t : TableId) (i ix w v : Nat) : (d.setTw t i ix w v).roll = d.roll := (rfl)
@[simp] theorem Dev.setTw_fuse (d : Dev) (t : TableId) (i ix w v : Nat) : (d.setTw t i ix w v).fuse = d.fuse := (rfl)
@[simp] theorem Dev.setTw_boot (d : Dev) (t : TableId) (i ix w v : Nat) : (d.setTw t i ix w v).boot = d.boot := (rfl)
@[simp] theorem Dev.setTw_sec (d : Dev) (t : TableId) (i ix w v : Nat) : (d.setTw t i ix w v).sec = d.sec := (rfl)
@[simp] theorem Dev.setTw_rel (d : Dev) (t : TableId) (i ix w v : Nat) : (d.setTw t i ix w v).rel = d.rel := (rfl)
@[simp] theorem Dev.setTw_pwr (d : Dev) (t : TableId) (i ix w v : Nat) : (d.setTw t i ix w v).pwr = d.pwr := (rfl)
@[simp] theorem Dev.setTw_dist (d : Dev) (t : TableId) (i ix w v : Nat) : (d.setTw t i ix w v).dist = d.dist := (rfl)
@[simp] theorem Dev.setTw_out (d : Dev) (t : TableId) (i ix w v : Nat) : (d.setTw t i ix w v).out = d.out := (rfl)
@[simp] theorem Dev.setTw_draws (d : Dev) (t : TableId) (i ix w v : Nat) : (d.setTw t i ix w v).draws = d.draws := (rfl)

/-! `bumpTw` changes tbls alone. -/
@[simp] theorem Dev.bumpTw_regs (d : Dev) (t : TableId) (i ix w n : Nat) : (d.bumpTw t i ix w n).regs = d.regs := (rfl)
@[simp] theorem Dev.bumpTw_acc (d : Dev) (t : TableId) (i ix w n : Nat) : (d.bumpTw t i ix w n).acc = d.acc := (rfl)
@[simp] theorem Dev.bumpTw_evt (d : Dev) (t : TableId) (i ix w n : Nat) : (d.bumpTw t i ix w n).evt = d.evt := (rfl)
@[simp] theorem Dev.bumpTw_msix (d : Dev) (t : TableId) (i ix w n : Nat) : (d.bumpTw t i ix w n).msix = d.msix := (rfl)
@[simp] theorem Dev.bumpTw_tim (d : Dev) (t : TableId) (i ix w n : Nat) : (d.bumpTw t i ix w n).tim = d.tim := (rfl)
@[simp] theorem Dev.bumpTw_net (d : Dev) (t : TableId) (i ix w n : Nat) : (d.bumpTw t i ix w n).net = d.net := (rfl)
@[simp] theorem Dev.bumpTw_bpm (d : Dev) (t : TableId) (i ix w n : Nat) : (d.bumpTw t i ix w n).bpm = d.bpm := (rfl)
@[simp] theorem Dev.bumpTw_fifos (d : Dev) (t : TableId) (i ix w n : Nat) : (d.bumpTw t i ix w n).fifos = d.fifos := (rfl)
@[simp] theorem Dev.bumpTw_sch (d : Dev) (t : TableId) (i ix w n : Nat) : (d.bumpTw t i ix w n).sch = d.sch := (rfl)
@[simp] theorem Dev.bumpTw_host (d : Dev) (t : TableId) (i ix w n : Nat) : (d.bumpTw t i ix w n).host = d.host := (rfl)
@[simp] theorem Dev.bumpTw_pkts (d : Dev) (t : TableId) (i ix w n : Nat) : (d.bumpTw t i ix w n).pkts = d.pkts := (rfl)
@[simp] theorem Dev.bumpTw_nextPkt (d : Dev) (t : TableId) (i ix w n : Nat) : (d.bumpTw t i ix w n).nextPkt = d.nextPkt := (rfl)
@[simp] theorem Dev.bumpTw_pipes (d : Dev) (t : TableId) (i ix w n : Nat) : (d.bumpTw t i ix w n).pipes = d.pipes := (rfl)
@[simp] theorem Dev.bumpTw_cls (d : Dev) (t : TableId) (i ix w n : Nat) : (d.bumpTw t i ix w n).cls = d.cls := (rfl)
@[simp] theorem Dev.bumpTw_tel (d : Dev) (t : TableId) (i ix w n : Nat) : (d.bumpTw t i ix w n).tel = d.tel := (rfl)
@[simp] theorem Dev.bumpTw_flw (d : Dev) (t : TableId) (i ix w n : Nat) : (d.bumpTw t i ix w n).flw = d.flw := (rfl)
@[simp] theorem Dev.bumpTw_twn (d : Dev) (t : TableId) (i ix w n : Nat) : (d.bumpTw t i ix w n).twn = d.twn := (rfl)
@[simp] theorem Dev.bumpTw_eng (d : Dev) (t : TableId) (i ix w n : Nat) : (d.bumpTw t i ix w n).eng = d.eng := (rfl)
@[simp] theorem Dev.bumpTw_swp (d : Dev) (t : TableId) (i ix w n : Nat) : (d.bumpTw t i ix w n).swp = d.swp := (rfl)
@[simp] theorem Dev.bumpTw_nat (d : Dev) (t : TableId) (i ix w n : Nat) : (d.bumpTw t i ix w n).nat = d.nat := (rfl)
@[simp] theorem Dev.bumpTw_roll (d : Dev) (t : TableId) (i ix w n : Nat) : (d.bumpTw t i ix w n).roll = d.roll := (rfl)
@[simp] theorem Dev.bumpTw_fuse (d : Dev) (t : TableId) (i ix w n : Nat) : (d.bumpTw t i ix w n).fuse = d.fuse := (rfl)
@[simp] theorem Dev.bumpTw_boot (d : Dev) (t : TableId) (i ix w n : Nat) : (d.bumpTw t i ix w n).boot = d.boot := (rfl)
@[simp] theorem Dev.bumpTw_sec (d : Dev) (t : TableId) (i ix w n : Nat) : (d.bumpTw t i ix w n).sec = d.sec := (rfl)
@[simp] theorem Dev.bumpTw_rel (d : Dev) (t : TableId) (i ix w n : Nat) : (d.bumpTw t i ix w n).rel = d.rel := (rfl)
@[simp] theorem Dev.bumpTw_pwr (d : Dev) (t : TableId) (i ix w n : Nat) : (d.bumpTw t i ix w n).pwr = d.pwr := (rfl)
@[simp] theorem Dev.bumpTw_dist (d : Dev) (t : TableId) (i ix w n : Nat) : (d.bumpTw t i ix w n).dist = d.dist := (rfl)
@[simp] theorem Dev.bumpTw_out (d : Dev) (t : TableId) (i ix w n : Nat) : (d.bumpTw t i ix w n).out = d.out := (rfl)
@[simp] theorem Dev.bumpTw_draws (d : Dev) (t : TableId) (i ix w n : Nat) : (d.bumpTw t i ix w n).draws = d.draws := (rfl)

/-! `emit` changes out alone. -/
@[simp] theorem Dev.emit_regs (d : Dev) (o : Out) : (d.emit o).regs = d.regs := (rfl)
@[simp] theorem Dev.emit_tbls (d : Dev) (o : Out) : (d.emit o).tbls = d.tbls := (rfl)
@[simp] theorem Dev.emit_acc (d : Dev) (o : Out) : (d.emit o).acc = d.acc := (rfl)
@[simp] theorem Dev.emit_evt (d : Dev) (o : Out) : (d.emit o).evt = d.evt := (rfl)
@[simp] theorem Dev.emit_msix (d : Dev) (o : Out) : (d.emit o).msix = d.msix := (rfl)
@[simp] theorem Dev.emit_tim (d : Dev) (o : Out) : (d.emit o).tim = d.tim := (rfl)
@[simp] theorem Dev.emit_net (d : Dev) (o : Out) : (d.emit o).net = d.net := (rfl)
@[simp] theorem Dev.emit_bpm (d : Dev) (o : Out) : (d.emit o).bpm = d.bpm := (rfl)
@[simp] theorem Dev.emit_fifos (d : Dev) (o : Out) : (d.emit o).fifos = d.fifos := (rfl)
@[simp] theorem Dev.emit_sch (d : Dev) (o : Out) : (d.emit o).sch = d.sch := (rfl)
@[simp] theorem Dev.emit_host (d : Dev) (o : Out) : (d.emit o).host = d.host := (rfl)
@[simp] theorem Dev.emit_pkts (d : Dev) (o : Out) : (d.emit o).pkts = d.pkts := (rfl)
@[simp] theorem Dev.emit_nextPkt (d : Dev) (o : Out) : (d.emit o).nextPkt = d.nextPkt := (rfl)
@[simp] theorem Dev.emit_pipes (d : Dev) (o : Out) : (d.emit o).pipes = d.pipes := (rfl)
@[simp] theorem Dev.emit_cls (d : Dev) (o : Out) : (d.emit o).cls = d.cls := (rfl)
@[simp] theorem Dev.emit_tel (d : Dev) (o : Out) : (d.emit o).tel = d.tel := (rfl)
@[simp] theorem Dev.emit_flw (d : Dev) (o : Out) : (d.emit o).flw = d.flw := (rfl)
@[simp] theorem Dev.emit_twn (d : Dev) (o : Out) : (d.emit o).twn = d.twn := (rfl)
@[simp] theorem Dev.emit_eng (d : Dev) (o : Out) : (d.emit o).eng = d.eng := (rfl)
@[simp] theorem Dev.emit_swp (d : Dev) (o : Out) : (d.emit o).swp = d.swp := (rfl)
@[simp] theorem Dev.emit_nat (d : Dev) (o : Out) : (d.emit o).nat = d.nat := (rfl)
@[simp] theorem Dev.emit_roll (d : Dev) (o : Out) : (d.emit o).roll = d.roll := (rfl)
@[simp] theorem Dev.emit_fuse (d : Dev) (o : Out) : (d.emit o).fuse = d.fuse := (rfl)
@[simp] theorem Dev.emit_boot (d : Dev) (o : Out) : (d.emit o).boot = d.boot := (rfl)
@[simp] theorem Dev.emit_sec (d : Dev) (o : Out) : (d.emit o).sec = d.sec := (rfl)
@[simp] theorem Dev.emit_rel (d : Dev) (o : Out) : (d.emit o).rel = d.rel := (rfl)
@[simp] theorem Dev.emit_pwr (d : Dev) (o : Out) : (d.emit o).pwr = d.pwr := (rfl)
@[simp] theorem Dev.emit_dist (d : Dev) (o : Out) : (d.emit o).dist = d.dist := (rfl)
@[simp] theorem Dev.emit_draws (d : Dev) (o : Out) : (d.emit o).draws = d.draws := (rfl)

/-! `setEvtRing` changes evt alone. -/
@[simp] theorem Dev.setEvtRing_regs (d : Dev) (k : Nat) (r : EvtRing) : (d.setEvtRing k r).regs = d.regs := (rfl)
@[simp] theorem Dev.setEvtRing_tbls (d : Dev) (k : Nat) (r : EvtRing) : (d.setEvtRing k r).tbls = d.tbls := (rfl)
@[simp] theorem Dev.setEvtRing_acc (d : Dev) (k : Nat) (r : EvtRing) : (d.setEvtRing k r).acc = d.acc := (rfl)
@[simp] theorem Dev.setEvtRing_msix (d : Dev) (k : Nat) (r : EvtRing) : (d.setEvtRing k r).msix = d.msix := (rfl)
@[simp] theorem Dev.setEvtRing_tim (d : Dev) (k : Nat) (r : EvtRing) : (d.setEvtRing k r).tim = d.tim := (rfl)
@[simp] theorem Dev.setEvtRing_net (d : Dev) (k : Nat) (r : EvtRing) : (d.setEvtRing k r).net = d.net := (rfl)
@[simp] theorem Dev.setEvtRing_bpm (d : Dev) (k : Nat) (r : EvtRing) : (d.setEvtRing k r).bpm = d.bpm := (rfl)
@[simp] theorem Dev.setEvtRing_fifos (d : Dev) (k : Nat) (r : EvtRing) : (d.setEvtRing k r).fifos = d.fifos := (rfl)
@[simp] theorem Dev.setEvtRing_sch (d : Dev) (k : Nat) (r : EvtRing) : (d.setEvtRing k r).sch = d.sch := (rfl)
@[simp] theorem Dev.setEvtRing_host (d : Dev) (k : Nat) (r : EvtRing) : (d.setEvtRing k r).host = d.host := (rfl)
@[simp] theorem Dev.setEvtRing_pkts (d : Dev) (k : Nat) (r : EvtRing) : (d.setEvtRing k r).pkts = d.pkts := (rfl)
@[simp] theorem Dev.setEvtRing_nextPkt (d : Dev) (k : Nat) (r : EvtRing) : (d.setEvtRing k r).nextPkt = d.nextPkt := (rfl)
@[simp] theorem Dev.setEvtRing_pipes (d : Dev) (k : Nat) (r : EvtRing) : (d.setEvtRing k r).pipes = d.pipes := (rfl)
@[simp] theorem Dev.setEvtRing_cls (d : Dev) (k : Nat) (r : EvtRing) : (d.setEvtRing k r).cls = d.cls := (rfl)
@[simp] theorem Dev.setEvtRing_tel (d : Dev) (k : Nat) (r : EvtRing) : (d.setEvtRing k r).tel = d.tel := (rfl)
@[simp] theorem Dev.setEvtRing_flw (d : Dev) (k : Nat) (r : EvtRing) : (d.setEvtRing k r).flw = d.flw := (rfl)
@[simp] theorem Dev.setEvtRing_twn (d : Dev) (k : Nat) (r : EvtRing) : (d.setEvtRing k r).twn = d.twn := (rfl)
@[simp] theorem Dev.setEvtRing_eng (d : Dev) (k : Nat) (r : EvtRing) : (d.setEvtRing k r).eng = d.eng := (rfl)
@[simp] theorem Dev.setEvtRing_swp (d : Dev) (k : Nat) (r : EvtRing) : (d.setEvtRing k r).swp = d.swp := (rfl)
@[simp] theorem Dev.setEvtRing_nat (d : Dev) (k : Nat) (r : EvtRing) : (d.setEvtRing k r).nat = d.nat := (rfl)
@[simp] theorem Dev.setEvtRing_roll (d : Dev) (k : Nat) (r : EvtRing) : (d.setEvtRing k r).roll = d.roll := (rfl)
@[simp] theorem Dev.setEvtRing_fuse (d : Dev) (k : Nat) (r : EvtRing) : (d.setEvtRing k r).fuse = d.fuse := (rfl)
@[simp] theorem Dev.setEvtRing_boot (d : Dev) (k : Nat) (r : EvtRing) : (d.setEvtRing k r).boot = d.boot := (rfl)
@[simp] theorem Dev.setEvtRing_sec (d : Dev) (k : Nat) (r : EvtRing) : (d.setEvtRing k r).sec = d.sec := (rfl)
@[simp] theorem Dev.setEvtRing_rel (d : Dev) (k : Nat) (r : EvtRing) : (d.setEvtRing k r).rel = d.rel := (rfl)
@[simp] theorem Dev.setEvtRing_pwr (d : Dev) (k : Nat) (r : EvtRing) : (d.setEvtRing k r).pwr = d.pwr := (rfl)
@[simp] theorem Dev.setEvtRing_dist (d : Dev) (k : Nat) (r : EvtRing) : (d.setEvtRing k r).dist = d.dist := (rfl)
@[simp] theorem Dev.setEvtRing_out (d : Dev) (k : Nat) (r : EvtRing) : (d.setEvtRing k r).out = d.out := (rfl)
@[simp] theorem Dev.setEvtRing_draws (d : Dev) (k : Nat) (r : EvtRing) : (d.setEvtRing k r).draws = d.draws := (rfl)

@[simp] theorem Dev.emit_out (d : Dev) (o : Out) : (d.emit o).out = d.out ++ [o] := (rfl)
@[simp] theorem Dev.setReg_tw (d : Dev) (r : Reg) (ix : Nat) (v : Word) (u : TableId) (j jx w : Nat) : (d.setReg r ix v).tw u j jx w = d.tw u j jx w := (rfl)
@[simp] theorem Dev.put_tw (d : Dev) (f : Fld) (ix v : Nat) (u : TableId) (j jx w : Nat) : (d.put f ix v).tw u j jx w = d.tw u j jx w := (rfl)
@[simp] theorem Dev.putB_tw (d : Dev) (f : Fld) (ix : Nat) (b : Bool) (u : TableId) (j jx w : Nat) : (d.putB f ix b).tw u j jx w = d.tw u j jx w := (rfl)
@[simp] theorem Dev.bump_tw (d : Dev) (f : Fld) (ix n : Nat) (u : TableId) (j jx w : Nat) : (d.bump f ix n).tw u j jx w = d.tw u j jx w := (rfl)
@[simp] theorem Dev.bumpSat_tw (d : Dev) (f : Fld) (ix : Nat) (u : TableId) (j jx w : Nat) : (d.bumpSat f ix).tw u j jx w = d.tw u j jx w := (rfl)
@[simp] theorem Dev.peak_tw (d : Dev) (f : Fld) (ix v : Nat) (u : TableId) (j jx w : Nat) : (d.peak f ix v).tw u j jx w = d.tw u j jx w := (rfl)
@[simp] theorem Dev.bumpWrap_tw (d : Dev) (f : Fld) (ix : Nat) (z : Fld) (y b : Nat) (u : TableId) (j jx w : Nat) : (d.bumpWrap f ix z y b).tw u j jx w = d.tw u j jx w := by
  unfold Dev.bumpWrap; simp only []; split <;> rfl
@[simp] theorem Dev.setTw_fld (d : Dev) (t : TableId) (i ix w v : Nat) (g : Fld) (jx : Nat) : (d.setTw t i ix w v).fld g jx = d.fld g jx := (rfl)
@[simp] theorem Dev.setTw_reg (d : Dev) (t : TableId) (i ix w v : Nat) (g : Reg) (jx : Nat) : (d.setTw t i ix w v).reg g jx = d.reg g jx := (rfl)
@[simp] theorem Dev.bumpTw_fld (d : Dev) (t : TableId) (i ix w n : Nat) (g : Fld) (jx : Nat) : (d.bumpTw t i ix w n).fld g jx = d.fld g jx := (rfl)
@[simp] theorem Dev.bumpTw_reg (d : Dev) (t : TableId) (i ix w n : Nat) (g : Reg) (jx : Nat) : (d.bumpTw t i ix w n).reg g jx = d.reg g jx := (rfl)
@[simp] theorem Dev.emit_fld (d : Dev) (o : Out) (g : Fld) (jx : Nat) : (d.emit o).fld g jx = d.fld g jx := (rfl)
@[simp] theorem Dev.emit_reg (d : Dev) (o : Out) (g : Reg) (jx : Nat) : (d.emit o).reg g jx = d.reg g jx := (rfl)
@[simp] theorem Dev.emit_tw (d : Dev) (o : Out) (u : TableId) (j jx w : Nat) : (d.emit o).tw u j jx w = d.tw u j jx w := (rfl)
@[simp] theorem Dev.setEvtRing_fld (d : Dev) (k : Nat) (r : EvtRing) (g : Fld) (jx : Nat) : (d.setEvtRing k r).fld g jx = d.fld g jx := (rfl)
@[simp] theorem Dev.setEvtRing_reg (d : Dev) (k : Nat) (r : EvtRing) (g : Reg) (jx : Nat) : (d.setEvtRing k r).reg g jx = d.reg g jx := (rfl)
@[simp] theorem Dev.setEvtRing_tw (d : Dev) (k : Nat) (r : EvtRing) (u : TableId) (j jx w : Nat) : (d.setEvtRing k r).tw u j jx w = d.tw u j jx w := (rfl)

end Sys2Proof.Machine
end

