-- ==== Sys2Proof/Laws/Ops.lean ====
section
/-! SUPPORT. Registers, fields and table words: a read after a write, and what the shared operations leave alone. -/
namespace Sys2Proof.Machine

/-! ### Bits of a number -/

theorem bitsOf_lt (v lo n : Nat) : bitsOf v lo n < 2 ^ n := Nat.mod_lt _ (by positivity)

theorem putBits_lt {v lo n x w : Nat} (hv : v < 2 ^ w) (h : lo + n ≤ w) : putBits v lo n x < 2 ^ w := by
  obtain ⟨k, rfl⟩ := Nat.exists_eq_add_of_le h
  unfold putBits
  have h1 : v % 2 ^ lo < 2 ^ lo := Nat.mod_lt _ (by positivity)
  have h2 : x % 2 ^ n < 2 ^ n := Nat.mod_lt _ (by positivity)
  have h3 : v / 2 ^ (lo + n) < 2 ^ k := by
    rw [Nat.div_lt_iff_lt_mul (by positivity), ← pow_add, add_comm k]; exact hv
  have e1 : (x % 2 ^ n) * 2 ^ lo + 2 ^ lo ≤ 2 ^ (lo + n) := by
    rw [pow_add]; nlinarith [Nat.succ_le_of_lt h2, Nat.two_pow_pos (lo)]
  have e2 : v / 2 ^ (lo + n) * 2 ^ (lo + n) + 2 ^ (lo + n) ≤ 2 ^ (lo + n + k) := by
    rw [pow_add 2 (lo + n) k]
    nlinarith [Nat.succ_le_of_lt h3, Nat.two_pow_pos (lo + n)]
  omega

theorem bitsOf_putBits_same (v lo n x : Nat) : bitsOf (putBits v lo n x) lo n = x % 2 ^ n := by
  unfold bitsOf putBits
  have h1 : v % 2 ^ lo < 2 ^ lo := Nat.mod_lt _ (by positivity)
  have : v % 2 ^ lo + x % 2 ^ n * 2 ^ lo + v / 2 ^ (lo + n) * 2 ^ (lo + n) =
      v % 2 ^ lo + 2 ^ lo * (x % 2 ^ n + v / 2 ^ (lo + n) * 2 ^ n) := by rw [pow_add]; ring
  rw [this, Nat.add_mul_div_left _ _ (by positivity), Nat.div_eq_of_lt h1, zero_add, Nat.add_mul_mod_self_right,
    Nat.mod_mod]

theorem bitsOf_putBits_below {v lo n x l m : Nat} (h : l + m ≤ lo) :
    bitsOf (putBits v lo n x) l m = bitsOf v l m := by
  obtain ⟨k, rfl⟩ := Nat.exists_eq_add_of_le h
  unfold bitsOf putBits
  have hv : v = v % 2 ^ (l + m + k) + v / 2 ^ (l + m + k) * 2 ^ (l + m + k) := by
    rw [mul_comm]; exact (Nat.mod_add_div _ _).symm
  have e : ∀ y : Nat, (v % 2 ^ (l + m + k) + y * 2 ^ (l + m + k)) / 2 ^ l % 2 ^ m =
      v % 2 ^ (l + m + k) / 2 ^ l % 2 ^ m := by
    intro y
    have : y * 2 ^ (l + m + k) = 2 ^ l * (y * 2 ^ k * 2 ^ m) := by rw [pow_add, pow_add]; ring
    rw [this, Nat.add_mul_div_left _ _ (by positivity), Nat.add_mul_mod_self_right]
  conv_rhs => rw [hv, e]
  have : v % 2 ^ (l + m + k) + x % 2 ^ n * 2 ^ (l + m + k) + v / 2 ^ (l + m + k + n) * 2 ^ (l + m + k + n) =
      v % 2 ^ (l + m + k) + (x % 2 ^ n + v / 2 ^ (l + m + k + n) * 2 ^ n) * 2 ^ (l + m + k) := by
    rw [pow_add 2 (l + m + k) n]; ring
  rw [this, e]

theorem bitsOf_putBits_above {v lo n x l m : Nat} (h : lo + n ≤ l) :
    bitsOf (putBits v lo n x) l m = bitsOf v l m := by
  obtain ⟨k, rfl⟩ := Nat.exists_eq_add_of_le h
  unfold bitsOf putBits
  have h1 : v % 2 ^ lo < 2 ^ lo := Nat.mod_lt _ (by positivity)
  have h2 : x % 2 ^ n < 2 ^ n := Nat.mod_lt _ (by positivity)
  have e1 : v % 2 ^ lo + x % 2 ^ n * 2 ^ lo < 2 ^ (lo + n) := by
    rw [pow_add]; nlinarith [Nat.succ_le_of_lt h2, Nat.two_pow_pos (lo)]
  rw [pow_add 2 (lo + n) k, ← Nat.div_div_eq_div_mul, ← Nat.div_div_eq_div_mul,
    Nat.add_mul_div_right _ _ (by positivity), Nat.div_eq_of_lt e1, zero_add]

/-! ### Registers and fields -/

theorem Reg.num_inj {r s : Reg} (h : r.num = s.num) : r = s := by
  have := congrArg Reg.ofNat h
  simpa [Reg.num, Reg.ofNat_ctorIdx] using this

@[simp] theorem Dev.reg_setReg_same (d : Dev) (r : Reg) (ix : Nat) (v : Word) : (d.setReg r ix v).reg r ix = v := by
  unfold Dev.setReg Dev.reg
  split <;> simp_all

theorem Dev.reg_setReg_other (d : Dev) {r s : Reg} {ix jx : Nat} (v : Word) (h : s ≠ r ∨ jx ≠ ix) :
    (d.setReg r ix v).reg s jx = d.reg s jx := by
  have hk : (⟨s.num, jx, 0⟩ : Key) ≠ ⟨r.num, ix, 0⟩ := by
    intro e
    simp only [Key.mk.injEq, and_true] at e
    rcases h with h | h
    · exact h (Reg.num_inj e.1)
    · exact h e.2
  unfold Dev.setReg Dev.reg
  split
  · simp [Tbl.find_erase_other _ hk]
  · simp [Tbl.find_put_other _ v hk]

theorem Dev.fld_setReg_reg (d : Dev) {r : Reg} {g : Fld} {ix jx : Nat} (v : Word) (h : (r == g.reg) = false) :
    (d.setReg r ix v).fld g jx = d.fld g jx := by
  unfold Dev.fld
  rw [Dev.reg_setReg_other d v (.inl (fun e => by rw [e] at h; simp at h))]

theorem Dev.put_toNat (d : Dev) (f : Fld) (ix v : Nat) (h : f.fits = true) :
    ((d.put f ix v).reg f.reg ix).toNat = putBits (d.reg f.reg ix).toNat f.lo f.bits v := by
  simp only [Fld.fits, Bool.and_eq_true, decide_eq_true_eq] at h
  simp only [Dev.put, Dev.reg_setReg_same, BitVec.toNat_ofNat]
  exact Nat.mod_eq_of_lt (putBits_lt (d.reg f.reg ix).isLt (by unfold Fld.bits; omega))

/-- A field reads as the value put into it, modulo its width. -/
@[simp] theorem Dev.fld_put_same (d : Dev) (f : Fld) (ix v : Nat) (h : f.fits = true) :
    (d.put f ix v).fld f ix = v % 2 ^ f.bits := by
  unfold Dev.fld
  rw [Dev.put_toNat d f ix v h, bitsOf_putBits_same]

/-- A field reads as a value put into it that fits. -/
theorem Dev.fld_put_small (d : Dev) (f : Fld) (ix v : Nat) (h : f.fits = true) (hv : v < 2 ^ f.bits) :
    (d.put f ix v).fld f ix = v := (d.fld_put_same f ix v h).trans (Nat.mod_eq_of_lt hv)

/-- A put changes no other register and no other copy. -/
theorem Dev.reg_put_other (d : Dev) {f : Fld} {s : Reg} {ix jx : Nat} (v : Nat) (h : s ≠ f.reg ∨ jx ≠ ix) :
    (d.put f ix v).reg s jx = d.reg s jx := Dev.reg_setReg_other d _ h

theorem Dev.fld_put_copy (d : Dev) {f g : Fld} {ix jx : Nat} (v : Nat) (h : jx ≠ ix) :
    (d.put f ix v).fld g jx = d.fld g jx := by
  unfold Dev.fld; rw [Dev.reg_put_other d v (.inr h)]

theorem Dev.fld_put_reg (d : Dev) {f g : Fld} {ix jx : Nat} (v : Nat) (h : (f.reg == g.reg) = false) :
    (d.put f ix v).fld g jx = d.fld g jx := by
  unfold Dev.fld; rw [Dev.reg_put_other d v (.inl (fun e => by rw [e] at h; simp at h))]

/-- A put changes no field with no bit in common. -/
theorem Dev.fld_put_apart (d : Dev) {f g : Fld} {ix jx : Nat} (v : Nat) (hf : f.fits = true) (hg : g.fits = true)
    (h : f.apart g = true) : (d.put f ix v).fld g jx = d.fld g jx := by
  by_cases hr : g.reg = f.reg ∧ jx = ix
  · obtain ⟨hr, rfl⟩ := hr
    unfold Dev.fld
    rw [hr, Dev.put_toNat d f jx v hf]
    simp only [Fld.apart, Bool.or_eq_true, decide_eq_true_eq] at h
    simp only [Fld.fits, Bool.and_eq_true, decide_eq_true_eq] at hf hg
    rcases h with h | h
    · exact bitsOf_putBits_above (by unfold Fld.bits; omega)
    · exact bitsOf_putBits_below (by unfold Fld.bits; omega)
  · unfold Dev.fld
    rw [Dev.reg_put_other d v (not_and_or.mp hr)]

theorem Dev.fld_lt (d : Dev) (f : Fld) (ix : Nat) : d.fld f ix < 2 ^ f.bits := bitsOf_lt _ _ _

/-! ### Table words -/

@[simp] theorem Dev.tw_setTw_same (d : Dev) (t : TableId) (i ix w v : Nat) :
    (d.setTw t i ix w v).tw t i ix w = v % 2 ^ 64 := by
  unfold Dev.setTw Dev.tw; simp

theorem Dev.tw_setTw_other (d : Dev) {t u : TableId} {i j ix jx w x : Nat} (v : Nat)
    (h : (⟨u.num, j, 64 * jx + x⟩ : Key) ≠ ⟨t.num, i, 64 * ix + w⟩) : (d.setTw t i ix w v).tw u j jx x = d.tw u j jx x := by
  unfold Dev.setTw Dev.tw; exact Tbl.num_setNum_other _ _ h

end Sys2Proof.Machine
end

