-- ==== Sys2Proof/Laws/Events.lean ====
section
/-! SUPPORT. Everything the raising of an event can do (R431, R433): it touches the event and interrupt state alone. -/
namespace Sys2Proof.Machine

/-- The parts of the device no event touches. -/
def Dev.quiet (d : Dev) : Dev :=
  { d with regs := ⟨[]⟩, evt := ⟨⟨[]⟩, ⟨[]⟩, ⟨[]⟩⟩, msix := ⟨⟨[]⟩, []⟩, out := [] }

/-- `e` differs from `d` in the event and interrupt state, the listed registers and the outbox alone. -/
def Dev.EvtOnly (d e : Dev) : Prop := e.quiet = d.quiet ∧ ∀ r ix, r ∉ evtRegs → e.reg r ix = d.reg r ix

theorem Dev.quiet_tbls (d : Dev) : d.quiet.tbls = d.tbls := (rfl)
theorem Dev.quiet_acc (d : Dev) : d.quiet.acc = d.acc := (rfl)
theorem Dev.quiet_tim (d : Dev) : d.quiet.tim = d.tim := (rfl)
theorem Dev.quiet_net (d : Dev) : d.quiet.net = d.net := (rfl)
theorem Dev.quiet_bpm (d : Dev) : d.quiet.bpm = d.bpm := (rfl)
theorem Dev.quiet_fifos (d : Dev) : d.quiet.fifos = d.fifos := (rfl)
theorem Dev.quiet_sch (d : Dev) : d.quiet.sch = d.sch := (rfl)
theorem Dev.quiet_host (d : Dev) : d.quiet.host = d.host := (rfl)
theorem Dev.quiet_pkts (d : Dev) : d.quiet.pkts = d.pkts := (rfl)
theorem Dev.quiet_nextPkt (d : Dev) : d.quiet.nextPkt = d.nextPkt := (rfl)
theorem Dev.quiet_pipes (d : Dev) : d.quiet.pipes = d.pipes := (rfl)
theorem Dev.quiet_cls (d : Dev) : d.quiet.cls = d.cls := (rfl)
theorem Dev.quiet_tel (d : Dev) : d.quiet.tel = d.tel := (rfl)
theorem Dev.quiet_flw (d : Dev) : d.quiet.flw = d.flw := (rfl)
theorem Dev.quiet_twn (d : Dev) : d.quiet.twn = d.twn := (rfl)
theorem Dev.quiet_eng (d : Dev) : d.quiet.eng = d.eng := (rfl)
theorem Dev.quiet_swp (d : Dev) : d.quiet.swp = d.swp := (rfl)
theorem Dev.quiet_nat (d : Dev) : d.quiet.nat = d.nat := (rfl)
theorem Dev.quiet_roll (d : Dev) : d.quiet.roll = d.roll := (rfl)
theorem Dev.quiet_fuse (d : Dev) : d.quiet.fuse = d.fuse := (rfl)
theorem Dev.quiet_boot (d : Dev) : d.quiet.boot = d.boot := (rfl)
theorem Dev.quiet_sec (d : Dev) : d.quiet.sec = d.sec := (rfl)
theorem Dev.quiet_rel (d : Dev) : d.quiet.rel = d.rel := (rfl)
theorem Dev.quiet_pwr (d : Dev) : d.quiet.pwr = d.pwr := (rfl)
theorem Dev.quiet_dist (d : Dev) : d.quiet.dist = d.dist := (rfl)
theorem Dev.quiet_draws (d : Dev) : d.quiet.draws = d.draws := (rfl)
theorem Dev.EvtOnly.tbls {d e : Dev} (h : d.EvtOnly e) : e.tbls = d.tbls :=
  (Dev.quiet_tbls e).symm.trans ((congrArg Dev.tbls h.1).trans (Dev.quiet_tbls d))
theorem Dev.EvtOnly.acc {d e : Dev} (h : d.EvtOnly e) : e.acc = d.acc :=
  (Dev.quiet_acc e).symm.trans ((congrArg Dev.acc h.1).trans (Dev.quiet_acc d))
theorem Dev.EvtOnly.tim {d e : Dev} (h : d.EvtOnly e) : e.tim = d.tim :=
  (Dev.quiet_tim e).symm.trans ((congrArg Dev.tim h.1).trans (Dev.quiet_tim d))
theorem Dev.EvtOnly.net {d e : Dev} (h : d.EvtOnly e) : e.net = d.net :=
  (Dev.quiet_net e).symm.trans ((congrArg Dev.net h.1).trans (Dev.quiet_net d))
theorem Dev.EvtOnly.bpm {d e : Dev} (h : d.EvtOnly e) : e.bpm = d.bpm :=
  (Dev.quiet_bpm e).symm.trans ((congrArg Dev.bpm h.1).trans (Dev.quiet_bpm d))
theorem Dev.EvtOnly.fifos {d e : Dev} (h : d.EvtOnly e) : e.fifos = d.fifos :=
  (Dev.quiet_fifos e).symm.trans ((congrArg Dev.fifos h.1).trans (Dev.quiet_fifos d))
theorem Dev.EvtOnly.sch {d e : Dev} (h : d.EvtOnly e) : e.sch = d.sch :=
  (Dev.quiet_sch e).symm.trans ((congrArg Dev.sch h.1).trans (Dev.quiet_sch d))
theorem Dev.EvtOnly.host {d e : Dev} (h : d.EvtOnly e) : e.host = d.host :=
  (Dev.quiet_host e).symm.trans ((congrArg Dev.host h.1).trans (Dev.quiet_host d))
theorem Dev.EvtOnly.pkts {d e : Dev} (h : d.EvtOnly e) : e.pkts = d.pkts :=
  (Dev.quiet_pkts e).symm.trans ((congrArg Dev.pkts h.1).trans (Dev.quiet_pkts d))
theorem Dev.EvtOnly.nextPkt {d e : Dev} (h : d.EvtOnly e) : e.nextPkt = d.nextPkt :=
  (Dev.quiet_nextPkt e).symm.trans ((congrArg Dev.nextPkt h.1).trans (Dev.quiet_nextPkt d))
theorem Dev.EvtOnly.pipes {d e : Dev} (h : d.EvtOnly e) : e.pipes = d.pipes :=
  (Dev.quiet_pipes e).symm.trans ((congrArg Dev.pipes h.1).trans (Dev.quiet_pipes d))
theorem Dev.EvtOnly.cls {d e : Dev} (h : d.EvtOnly e) : e.cls = d.cls :=
  (Dev.quiet_cls e).symm.trans ((congrArg Dev.cls h.1).trans (Dev.quiet_cls d))
theorem Dev.EvtOnly.tel {d e : Dev} (h : d.EvtOnly e) : e.tel = d.tel :=
  (Dev.quiet_tel e).symm.trans ((congrArg Dev.tel h.1).trans (Dev.quiet_tel d))
theorem Dev.EvtOnly.flw {d e : Dev} (h : d.EvtOnly e) : e.flw = d.flw :=
  (Dev.quiet_flw e).symm.trans ((congrArg Dev.flw h.1).trans (Dev.quiet_flw d))
theorem Dev.EvtOnly.twn {d e : Dev} (h : d.EvtOnly e) : e.twn = d.twn :=
  (Dev.quiet_twn e).symm.trans ((congrArg Dev.twn h.1).trans (Dev.quiet_twn d))
theorem Dev.EvtOnly.eng {d e : Dev} (h : d.EvtOnly e) : e.eng = d.eng :=
  (Dev.quiet_eng e).symm.trans ((congrArg Dev.eng h.1).trans (Dev.quiet_eng d))
theorem Dev.EvtOnly.swp {d e : Dev} (h : d.EvtOnly e) : e.swp = d.swp :=
  (Dev.quiet_swp e).symm.trans ((congrArg Dev.swp h.1).trans (Dev.quiet_swp d))
theorem Dev.EvtOnly.nat {d e : Dev} (h : d.EvtOnly e) : e.nat = d.nat :=
  (Dev.quiet_nat e).symm.trans ((congrArg Dev.nat h.1).trans (Dev.quiet_nat d))
theorem Dev.EvtOnly.roll {d e : Dev} (h : d.EvtOnly e) : e.roll = d.roll :=
  (Dev.quiet_roll e).symm.trans ((congrArg Dev.roll h.1).trans (Dev.quiet_roll d))
theorem Dev.EvtOnly.fuse {d e : Dev} (h : d.EvtOnly e) : e.fuse = d.fuse :=
  (Dev.quiet_fuse e).symm.trans ((congrArg Dev.fuse h.1).trans (Dev.quiet_fuse d))
theorem Dev.EvtOnly.boot {d e : Dev} (h : d.EvtOnly e) : e.boot = d.boot :=
  (Dev.quiet_boot e).symm.trans ((congrArg Dev.boot h.1).trans (Dev.quiet_boot d))
theorem Dev.EvtOnly.sec {d e : Dev} (h : d.EvtOnly e) : e.sec = d.sec :=
  (Dev.quiet_sec e).symm.trans ((congrArg Dev.sec h.1).trans (Dev.quiet_sec d))
theorem Dev.EvtOnly.rel {d e : Dev} (h : d.EvtOnly e) : e.rel = d.rel :=
  (Dev.quiet_rel e).symm.trans ((congrArg Dev.rel h.1).trans (Dev.quiet_rel d))
theorem Dev.EvtOnly.pwr {d e : Dev} (h : d.EvtOnly e) : e.pwr = d.pwr :=
  (Dev.quiet_pwr e).symm.trans ((congrArg Dev.pwr h.1).trans (Dev.quiet_pwr d))
theorem Dev.EvtOnly.dist {d e : Dev} (h : d.EvtOnly e) : e.dist = d.dist :=
  (Dev.quiet_dist e).symm.trans ((congrArg Dev.dist h.1).trans (Dev.quiet_dist d))
theorem Dev.EvtOnly.draws {d e : Dev} (h : d.EvtOnly e) : e.draws = d.draws :=
  (Dev.quiet_draws e).symm.trans ((congrArg Dev.draws h.1).trans (Dev.quiet_draws d))

theorem Dev.EvtOnly.refl (d : Dev) : d.EvtOnly d := ⟨rfl, fun _ _ _ => rfl⟩

theorem Dev.EvtOnly.trans {d e f : Dev} (h : d.EvtOnly e) (g : e.EvtOnly f) : d.EvtOnly f :=
  ⟨g.1.trans h.1, fun r ix hr => (g.2 r ix hr).trans (h.2 r ix hr)⟩

theorem Dev.EvtOnly.put {d e : Dev} (h : d.EvtOnly e) (f : Fld) (ix v : Nat) (hf : f.reg ∈ evtRegs) :
    d.EvtOnly (e.put f ix v) := by
  refine h.trans ⟨rfl, fun r jx hr => ?_⟩
  exact Dev.reg_put_other e v (.inl (fun q => hr (q ▸ hf)))

theorem Dev.EvtOnly.emit {d e : Dev} (h : d.EvtOnly e) (o : Out) : d.EvtOnly (e.emit o) :=
  h.trans ⟨rfl, fun _ _ _ => rfl⟩

theorem Dev.EvtOnly.evt {d e : Dev} (h : d.EvtOnly e) (x : EvtSt) : d.EvtOnly { e with evt := x } :=
  h.trans ⟨rfl, fun _ _ _ => rfl⟩

theorem Dev.EvtOnly.msix {d e : Dev} (h : d.EvtOnly e) (x : MsixSt) : d.EvtOnly { e with msix := x } :=
  h.trans ⟨rfl, fun _ _ _ => rfl⟩

theorem Dev.EvtOnly.ring {d e : Dev} (h : d.EvtOnly e) (k : Nat) (r : EvtRing) : d.EvtOnly (e.setEvtRing k r) :=
  h.evt _

theorem Dev.EvtOnly.wrap {d e : Dev} (h : d.EvtOnly e) (f : Fld) (ix : Nat) (w : Fld) (i b : Nat)
    (hf : f.reg ∈ evtRegs) (hw : w.reg ∈ evtRegs) : d.EvtOnly (e.bumpWrap f ix w i b) := by
  unfold Dev.bumpWrap
  simp only []
  split
  · exact (h.put f ix _ hf).put w i _ hw
  · exact h.put f ix _ hf

theorem Dev.EvtOnly.fire {d e : Dev} (h : d.EvtOnly e) (v : Nat) : d.EvtOnly (e.fire v) := by
  unfold Dev.fire
  split
  · exact h.put _ _ _ (by decide)
  · exact h.emit _

theorem Dev.EvtOnly.signal {d e : Dev} (h : d.EvtOnly e) (c : Clock) (k n : Nat) : d.EvtOnly (e.signal c k n) := by
  unfold Dev.signal Dev.fireRing
  split
  · exact (h.fire _).msix _
  · split
    · exact h
    · exact h.msix _

theorem Dev.EvtOnly.record {d e : Dev} (h : d.EvtOnly e) (c : Clock) (k : Nat) (r : EventRec) :
    d.EvtOnly (e.evtRecord c k r).1 := by
  unfold Dev.evtRecord
  dsimp only
  split
  · exact h.wrap _ _ _ _ _ (by decide) (by decide)
  · split
    · exact ((h.wrap _ _ _ _ _ (by decide) (by decide)).put _ _ _ (by decide)).ring _ _
    · exact (((h.emit _).put _ _ _ (by decide)).ring _ _).signal _ _ _

theorem Dev.EvtOnly.pend {d e : Dev} (h : d.EvtOnly e) (code sev : Nat) : d.EvtOnly (e.pend code sev) :=
  (h.put _ _ _ (by decide)).evt _

theorem Dev.EvtOnly.raise {d e : Dev} (h : d.EvtOnly e) (c : Clock) (v : Ev) (kind inst : Nat)
    (data : List (Nat × Nat)) (sev : Option Nat) : d.EvtOnly (e.raise c v kind inst data sev) := by
  unfold Dev.raise
  simp only []
  split
  · exact h.pend _ _
  · split
    · exact (h.pend _ _).record _ _ _
    · split
      · exact ((h.pend _ _).record _ _ _).pend _ _
      · split
        · exact ((((h.pend _ _).record _ _ _).pend _ _).record _ _ _).pend _ _
        · exact (((h.pend _ _).record _ _ _).pend _ _).record _ _ _

theorem Dev.EvtOnly.raiseLim {d e : Dev} (h : d.EvtOnly e) (c : Clock) (v : Ev) (kind inst : Nat)
    (data : List (Nat × Nat)) (ms : Nat) (sev : Option Nat) (sub : Nat) :
    d.EvtOnly (e.raiseLim c v kind inst data ms sev sub) := by
  unfold Dev.raiseLim
  simp only []
  split
  · exact h
  · exact (h.evt _).raise _ _ _ _ _ _

/-- Everything an event can do. -/
theorem Dev.raise_only (d : Dev) (c : Clock) (v : Ev) (kind inst : Nat) (data : List (Nat × Nat)) (sev : Option Nat) :
    d.EvtOnly (d.raise c v kind inst data sev) := (EvtOnly.refl d).raise c v kind inst data sev

theorem Dev.raiseLim_only (d : Dev) (c : Clock) (v : Ev) (kind inst : Nat) (data : List (Nat × Nat)) (ms : Nat)
    (sev : Option Nat) (sub : Nat) : d.EvtOnly (d.raiseLim c v kind inst data ms sev sub) :=
  (EvtOnly.refl d).raiseLim c v kind inst data ms sev sub

/-- A register no event touches keeps its value. -/
theorem Dev.raise_reg (d : Dev) (c : Clock) (v : Ev) (kind inst : Nat) (data : List (Nat × Nat)) (sev : Option Nat)
    (r : Reg) (ix : Nat) (h : evtRegs.contains r = false) :
    (d.raise c v kind inst data sev).reg r ix = d.reg r ix :=
  (d.raise_only c v kind inst data sev).2 r ix (by simpa using h)

theorem Dev.raise_fld (d : Dev) (c : Clock) (v : Ev) (kind inst : Nat) (data : List (Nat × Nat)) (sev : Option Nat)
    (f : Fld) (ix : Nat) (h : evtRegs.contains f.reg = false) :
    (d.raise c v kind inst data sev).fld f ix = d.fld f ix := by
  unfold Dev.fld; rw [d.raise_reg c v kind inst data sev f.reg ix h]

theorem Dev.raiseLim_reg (d : Dev) (c : Clock) (v : Ev) (kind inst : Nat) (data : List (Nat × Nat)) (ms : Nat)
    (sev : Option Nat) (sub : Nat) (r : Reg) (ix : Nat) (h : evtRegs.contains r = false) :
    (d.raiseLim c v kind inst data ms sev sub).reg r ix = d.reg r ix :=
  (d.raiseLim_only c v kind inst data ms sev sub).2 r ix (by simpa using h)

theorem Dev.raiseLim_fld (d : Dev) (c : Clock) (v : Ev) (kind inst : Nat) (data : List (Nat × Nat)) (ms : Nat)
    (sev : Option Nat) (sub : Nat) (f : Fld) (ix : Nat) (h : evtRegs.contains f.reg = false) :
    (d.raiseLim c v kind inst data ms sev sub).fld f ix = d.fld f ix := by
  unfold Dev.fld; rw [d.raiseLim_reg c v kind inst data ms sev sub f.reg ix h]

@[simp] theorem Dev.raise_tbls (d : Dev) (c : Clock) (v : Ev) (k i : Nat) (data : List (Nat × Nat)) (sev : Option Nat) :
    (d.raise c v k i data sev).tbls = d.tbls :=
  (d.raise_only c v k i data sev).tbls
@[simp] theorem Dev.raise_acc (d : Dev) (c : Clock) (v : Ev) (k i : Nat) (data : List (Nat × Nat)) (sev : Option Nat) :
    (d.raise c v k i data sev).acc = d.acc :=
  (d.raise_only c v k i data sev).acc
@[simp] theorem Dev.raise_tim (d : Dev) (c : Clock) (v : Ev) (k i : Nat) (data : List (Nat × Nat)) (sev : Option Nat) :
    (d.raise c v k i data sev).tim = d.tim :=
  (d.raise_only c v k i data sev).tim
@[simp] theorem Dev.raise_net (d : Dev) (c : Clock) (v : Ev) (k i : Nat) (data : List (Nat × Nat)) (sev : Option Nat) :
    (d.raise c v k i data sev).net = d.net :=
  (d.raise_only c v k i data sev).net
@[simp] theorem Dev.raise_bpm (d : Dev) (c : Clock) (v : Ev) (k i : Nat) (data : List (Nat × Nat)) (sev : Option Nat) :
    (d.raise c v k i data sev).bpm = d.bpm :=
  (d.raise_only c v k i data sev).bpm
@[simp] theorem Dev.raise_fifos (d : Dev) (c : Clock) (v : Ev) (k i : Nat) (data : List (Nat × Nat)) (sev : Option Nat) :
    (d.raise c v k i data sev).fifos = d.fifos :=
  (d.raise_only c v k i data sev).fifos
@[simp] theorem Dev.raise_sch (d : Dev) (c : Clock) (v : Ev) (k i : Nat) (data : List (Nat × Nat)) (sev : Option Nat) :
    (d.raise c v k i data sev).sch = d.sch :=
  (d.raise_only c v k i data sev).sch
@[simp] theorem Dev.raise_host (d : Dev) (c : Clock) (v : Ev) (k i : Nat) (data : List (Nat × Nat)) (sev : Option Nat) :
    (d.raise c v k i data sev).host = d.host :=
  (d.raise_only c v k i data sev).host
@[simp] theorem Dev.raise_pkts (d : Dev) (c : Clock) (v : Ev) (k i : Nat) (data : List (Nat × Nat)) (sev : Option Nat) :
    (d.raise c v k i data sev).pkts = d.pkts :=
  (d.raise_only c v k i data sev).pkts
@[simp] theorem Dev.raise_nextPkt (d : Dev) (c : Clock) (v : Ev) (k i : Nat) (data : List (Nat × Nat)) (sev : Option Nat) :
    (d.raise c v k i data sev).nextPkt = d.nextPkt :=
  (d.raise_only c v k i data sev).nextPkt
@[simp] theorem Dev.raise_pipes (d : Dev) (c : Clock) (v : Ev) (k i : Nat) (data : List (Nat × Nat)) (sev : Option Nat) :
    (d.raise c v k i data sev).pipes = d.pipes :=
  (d.raise_only c v k i data sev).pipes
@[simp] theorem Dev.raise_cls (d : Dev) (c : Clock) (v : Ev) (k i : Nat) (data : List (Nat × Nat)) (sev : Option Nat) :
    (d.raise c v k i data sev).cls = d.cls :=
  (d.raise_only c v k i data sev).cls
@[simp] theorem Dev.raise_tel (d : Dev) (c : Clock) (v : Ev) (k i : Nat) (data : List (Nat × Nat)) (sev : Option Nat) :
    (d.raise c v k i data sev).tel = d.tel :=
  (d.raise_only c v k i data sev).tel
@[simp] theorem Dev.raise_flw (d : Dev) (c : Clock) (v : Ev) (k i : Nat) (data : List (Nat × Nat)) (sev : Option Nat) :
    (d.raise c v k i data sev).flw = d.flw :=
  (d.raise_only c v k i data sev).flw
@[simp] theorem Dev.raise_twn (d : Dev) (c : Clock) (v : Ev) (k i : Nat) (data : List (Nat × Nat)) (sev : Option Nat) :
    (d.raise c v k i data sev).twn = d.twn :=
  (d.raise_only c v k i data sev).twn
@[simp] theorem Dev.raise_eng (d : Dev) (c : Clock) (v : Ev) (k i : Nat) (data : List (Nat × Nat)) (sev : Option Nat) :
    (d.raise c v k i data sev).eng = d.eng :=
  (d.raise_only c v k i data sev).eng
@[simp] theorem Dev.raise_swp (d : Dev) (c : Clock) (v : Ev) (k i : Nat) (data : List (Nat × Nat)) (sev : Option Nat) :
    (d.raise c v k i data sev).swp = d.swp :=
  (d.raise_only c v k i data sev).swp
@[simp] theorem Dev.raise_nat (d : Dev) (c : Clock) (v : Ev) (k i : Nat) (data : List (Nat × Nat)) (sev : Option Nat) :
    (d.raise c v k i data sev).nat = d.nat :=
  (d.raise_only c v k i data sev).nat
@[simp] theorem Dev.raise_roll (d : Dev) (c : Clock) (v : Ev) (k i : Nat) (data : List (Nat × Nat)) (sev : Option Nat) :
    (d.raise c v k i data sev).roll = d.roll :=
  (d.raise_only c v k i data sev).roll
@[simp] theorem Dev.raise_fuse (d : Dev) (c : Clock) (v : Ev) (k i : Nat) (data : List (Nat × Nat)) (sev : Option Nat) :
    (d.raise c v k i data sev).fuse = d.fuse :=
  (d.raise_only c v k i data sev).fuse
@[simp] theorem Dev.raise_boot (d : Dev) (c : Clock) (v : Ev) (k i : Nat) (data : List (Nat × Nat)) (sev : Option Nat) :
    (d.raise c v k i data sev).boot = d.boot :=
  (d.raise_only c v k i data sev).boot
@[simp] theorem Dev.raise_sec (d : Dev) (c : Clock) (v : Ev) (k i : Nat) (data : List (Nat × Nat)) (sev : Option Nat) :
    (d.raise c v k i data sev).sec = d.sec :=
  (d.raise_only c v k i data sev).sec
@[simp] theorem Dev.raise_rel (d : Dev) (c : Clock) (v : Ev) (k i : Nat) (data : List (Nat × Nat)) (sev : Option Nat) :
    (d.raise c v k i data sev).rel = d.rel :=
  (d.raise_only c v k i data sev).rel
@[simp] theorem Dev.raise_pwr (d : Dev) (c : Clock) (v : Ev) (k i : Nat) (data : List (Nat × Nat)) (sev : Option Nat) :
    (d.raise c v k i data sev).pwr = d.pwr :=
  (d.raise_only c v k i data sev).pwr
@[simp] theorem Dev.raise_dist (d : Dev) (c : Clock) (v : Ev) (k i : Nat) (data : List (Nat × Nat)) (sev : Option Nat) :
    (d.raise c v k i data sev).dist = d.dist :=
  (d.raise_only c v k i data sev).dist
@[simp] theorem Dev.raise_draws (d : Dev) (c : Clock) (v : Ev) (k i : Nat) (data : List (Nat × Nat)) (sev : Option Nat) :
    (d.raise c v k i data sev).draws = d.draws :=
  (d.raise_only c v k i data sev).draws
@[simp] theorem Dev.raise_tw (d : Dev) (c : Clock) (v : Ev) (k i : Nat) (data : List (Nat × Nat)) (sev : Option Nat) (t : TableId) (a b w : Nat) :
    (d.raise c v k i data sev).tw t a b w = d.tw t a b w := by
  unfold Dev.tw; simp
@[simp] theorem Dev.raiseLim_tbls (d : Dev) (c : Clock) (v : Ev) (k i : Nat) (data : List (Nat × Nat)) (ms : Nat)
    (sev : Option Nat) (sub : Nat) :
    (d.raiseLim c v k i data ms sev sub).tbls = d.tbls :=
  (d.raiseLim_only c v k i data ms sev sub).tbls
@[simp] theorem Dev.raiseLim_acc (d : Dev) (c : Clock) (v : Ev) (k i : Nat) (data : List (Nat × Nat)) (ms : Nat)
    (sev : Option Nat) (sub : Nat) :
    (d.raiseLim c v k i data ms sev sub).acc = d.acc :=
  (d.raiseLim_only c v k i data ms sev sub).acc
@[simp] theorem Dev.raiseLim_tim (d : Dev) (c : Clock) (v : Ev) (k i : Nat) (data : List (Nat × Nat)) (ms : Nat)
    (sev : Option Nat) (sub : Nat) :
    (d.raiseLim c v k i data ms sev sub).tim = d.tim :=
  (d.raiseLim_only c v k i data ms sev sub).tim
@[simp] theorem Dev.raiseLim_net (d : Dev) (c : Clock) (v : Ev) (k i : Nat) (data : List (Nat × Nat)) (ms : Nat)
    (sev : Option Nat) (sub : Nat) :
    (d.raiseLim c v k i data ms sev sub).net = d.net :=
  (d.raiseLim_only c v k i data ms sev sub).net
@[simp] theorem Dev.raiseLim_bpm (d : Dev) (c : Clock) (v : Ev) (k i : Nat) (data : List (Nat × Nat)) (ms : Nat)
    (sev : Option Nat) (sub : Nat) :
    (d.raiseLim c v k i data ms sev sub).bpm = d.bpm :=
  (d.raiseLim_only c v k i data ms sev sub).bpm
@[simp] theorem Dev.raiseLim_fifos (d : Dev) (c : Clock) (v : Ev) (k i : Nat) (data : List (Nat × Nat)) (ms : Nat)
    (sev : Option Nat) (sub : Nat) :
    (d.raiseLim c v k i data ms sev sub).fifos = d.fifos :=
  (d.raiseLim_only c v k i data ms sev sub).fifos
@[simp] theorem Dev.raiseLim_sch (d : Dev) (c : Clock) (v : Ev) (k i : Nat) (data : List (Nat × Nat)) (ms : Nat)
    (sev : Option Nat) (sub : Nat) :
    (d.raiseLim c v k i data ms sev sub).sch = d.sch :=
  (d.raiseLim_only c v k i data ms sev sub).sch
@[simp] theorem Dev.raiseLim_host (d : Dev) (c : Clock) (v : Ev) (k i : Nat) (data : List (Nat × Nat)) (ms : Nat)
    (sev : Option Nat) (sub : Nat) :
    (d.raiseLim c v k i data ms sev sub).host = d.host :=
  (d.raiseLim_only c v k i data ms sev sub).host
@[simp] theorem Dev.raiseLim_pkts (d : Dev) (c : Clock) (v : Ev) (k i : Nat) (data : List (Nat × Nat)) (ms : Nat)
    (sev : Option Nat) (sub : Nat) :
    (d.raiseLim c v k i data ms sev sub).pkts = d.pkts :=
  (d.raiseLim_only c v k i data ms sev sub).pkts
@[simp] theorem Dev.raiseLim_nextPkt (d : Dev) (c : Clock) (v : Ev) (k i : Nat) (data : List (Nat × Nat)) (ms : Nat)
    (sev : Option Nat) (sub : Nat) :
    (d.raiseLim c v k i data ms sev sub).nextPkt = d.nextPkt :=
  (d.raiseLim_only c v k i data ms sev sub).nextPkt
@[simp] theorem Dev.raiseLim_pipes (d : Dev) (c : Clock) (v : Ev) (k i : Nat) (data : List (Nat × Nat)) (ms : Nat)
    (sev : Option Nat) (sub : Nat) :
    (d.raiseLim c v k i data ms sev sub).pipes = d.pipes :=
  (d.raiseLim_only c v k i data ms sev sub).pipes
@[simp] theorem Dev.raiseLim_cls (d : Dev) (c : Clock) (v : Ev) (k i : Nat) (data : List (Nat × Nat)) (ms : Nat)
    (sev : Option Nat) (sub : Nat) :
    (d.raiseLim c v k i data ms sev sub).cls = d.cls :=
  (d.raiseLim_only c v k i data ms sev sub).cls
@[simp] theorem Dev.raiseLim_tel (d : Dev) (c : Clock) (v : Ev) (k i : Nat) (data : List (Nat × Nat)) (ms : Nat)
    (sev : Option Nat) (sub : Nat) :
    (d.raiseLim c v k i data ms sev sub).tel = d.tel :=
  (d.raiseLim_only c v k i data ms sev sub).tel
@[simp] theorem Dev.raiseLim_flw (d : Dev) (c : Clock) (v : Ev) (k i : Nat) (data : List (Nat × Nat)) (ms : Nat)
    (sev : Option Nat) (sub : Nat) :
    (d.raiseLim c v k i data ms sev sub).flw = d.flw :=
  (d.raiseLim_only c v k i data ms sev sub).flw
@[simp] theorem Dev.raiseLim_twn (d : Dev) (c : Clock) (v : Ev) (k i : Nat) (data : List (Nat × Nat)) (ms : Nat)
    (sev : Option Nat) (sub : Nat) :
    (d.raiseLim c v k i data ms sev sub).twn = d.twn :=
  (d.raiseLim_only c v k i data ms sev sub).twn
@[simp] theorem Dev.raiseLim_eng (d : Dev) (c : Clock) (v : Ev) (k i : Nat) (data : List (Nat × Nat)) (ms : Nat)
    (sev : Option Nat) (sub : Nat) :
    (d.raiseLim c v k i data ms sev sub).eng = d.eng :=
  (d.raiseLim_only c v k i data ms sev sub).eng
@[simp] theorem Dev.raiseLim_swp (d : Dev) (c : Clock) (v : Ev) (k i : Nat) (data : List (Nat × Nat)) (ms : Nat)
    (sev : Option Nat) (sub : Nat) :
    (d.raiseLim c v k i data ms sev sub).swp = d.swp :=
  (d.raiseLim_only c v k i data ms sev sub).swp
@[simp] theorem Dev.raiseLim_nat (d : Dev) (c : Clock) (v : Ev) (k i : Nat) (data : List (Nat × Nat)) (ms : Nat)
    (sev : Option Nat) (sub : Nat) :
    (d.raiseLim c v k i data ms sev sub).nat = d.nat :=
  (d.raiseLim_only c v k i data ms sev sub).nat
@[simp] theorem Dev.raiseLim_roll (d : Dev) (c : Clock) (v : Ev) (k i : Nat) (data : List (Nat × Nat)) (ms : Nat)
    (sev : Option Nat) (sub : Nat) :
    (d.raiseLim c v k i data ms sev sub).roll = d.roll :=
  (d.raiseLim_only c v k i data ms sev sub).roll
@[simp] theorem Dev.raiseLim_fuse (d : Dev) (c : Clock) (v : Ev) (k i : Nat) (data : List (Nat × Nat)) (ms : Nat)
    (sev : Option Nat) (sub : Nat) :
    (d.raiseLim c v k i data ms sev sub).fuse = d.fuse :=
  (d.raiseLim_only c v k i data ms sev sub).fuse
@[simp] theorem Dev.raiseLim_boot (d : Dev) (c : Clock) (v : Ev) (k i : Nat) (data : List (Nat × Nat)) (ms : Nat)
    (sev : Option Nat) (sub : Nat) :
    (d.raiseLim c v k i data ms sev sub).boot = d.boot :=
  (d.raiseLim_only c v k i data ms sev sub).boot
@[simp] theorem Dev.raiseLim_sec (d : Dev) (c : Clock) (v : Ev) (k i : Nat) (data : List (Nat × Nat)) (ms : Nat)
    (sev : Option Nat) (sub : Nat) :
    (d.raiseLim c v k i data ms sev sub).sec = d.sec :=
  (d.raiseLim_only c v k i data ms sev sub).sec
@[simp] theorem Dev.raiseLim_rel (d : Dev) (c : Clock) (v : Ev) (k i : Nat) (data : List (Nat × Nat)) (ms : Nat)
    (sev : Option Nat) (sub : Nat) :
    (d.raiseLim c v k i data ms sev sub).rel = d.rel :=
  (d.raiseLim_only c v k i data ms sev sub).rel
@[simp] theorem Dev.raiseLim_pwr (d : Dev) (c : Clock) (v : Ev) (k i : Nat) (data : List (Nat × Nat)) (ms : Nat)
    (sev : Option Nat) (sub : Nat) :
    (d.raiseLim c v k i data ms sev sub).pwr = d.pwr :=
  (d.raiseLim_only c v k i data ms sev sub).pwr
@[simp] theorem Dev.raiseLim_dist (d : Dev) (c : Clock) (v : Ev) (k i : Nat) (data : List (Nat × Nat)) (ms : Nat)
    (sev : Option Nat) (sub : Nat) :
    (d.raiseLim c v k i data ms sev sub).dist = d.dist :=
  (d.raiseLim_only c v k i data ms sev sub).dist
@[simp] theorem Dev.raiseLim_draws (d : Dev) (c : Clock) (v : Ev) (k i : Nat) (data : List (Nat × Nat)) (ms : Nat)
    (sev : Option Nat) (sub : Nat) :
    (d.raiseLim c v k i data ms sev sub).draws = d.draws :=
  (d.raiseLim_only c v k i data ms sev sub).draws
@[simp] theorem Dev.raiseLim_tw (d : Dev) (c : Clock) (v : Ev) (k i : Nat) (data : List (Nat × Nat)) (ms : Nat)
    (sev : Option Nat) (sub : Nat) (t : TableId) (a b w : Nat) :
    (d.raiseLim c v k i data ms sev sub).tw t a b w = d.tw t a b w := by
  unfold Dev.tw; simp


end Sys2Proof.Machine
end

