-- ==== Sys2Proof/Laws/Exec.lean ====
section
/-! SUPPORT. What exec runs for each command, and the four forms of an effect. -/
namespace Sys2Proof.Machine

@[simp] theorem onState_next (f : State → State) (s : State) : onState f s = .next (f s) := rfl

@[simp] theorem onDev_next (f : Clock → Dev → Dev) (s : State) :
    onDev f s = .next { s with dev := f s.clk s.dev } := rfl

@[simp] theorem onFwd_next (f : Clock → Dev → Dev) (s : State) (h : s.dev.forwards = true) :
    onFwd f s = .next { s with dev := f s.clk s.dev } := by
  simp [onFwd, h]

theorem onFwd_stopped (f : Clock → Dev → Dev) (s : State) (h : s.dev.forwards = false) : onFwd f s = .next s := by
  simp [onFwd, h]

@[simp] theorem onLink_next (f : Clock → Dev → Dev) (s : State) (h : s.dev.forwards = true) :
    onLink f s = .next { s with dev := (f s.clk s.dev).emberReroute s.dev s.clk } := by
  simp [onLink, h]

@[simp] theorem onCores_next (f : Clock → Dev → Dev) (s : State) (h : s.dev.forwards = true)
    (g : s.dev.coresUp = true) : onCores f s = .next { s with dev := f s.clk s.dev } := by
  simp [onCores, h, g]

/-! ### exec, command by command -/

@[simp] theorem exec_pwrgdRise (boardPos : Fin 4) (bootSrc : Bool) (s : State) : exec (.pwrgdRise boardPos bootSrc) s = execPwrgdRise boardPos bootSrc s := (rfl)
@[simp] theorem exec_sysRstRelease (boardPos : Fin 4) (bootSrc : Bool) (s : State) : exec (.sysRstRelease boardPos bootSrc) s = execSysRstRelease boardPos bootSrc s := (rfl)
@[simp] theorem exec_pwrgdFall (s : State) : exec (.pwrgdFall) s = execPwrgdFall s := (rfl)
@[simp] theorem exec_warmReset (damaged : Bool) (s : State) : exec (.warmReset damaged) s = execWarmReset damaged s := (rfl)
@[simp] theorem exec_pcieReset (flr : Bool) (s : State) : exec (.pcieReset flr) s = execPcieReset flr s := (rfl)
@[simp] theorem exec_pcieLinkDown (s : State) : exec (.pcieLinkDown) s = execPcieLinkDown s := (rfl)
@[simp] theorem exec_fuseCheckDone (sound : Bool) (badCfg : BitVec 8) (badDbg : BitVec 2) (s : State) : exec (.fuseCheckDone sound badCfg badDbg) s = execFuseCheckDone sound badCfg badDbg s := (rfl)
@[simp] theorem exec_sdtPublish (s : State) : exec (.sdtPublish) s = execSdtPublish s := (rfl)
@[simp] theorem exec_nvmReadDone (answered : Bool) (image : List Byte) (s : State) : exec (.nvmReadDone answered image) s = execNvmReadDone answered image s := (rfl)
@[simp] theorem exec_imageVerifyDone (s : State) : exec (.imageVerifyDone) s = execImageVerifyDone s := (rfl)
@[simp] theorem exec_imageApplyDone (s : State) : exec (.imageApplyDone) s = execImageApplyDone s := (rfl)
@[simp] theorem exec_relayTimeout (s : State) : exec (.relayTimeout) s = execRelayTimeout s := (rfl)
@[simp] theorem exec_bootLinkUp (g : Fin 64) (s : State) : exec (.bootLinkUp g) s = execBootLinkUp g s := (rfl)
@[simp] theorem exec_bootImageMessage (g : Fin 64) (kind : Fin 2) (offset : BitVec 25) (body : List Byte) (s : State) : exec (.bootImageMessage g kind offset body) s = execBootImageMessage g kind offset body s := (rfl)
@[simp] theorem exec_hbmTrainingDone (failed : List (Fin 2 × Fin 32)) (s : State) : exec (.hbmTrainingDone failed) s = execHbmTrainingDone failed s := (rfl)
@[simp] theorem exec_laneTrainingDone (lane : Fin 512) (trained : Bool) (s : State) : exec (.laneTrainingDone lane trained) s = execLaneTrainingDone lane trained s := (rfl)
@[simp] theorem exec_fwDownloadGo (extents : BitVec 11) (s : State) : exec (.fwDownloadGo extents) s = execFwDownloadGo extents s := (rfl)
@[simp] theorem exec_cfgDownloadGo (extents : BitVec 11) (s : State) : exec (.cfgDownloadGo extents) s = execCfgDownloadGo extents s := (rfl)
@[simp] theorem exec_fwFetchDone (relayed : Bool) (image : List Byte) (s : State) : exec (.fwFetchDone relayed image) s = execFwFetchDone relayed image s := (rfl)
@[simp] theorem exec_cfgFetchDone (image : List Byte) (s : State) : exec (.cfgFetchDone image) s = execCfgFetchDone image s := (rfl)
@[simp] theorem exec_fwWindowTimeout (s : State) : exec (.fwWindowTimeout) s = execFwWindowTimeout s := (rfl)
@[simp] theorem exec_generation0Live (s : State) : exec (.generation0Live) s = execGeneration0Live s := (rfl)
@[simp] theorem exec_formationTimer (s : State) : exec (.formationTimer) s = execFormationTimer s := (rfl)
@[simp] theorem exec_hostAbsent (s : State) : exec (.hostAbsent) s = execHostAbsent s := (rfl)
@[simp] theorem exec_hostAliveBeat (s : State) : exec (.hostAliveBeat) s = execHostAliveBeat s := (rfl)
@[simp] theorem exec_registerWrite (req : Fin 13) (addr : BitVec 27) (size : Fin 16) (value : Word) (s : State) : exec (.registerWrite req addr size value) s = execRegisterWrite req addr size value s := (rfl)
@[simp] theorem exec_halfReadCapture (req : Fin 13) (addr : BitVec 27) (s : State) : exec (.halfReadCapture req addr) s = execHalfReadCapture req addr s := (rfl)
@[simp] theorem exec_holdRequest (block : Fin 10) (ix : Fin 32) (s : State) : exec (.holdRequest block ix) s = execHoldRequest block ix s := (rfl)
@[simp] theorem exec_holdRelease (block : Fin 10) (ix : Fin 32) (s : State) : exec (.holdRelease block ix) s = execHoldRelease block ix s := (rfl)
@[simp] theorem exec_holdExpired (block : Fin 10) (ix : Fin 32) (s : State) : exec (.holdExpired block ix) s = execHoldExpired block ix s := (rfl)
@[simp] theorem exec_bar2Write (s : State) : exec (.bar2Write) s = execBar2Write s := (rfl)
@[simp] theorem exec_bootStatusRead (s : State) : exec (.bootStatusRead) s = execBootStatusRead s := (rfl)
@[simp] theorem exec_refLost (s : State) : exec (.refLost) s = execRefLost s := (rfl)
@[simp] theorem exec_refRestored (s : State) : exec (.refRestored) s = execRefRestored s := (rfl)
@[simp] theorem exec_frameReceive (port lane : Fin 512) (var : BitVec 24) (bytes : List Byte) (fcsOk : Bool) (s : State) : exec (.frameReceive port lane var bytes fcsOk) s = execFrameReceive port lane var bytes fcsOk s := (rfl)
@[simp] theorem exec_macControlFrame (port : Fin 512) (opcode : BitVec 16) (timers : List (Fin 8 × BitVec 16)) (s : State) : exec (.macControlFrame port opcode timers) s = execMacControlFrame port opcode timers s := (rfl)
@[simp] theorem exec_pauseTimerExpire (port : Fin 512) (prio : Fin 8) (s : State) : exec (.pauseTimerExpire port prio) s = execPauseTimerExpire port prio s := (rfl)
@[simp] theorem exec_pfcResend (port : Fin 512) (s : State) : exec (.pfcResend port) s = execPfcResend port s := (rfl)
@[simp] theorem exec_linkStateChange (port : Fin 512) (remoteFault aligned : Bool) (s : State) : exec (.linkStateChange port remoteFault aligned) s = execLinkStateChange port remoteFault aligned s := (rfl)
@[simp] theorem exec_laneRecal (lane : Fin 512) (s : State) : exec (.laneRecal lane) s = execLaneRecal lane s := (rfl)
@[simp] theorem exec_recalDone (lane : Fin 512) (err : BitVec 16) (temp : BitVec 8) (s : State) : exec (.recalDone lane err temp) s = execRecalDone lane err temp s := (rfl)
@[simp] theorem exec_laneFail (lane : Fin 512) (cause : Fin 4) (s : State) : exec (.laneFail lane cause) s = execLaneFail lane cause s := (rfl)
@[simp] theorem exec_fecWindowEnd (lane : Fin 512) (corrected uncorrected symbols : BitVec 32) (s : State) : exec (.fecWindowEnd lane corrected uncorrected symbols) s = execFecWindowEnd lane corrected uncorrected symbols s := (rfl)
@[simp] theorem exec_laneRetryTraining (lane : Fin 512) (trained : Bool) (s : State) : exec (.laneRetryTraining lane trained) s = execLaneRetryTraining lane trained s := (rfl)
@[simp] theorem exec_pealCellReceive (g : Fin 64) (lane : Fin 8) (cell : Cell) (good : Bool) (s : State) : exec (.pealCellReceive g lane cell good) s = execPealCellReceive g lane cell good s := (rfl)
@[simp] theorem exec_pealCellResend (g : Fin 64) (s : State) : exec (.pealCellResend g) s = execPealCellResend g s := (rfl)
@[simp] theorem exec_keyEpochChange (g : Fin 64) (s : State) : exec (.keyEpochChange g) s = execKeyEpochChange g s := (rfl)
@[simp] theorem exec_laneSetMessage (g : Fin 64) (mask spare : BitVec 8) (seq : BitVec 11) (s : State) : exec (.laneSetMessage g mask spare seq) s = execLaneSetMessage g mask spare seq s := (rfl)
@[simp] theorem exec_pauseStateMessage (g : Fin 64) (mask : BitVec 8) (s : State) : exec (.pauseStateMessage g mask) s = execPauseStateMessage g mask s := (rfl)
@[simp] theorem exec_keyEpochMessage (g : Fin 64) (epoch : Fin 2) (seq : BitVec 11) (s : State) : exec (.keyEpochMessage g epoch seq) s = execKeyEpochMessage g epoch seq s := (rfl)
@[simp] theorem exec_kx1 (g : Fin 64) (peerSerial : BitVec 64) (m : List Byte) (s : State) : exec (.kx1 g peerSerial m) s = execKx1 g peerSerial m s := (rfl)
@[simp] theorem exec_kx2 (g : Fin 64) (m : List Byte) (s : State) : exec (.kx2 g m) s = execKx2 g m s := (rfl)
@[simp] theorem exec_kx3 (g : Fin 64) (m : List Byte) (s : State) : exec (.kx3 g m) s = execKx3 g m s := (rfl)
@[simp] theorem exec_keyingRetry (g : Fin 64) (s : State) : exec (.keyingRetry g) s = execKeyingRetry g s := (rfl)
@[simp] theorem exec_packetMessage (g : Fin 64) (port : Fin 512) (tc : Fin 8) (ingress : Fin 512) (colour : Fin 4) (bytes : List Byte) (s : State) : exec (.packetMessage g port tc ingress colour bytes) s = execPacketMessage g port tc ingress colour bytes s := (rfl)
@[simp] theorem exec_intakeSlot (pipe : Fin 32) (held : Option (BitVec 32)) (s : State) : exec (.intakeSlot pipe held) s = execIntakeSlot pipe held s := (rfl)
@[simp] theorem exec_descriptorDeal (pipe : Fin 32) (s : State) : exec (.descriptorDeal pipe) s = execDescriptorDeal pipe s := (rfl)
@[simp] theorem exec_parseDone (pipe : Fin 32) (engine : Fin 12) (ecc : Fin 4) (s : State) : exec (.parseDone pipe engine ecc) s = execParseDone pipe engine ecc s := (rfl)
@[simp] theorem exec_reorderRelease (pipe : Fin 32) (s : State) : exec (.reorderRelease pipe) s = execReorderRelease pipe s := (rfl)
@[simp] theorem exec_parseEngineParity (pipe : Fin 32) (engine : Fin 12) (s : State) : exec (.parseEngineParity pipe engine) s = execParseEngineParity pipe engine s := (rfl)
@[simp] theorem exec_parseEngineRetire (pipe : Fin 32) (mask : BitVec 12) (s : State) : exec (.parseEngineRetire pipe mask) s = execParseEngineRetire pipe mask s := (rfl)
@[simp] theorem exec_parseEngineReturn (pipe : Fin 32) (mask : BitVec 12) (s : State) : exec (.parseEngineReturn pipe mask) s = execParseEngineReturn pipe mask s := (rfl)
@[simp] theorem exec_classify (pipe : Fin 32) (wrong lost again : List (Fin 16384)) (ue : Option (BitVec 32 × Bool)) (s : State) : exec (.classify pipe wrong lost again ue) s = execClassify pipe wrong lost again ue s := (rfl)
@[simp] theorem exec_tcamShadowCheck (pipe : Fin 32) (index : Fin 16384) (differs : Bool) (s : State) : exec (.tcamShadowCheck pipe index differs) s = execTcamShadowCheck pipe index differs s := (rfl)
@[simp] theorem exec_throttleChange (pipe : Fin 32) (s : State) : exec (.throttleChange pipe) s = execThrottleChange pipe s := (rfl)
@[simp] theorem exec_tblAdd (table : TableId) (index : BitVec 32) (s : State) : exec (.tblAdd table index) s = execTblAdd table index s := (rfl)
@[simp] theorem exec_tblDelete (table : TableId) (index : BitVec 32) (s : State) : exec (.tblDelete table index) s = execTblDelete table index s := (rfl)
@[simp] theorem exec_tblWriteAt (table : TableId) (index : BitVec 32) (s : State) : exec (.tblWriteAt table index) s = execTblWriteAt table index s := (rfl)
@[simp] theorem exec_tblMove (table : TableId) (index : BitVec 32) (s : State) : exec (.tblMove table index) s = execTblMove table index s := (rfl)
@[simp] theorem exec_tblRead (table : TableId) (index : BitVec 32) (s : State) : exec (.tblRead table index) s = execTblRead table index s := (rfl)
@[simp] theorem exec_tblLocate (table : TableId) (index : BitVec 32) (s : State) : exec (.tblLocate table index) s = execTblLocate table index s := (rfl)
@[simp] theorem exec_tcamHoleRestore (pipe : Fin 32) (s : State) : exec (.tcamHoleRestore pipe) s = execTcamHoleRestore pipe s := (rfl)
@[simp] theorem exec_genCommit (s : State) : exec (.genCommit) s = execGenCommit s := (rfl)
@[simp] theorem exec_genAbort (s : State) : exec (.genAbort) s = execGenAbort s := (rfl)
@[simp] theorem exec_stagePrepareDone (s : State) : exec (.stagePrepareDone) s = execStagePrepareDone s := (rfl)
@[simp] theorem exec_genDrained (s : State) : exec (.genDrained) s = execGenDrained s := (rfl)
@[simp] theorem exec_packetLifetime (pkt : Nat) (s : State) : exec (.packetLifetime pkt) s = execPacketLifetime pkt s := (rfl)
@[simp] theorem exec_egressReorderRelease (pkt : Nat) (copy : Nat) (s : State) : exec (.egressReorderRelease pkt copy) s = execEgressReorderRelease pkt copy s := (rfl)
@[simp] theorem exec_hearthRequest (pkt : Nat) (busy : Bool) (s : State) : exec (.hearthRequest pkt busy) s = execHearthRequest pkt busy s := (rfl)
@[simp] theorem exec_missFill (pkt : Nat) (hbm : Fin 4) (s : State) : exec (.missFill pkt hbm) s = execMissFill pkt hbm s := (rfl)
@[simp] theorem exec_fillWayRetry (pkt : Nat) (hbm : Fin 4) (s : State) : exec (.fillWayRetry pkt hbm) s = execFillWayRetry pkt hbm s := (rfl)
@[simp] theorem exec_bankQueueEnter (bank : Fin 256) (s : State) : exec (.bankQueueEnter bank) s = execBankQueueEnter bank s := (rfl)
@[simp] theorem exec_hbmWriteAck (die : Fin 2) (record : BitVec 28) (s : State) : exec (.hbmWriteAck die record) s = execHbmWriteAck die record s := (rfl)
@[simp] theorem exec_hostPendingTimeout (die : Fin 2) (s : State) : exec (.hostPendingTimeout die) s = execHostPendingTimeout die s := (rfl)
@[simp] theorem exec_flowInsert (die : Fin 2) (release : Bool) (body : List Byte) (s : State) : exec (.flowInsert die release body) s = execFlowInsert die release body s := (rfl)
@[simp] theorem exec_flowUpdate (die : Fin 2) (body : List Byte) (s : State) : exec (.flowUpdate die body) s = execFlowUpdate die body s := (rfl)
@[simp] theorem exec_flowDelete (die : Fin 2) (key : List Byte) (s : State) : exec (.flowDelete die key) s = execFlowDelete die key s := (rfl)
@[simp] theorem exec_flowRead (die : Fin 2) (result : BitVec 64) (key : List Byte) (s : State) : exec (.flowRead die result key) s = execFlowRead die result key s := (rfl)
@[simp] theorem exec_flowBadOp (die : Fin 2) (s : State) : exec (.flowBadOp die) s = execFlowBadOp die s := (rfl)
@[simp] theorem exec_hbmEvacStart (die : Fin 2) (channel : Fin 32) (s : State) : exec (.hbmEvacStart die channel) s = execHbmEvacStart die channel s := (rfl)
@[simp] theorem exec_evacDone (die : Fin 2) (s : State) : exec (.evacDone die) s = execEvacDone die s := (rfl)
@[simp] theorem exec_channelRetrainDone (die : Fin 2) (pass : Bool) (s : State) : exec (.channelRetrainDone die pass) s = execChannelRetrainDone die pass s := (rfl)
@[simp] theorem exec_bankRetire (die : Fin 2) (s : State) : exec (.bankRetire die) s = execBankRetire die s := (rfl)
@[simp] theorem exec_bankControlParity (bank : Fin 256) (s : State) : exec (.bankControlParity bank) s = execBankControlParity bank s := (rfl)
@[simp] theorem exec_bankCopyDone (bank : Fin 256) (s : State) : exec (.bankCopyDone bank) s = execBankCopyDone bank s := (rfl)
@[simp] theorem exec_sweeperVisit (die : Fin 2) (n : Fin 32) (corrected : Bool) (s : State) : exec (.sweeperVisit die n corrected) s = execSweeperVisit die n corrected s := (rfl)
@[simp] theorem exec_sweeperScanEnd (die : Fin 2) (bad : List (BitVec 28)) (s : State) : exec (.sweeperScanEnd die bad) s = execSweeperScanEnd die bad s := (rfl)
@[simp] theorem exec_visitSlow (die : Fin 2) (n : Fin 32) (s : State) : exec (.visitSlow die n) s = execVisitSlow die n s := (rfl)
@[simp] theorem exec_engineDispatch (pipe : Fin 32) (s : State) : exec (.engineDispatch pipe) s = execEngineDispatch pipe s := (rfl)
@[simp] theorem exec_next (inst : Fin 256) (engine : Fin 8) (s : State) : exec (.next inst engine) s = execNext inst engine s := (rfl)
@[simp] theorem exec_jump (inst : Fin 256) (engine : Fin 8) (s : State) : exec (.jump inst engine) s = execJump inst engine s := (rfl)
@[simp] theorem exec_brT (inst : Fin 256) (engine : Fin 8) (s : State) : exec (.brT inst engine) s = execBrT inst engine s := (rfl)
@[simp] theorem exec_brF (inst : Fin 256) (engine : Fin 8) (s : State) : exec (.brF inst engine) s = execBrF inst engine s := (rfl)
@[simp] theorem exec_commit (inst : Fin 256) (engine : Fin 8) (s : State) : exec (.commit inst engine) s = execCommit inst engine s := (rfl)
@[simp] theorem exec_abort (inst : Fin 256) (engine : Fin 8) (s : State) : exec (.abort inst engine) s = execAbort inst engine s := (rfl)
@[simp] theorem exec_illegalSeq (inst : Fin 256) (engine : Fin 8) (s : State) : exec (.illegalSeq inst engine) s = execIllegalSeq inst engine s := (rfl)
@[simp] theorem exec_nop (p : Issuer) (s : State) : exec (.nop p) s = execNop p s := (rfl)
@[simp] theorem exec_add (p : Issuer) (s : State) : exec (.add p) s = execAdd p s := (rfl)
@[simp] theorem exec_sub (p : Issuer) (s : State) : exec (.sub p) s = execSub p s := (rfl)
@[simp] theorem exec_and (p : Issuer) (s : State) : exec (.and p) s = execAnd p s := (rfl)
@[simp] theorem exec_or (p : Issuer) (s : State) : exec (.or p) s = execOr p s := (rfl)
@[simp] theorem exec_xor (p : Issuer) (s : State) : exec (.xor p) s = execXor p s := (rfl)
@[simp] theorem exec_shl (p : Issuer) (s : State) : exec (.shl p) s = execShl p s := (rfl)
@[simp] theorem exec_shr (p : Issuer) (s : State) : exec (.shr p) s = execShr p s := (rfl)
@[simp] theorem exec_sar (p : Issuer) (s : State) : exec (.sar p) s = execSar p s := (rfl)
@[simp] theorem exec_mov (p : Issuer) (s : State) : exec (.mov p) s = execMov p s := (rfl)
@[simp] theorem exec_cmp (p : Issuer) (s : State) : exec (.cmp p) s = execCmp p s := (rfl)
@[simp] theorem exec_min (p : Issuer) (s : State) : exec (.min p) s = execMin p s := (rfl)
@[simp] theorem exec_max (p : Issuer) (s : State) : exec (.max p) s = execMax p s := (rfl)
@[simp] theorem exec_csum (p : Issuer) (s : State) : exec (.csum p) s = execCsum p s := (rfl)
@[simp] theorem exec_bswap (p : Issuer) (s : State) : exec (.bswap p) s = execBswap p s := (rfl)
@[simp] theorem exec_tsdiff (p : Issuer) (s : State) : exec (.tsdiff p) s = execTsdiff p s := (rfl)
@[simp] theorem exec_ld (inst : Fin 256) (engine : Fin 8) (s : State) : exec (.ld inst engine) s = execLd inst engine s := (rfl)
@[simp] theorem exec_ldn (inst : Fin 256) (engine : Fin 8) (s : State) : exec (.ldn inst engine) s = execLdn inst engine s := (rfl)
@[simp] theorem exec_st (inst : Fin 256) (engine : Fin 8) (s : State) : exec (.st inst engine) s = execSt inst engine s := (rfl)
@[simp] theorem exec_editRw (inst : Fin 256) (engine : Fin 8) (s : State) : exec (.editRw inst engine) s = execEditRw inst engine s := (rfl)
@[simp] theorem exec_editOp (inst : Fin 256) (engine : Fin 8) (s : State) : exec (.editOp inst engine) s = execEditOp inst engine s := (rfl)
@[simp] theorem exec_cntAdd (inst : Fin 256) (engine : Fin 8) (s : State) : exec (.cntAdd inst engine) s = execCntAdd inst engine s := (rfl)
@[simp] theorem exec_unit (inst : Fin 256) (engine : Fin 8) (s : State) : exec (.unit inst engine) s = execUnit inst engine s := (rfl)
@[simp] theorem exec_ts (inst : Fin 256) (engine : Fin 8) (s : State) : exec (.ts inst engine) s = execTs inst engine s := (rfl)
@[simp] theorem exec_illegalMem (inst : Fin 256) (engine : Fin 8) (s : State) : exec (.illegalMem inst engine) s = execIllegalMem inst engine s := (rfl)
@[simp] theorem exec_unitResult (p : Issuer) (call : Fin 8) (s : State) : exec (.unitResult p call) s = execUnitResult p call s := (rfl)
@[simp] theorem exec_hash64 (p : Issuer) (s : State) : exec (.hash64 p) s = execHash64 p s := (rfl)
@[simp] theorem exec_pi (p : Issuer) (s : State) : exec (.pi p) s = execPi p s := (rfl)
@[simp] theorem exec_piInv (p : Issuer) (s : State) : exec (.piInv p) s = execPiInv p s := (rfl)
@[simp] theorem exec_snat (p : Issuer) (s : State) : exec (.snat p) s = execSnat p s := (rfl)
@[simp] theorem exec_xlate (p : Issuer) (s : State) : exec (.xlate p) s = execXlate p s := (rfl)
@[simp] theorem exec_subRead (p : Issuer) (s : State) : exec (.subRead p) s = execSubRead p s := (rfl)
@[simp] theorem exec_pick (p : Issuer) (s : State) : exec (.pick p) s = execPick p s := (rfl)
@[simp] theorem exec_backendRead (p : Issuer) (s : State) : exec (.backendRead p) s = execBackendRead p s := (rfl)
@[simp] theorem exec_meter (p : Issuer) (s : State) : exec (.meter p) s = execMeter p s := (rfl)
@[simp] theorem exec_bind (p : Issuer) (s : State) : exec (.bind p) s = execBind p s := (rfl)
@[simp] theorem exec_fragXlate (p : Issuer) (s : State) : exec (.fragXlate p) s = execFragXlate p s := (rfl)
@[simp] theorem exec_fragRead (p : Issuer) (s : State) : exec (.fragRead p) s = execFragRead p s := (rfl)
@[simp] theorem exec_hist (p : Issuer) (s : State) : exec (.hist p) s = execHist p s := (rfl)
@[simp] theorem exec_ioam (p : Issuer) (s : State) : exec (.ioam p) s = execIoam p s := (rfl)
@[simp] theorem exec_lookup (p : Issuer) (s : State) : exec (.lookup p) s = execLookup p s := (rfl)
@[simp] theorem exec_nhRead (p : Issuer) (s : State) : exec (.nhRead p) s = execNhRead p s := (rfl)
@[simp] theorem exec_resolve (p : Issuer) (s : State) : exec (.resolve p) s = execResolve p s := (rfl)
@[simp] theorem exec_unitReserved (p : Issuer) (s : State) : exec (.unitReserved p) s = execUnitReserved p s := (rfl)
@[simp] theorem exec_watchdog (inst : Fin 256) (engine : Fin 8) (s : State) : exec (.watchdog inst engine) s = execWatchdog inst engine s := (rfl)
@[simp] theorem exec_engineMchk (inst : Fin 256) (engine : Fin 8) (datapath : Bool) (s : State) : exec (.engineMchk inst engine datapath) s = execEngineMchk inst engine datapath s := (rfl)
@[simp] theorem exec_engineReturn (pipe : Fin 32) (mask : BitVec 48) (s : State) : exec (.engineReturn pipe mask) s = execEngineReturn pipe mask s := (rfl)
@[simp] theorem exec_clusterParity (inst : Fin 256) (s : State) : exec (.clusterParity inst) s = execClusterParity inst s := (rfl)
@[simp] theorem exec_clusterReloadDone (inst : Fin 256) (pass : Bool) (s : State) : exec (.clusterReloadDone inst pass) s = execClusterReloadDone inst pass s := (rfl)
@[simp] theorem exec_swpNext (die : Fin 2) (n : Fin 32) (s : State) : exec (.swpNext die n) s = execSwpNext die n s := (rfl)
@[simp] theorem exec_swpJump (die : Fin 2) (n : Fin 32) (s : State) : exec (.swpJump die n) s = execSwpJump die n s := (rfl)
@[simp] theorem exec_mway (die : Fin 2) (n : Fin 32) (s : State) : exec (.mway die n) s = execMway die n s := (rfl)
@[simp] theorem exec_swpBrT (die : Fin 2) (n : Fin 32) (s : State) : exec (.swpBrT die n) s = execSwpBrT die n s := (rfl)
@[simp] theorem exec_ckpt (die : Fin 2) (n : Fin 32) (s : State) : exec (.ckpt die n) s = execCkpt die n s := (rfl)
@[simp] theorem exec_endVisit (die : Fin 2) (n : Fin 32) (s : State) : exec (.endVisit die n) s = execEndVisit die n s := (rfl)
@[simp] theorem exec_swpIllegal (die : Fin 2) (n : Fin 32) (s : State) : exec (.swpIllegal die n) s = execSwpIllegal die n s := (rfl)
@[simp] theorem exec_swpLd (die : Fin 2) (n : Fin 32) (s : State) : exec (.swpLd die n) s = execSwpLd die n s := (rfl)
@[simp] theorem exec_swpSt (die : Fin 2) (n : Fin 32) (s : State) : exec (.swpSt die n) s = execSwpSt die n s := (rfl)
@[simp] theorem exec_push (die : Fin 2) (n : Fin 32) (s : State) : exec (.push die n) s = execPush die n s := (rfl)
@[simp] theorem exec_swpCntAdd (die : Fin 2) (n : Fin 32) (s : State) : exec (.swpCntAdd die n) s = execSwpCntAdd die n s := (rfl)
@[simp] theorem exec_swpUnit (die : Fin 2) (n : Fin 32) (s : State) : exec (.swpUnit die n) s = execSwpUnit die n s := (rfl)
@[simp] theorem exec_swpTs (die : Fin 2) (n : Fin 32) (s : State) : exec (.swpTs die n) s = execSwpTs die n s := (rfl)
@[simp] theorem exec_sweeperMchk (die : Fin 2) (n : Fin 32) (datapath : Bool) (s : State) : exec (.sweeperMchk die n datapath) s = execSweeperMchk die n datapath s := (rfl)
@[simp] theorem exec_sweeperReloadDone (die : Fin 2) (n : Fin 32) (pass : Bool) (s : State) : exec (.sweeperReloadDone die n pass) s = execSweeperReloadDone die n pass s := (rfl)
@[simp] theorem exec_sweeperPause (die : Fin 2) (mask : BitVec 32) (s : State) : exec (.sweeperPause die mask) s = execSweeperPause die mask s := (rfl)
@[simp] theorem exec_visitAbandon (die : Fin 2) (n : Fin 32) (s : State) : exec (.visitAbandon die n) s = execVisitAbandon die n s := (rfl)
@[simp] theorem exec_rolloutGo (s : State) : exec (.rolloutGo) s = execRolloutGo s := (rfl)
@[simp] theorem exec_rolloutStepDone (pass : Bool) (s : State) : exec (.rolloutStepDone pass) s = execRolloutStepDone pass s := (rfl)
@[simp] theorem exec_rolloutAbort (s : State) : exec (.rolloutAbort) s = execRolloutAbort s := (rfl)
@[simp] theorem exec_portQuarantineRelease (die : Fin 2) (s : State) : exec (.portQuarantineRelease die) s = execPortQuarantineRelease die s := (rfl)
@[simp] theorem exec_rebuildGo (service : Fin 16384) (s : State) : exec (.rebuildGo service) s = execRebuildGo service s := (rfl)
@[simp] theorem exec_rebuildDone (s : State) : exec (.rebuildDone) s = execRebuildDone s := (rfl)
@[simp] theorem exec_probeSend (backend : Fin 1048576) (s : State) : exec (.probeSend backend) s = execProbeSend backend s := (rfl)
@[simp] theorem exec_probeReply (backend : Fin 1048576) (s : State) : exec (.probeReply backend) s = execProbeReply backend s := (rfl)
@[simp] theorem exec_probeTimeout (backend : Fin 1048576) (s : State) : exec (.probeTimeout backend) s = execProbeTimeout backend s := (rfl)
@[simp] theorem exec_fragBindingExpire (die : Fin 2) (s : State) : exec (.fragBindingExpire die) s = execFragBindingExpire die s := (rfl)
@[simp] theorem exec_exportMessageAge (die : Fin 2) (s : State) : exec (.exportMessageAge die) s = execExportMessageAge die s := (rfl)
@[simp] theorem exec_templateSend (die : Fin 2) (s : State) : exec (.templateSend die) s = execTemplateSend die s := (rfl)
@[simp] theorem exec_portWindowEnd (port : Fin 512) (s : State) : exec (.portWindowEnd port) s = execPortWindowEnd port s := (rfl)
@[simp] theorem exec_prfSnap (s : State) : exec (.prfSnap) s = execPrfSnap s := (rfl)
@[simp] theorem exec_prfClear (s : State) : exec (.prfClear) s = execPrfClear s := (rfl)
@[simp] theorem exec_segmentRequest (die : Fin 2) (requester : Fin 256) (pool : Fin 3) (s : State) : exec (.segmentRequest die requester pool) s = execSegmentRequest die requester pool s := (rfl)
@[simp] theorem exec_segmentRetry (n : Nat) (s : State) : exec (.segmentRetry n) s = execSegmentRetry n s := (rfl)
@[simp] theorem exec_segmentFree (handle : BitVec 24) (requester : Fin 256) (s : State) : exec (.segmentFree handle requester) s = execSegmentFree handle requester s := (rfl)
@[simp] theorem exec_fifoWrite (fifo : Fin 1024) (slot : Fin 4) (data : Word) (endBit : Bool) (len : BitVec 16) (s : State) : exec (.fifoWrite fifo slot data endBit len) s = execFifoWrite fifo slot data endBit len s := (rfl)
@[simp] theorem exec_fifoRead (fifo : Fin 1024) (parity : Fin 3) (s : State) : exec (.fifoRead fifo parity) s = execFifoRead fifo parity s := (rfl)
@[simp] theorem exec_fifoIdleTimeout (fifo : Fin 1024) (s : State) : exec (.fifoIdleTimeout fifo) s = execFifoIdleTimeout fifo s := (rfl)
@[simp] theorem exec_fifoFlush (fifo : Fin 1024) (s : State) : exec (.fifoFlush fifo) s = execFifoFlush fifo s := (rfl)
@[simp] theorem exec_flushDone (fifo : Fin 1024) (s : State) : exec (.flushDone fifo) s = execFlushDone fifo s := (rfl)
@[simp] theorem exec_producerStall (fifo : Fin 1024) (s : State) : exec (.producerStall fifo) s = execProducerStall fifo s := (rfl)
@[simp] theorem exec_dequeue (port lane : Fin 512) (ahead : BitVec 24) (var : BitVec 24) (rd : BufRead) (s : State) : exec (.dequeue port lane ahead var rd) s = execDequeue port lane ahead var rd s := (rfl)
@[simp] theorem exec_egressCapture (port : Fin 512) (s : State) : exec (.egressCapture port) s = execEgressCapture port s := (rfl)
@[simp] theorem exec_gateGo (port : Fin 512) (s : State) : exec (.gateGo port) s = execGateGo port s := (rfl)
@[simp] theorem exec_gateAbort (port : Fin 512) (s : State) : exec (.gateAbort port) s = execGateAbort port s := (rfl)
@[simp] theorem exec_gateDisable (port : Fin 512) (s : State) : exec (.gateDisable port) s = execGateDisable port s := (rfl)
@[simp] theorem exec_gateBoundary (port : Fin 512) (s : State) : exec (.gateBoundary port) s = execGateBoundary port s := (rfl)
@[simp] theorem exec_gateTakeover (port : Fin 512) (s : State) : exec (.gateTakeover port) s = execGateTakeover port s := (rfl)
@[simp] theorem exec_stepGo (s : State) : exec (.stepGo) s = execStepGo s := (rfl)
@[simp] theorem exec_setGo (s : State) : exec (.setGo) s = execSetGo s := (rfl)
@[simp] theorem exec_slewGo (s : State) : exec (.slewGo) s = execSlewGo s := (rfl)
@[simp] theorem exec_slewAbort (s : State) : exec (.slewAbort) s = execSlewAbort s := (rfl)
@[simp] theorem exec_slewDone (s : State) : exec (.slewDone) s = execSlewDone s := (rfl)
@[simp] theorem exec_txqPop (s : State) : exec (.txqPop) s = execTxqPop s := (rfl)
@[simp] theorem exec_ppsInEdge (s : State) : exec (.ppsInEdge) s = execPpsInEdge s := (rfl)
@[simp] theorem exec_ppsInLost (s : State) : exec (.ppsInLost) s = execPpsInLost s := (rfl)
@[simp] theorem exec_sourceLost (s : State) : exec (.sourceLost) s = execSourceLost s := (rfl)
@[simp] theorem exec_timeRequest (s : State) : exec (.timeRequest) s = execTimeRequest s := (rfl)
@[simp] theorem exec_timeRequestReceive (g : Fin 64) (seq : BitVec 16) (s : State) : exec (.timeRequestReceive g seq) s = execTimeRequestReceive g seq s := (rfl)
@[simp] theorem exec_timeResponse (g : Fin 64) (seq : BitVec 16) (t2 t3 : Stamp) (s : State) : exec (.timeResponse g seq t2 t3) s = execTimeResponse g seq t2 t3 s := (rfl)
@[simp] theorem exec_pealTimeLost (s : State) : exec (.pealTimeLost) s = execPealTimeLost s := (rfl)
@[simp] theorem exec_ledgerRecord (info : LedgerInfo) (s : State) : exec (.ledgerRecord info) s = execLedgerRecord info s := (rfl)
@[simp] theorem exec_servoLocked (s : State) : exec (.servoLocked) s = execServoLocked s := (rfl)
@[simp] theorem exec_temperatureTermUpdate (s : State) : exec (.temperatureTermUpdate) s = execTemperatureTermUpdate s := (rfl)
@[simp] theorem exec_ppsOutRise (s : State) : exec (.ppsOutRise) s = execPpsOutRise s := (rfl)
@[simp] theorem exec_ppsOutFall (s : State) : exec (.ppsOutFall) s = execPpsOutFall s := (rfl)
@[simp] theorem exec_clk10mMeasure (m : Option (BitVec 24 × BitVec 24)) (s : State) : exec (.clk10mMeasure m) s = execClk10mMeasure m s := (rfl)
@[simp] theorem exec_tollSend (s : State) : exec (.tollSend) s = execTollSend s := (rfl)
@[simp] theorem exec_tollReceive (g : Fin 64) (pos : Fin 4) (seq : BitVec 32) (info : TollInfo) (s : State) : exec (.tollReceive g pos seq info) s = execTollReceive g pos seq info s := (rfl)
@[simp] theorem exec_tollIntervalEnd (s : State) : exec (.tollIntervalEnd) s = execTollIntervalEnd s := (rfl)
@[simp] theorem exec_emberInsert (g : Fin 64) (die : Fin 2) (seq : BitVec 32) (image : List Byte) (s : State) : exec (.emberInsert g die seq image) s = execEmberInsert g die seq image s := (rfl)
@[simp] theorem exec_emberUpdate (g : Fin 64) (die : Fin 2) (seq : BitVec 32) (body : List Byte) (s : State) : exec (.emberUpdate g die seq body) s = execEmberUpdate g die seq body s := (rfl)
@[simp] theorem exec_emberHostUpdate (g : Fin 64) (die : Fin 2) (seq : BitVec 32) (image : List Byte) (s : State) : exec (.emberHostUpdate g die seq image) s = execEmberHostUpdate g die seq image s := (rfl)
@[simp] theorem exec_emberDelete (g : Fin 64) (die : Fin 2) (seq : BitVec 32) (body : List Byte) (s : State) : exec (.emberDelete g die seq body) s = execEmberDelete g die seq body s := (rfl)
@[simp] theorem exec_emberCounter (g : Fin 64) (die : Fin 2) (seq : BitVec 32) (body : List Byte) (s : State) : exec (.emberCounter g die seq body) s = execEmberCounter g die seq body s := (rfl)
@[simp] theorem exec_emberTouch (g : Fin 64) (die : Fin 2) (seq : BitVec 32) (body : List Byte) (s : State) : exec (.emberTouch g die seq body) s = execEmberTouch g die seq body s := (rfl)
@[simp] theorem exec_emberAck (g : Fin 64) (die : Fin 2) (seq : BitVec 32) (s : State) : exec (.emberAck g die seq) s = execEmberAck g die seq s := (rfl)
@[simp] theorem exec_syncTimeout (die : Fin 2) (s : State) : exec (.syncTimeout die) s = execSyncTimeout die s := (rfl)
@[simp] theorem exec_counterWalk (die : Fin 2) (s : State) : exec (.counterWalk die) s = execCounterWalk die s := (rfl)
@[simp] theorem exec_emberUp (die : Fin 2) (key : Word × Word) (s : State) : exec (.emberUp die key) s = execEmberUp die key s := (rfl)
@[simp] theorem exec_backlogDrained (die : Fin 2) (s : State) : exec (.backlogDrained die) s = execBacklogDrained die s := (rfl)
@[simp] theorem exec_kindlingImage (g : Fin 64) (die : Fin 2) (mode : Fin 3) (count : Fin 81) (body : List Byte) (key : Word × Word) (s : State) : exec (.kindlingImage g die mode count body key) s = execKindlingImage g die mode count body key s := (rfl)
@[simp] theorem exec_kindleDone (s : State) : exec (.kindleDone) s = execKindleDone s := (rfl)
@[simp] theorem exec_kindleMerge (s : State) : exec (.kindleMerge) s = execKindleMerge s := (rfl)
@[simp] theorem exec_kindleHostDone (s : State) : exec (.kindleHostDone) s = execKindleHostDone s := (rfl)
@[simp] theorem exec_distWrite32 (g : Fin 64) (tag : BitVec 16) (offset : BitVec 32) (value : BitVec 32) (s : State) : exec (.distWrite32 g tag offset value) s = execDistWrite32 g tag offset value s := (rfl)
@[simp] theorem exec_distWrite64 (g : Fin 64) (tag : BitVec 16) (offset : BitVec 32) (value : Word) (s : State) : exec (.distWrite64 g tag offset value) s = execDistWrite64 g tag offset value s := (rfl)
@[simp] theorem exec_distWrite64At (g : Fin 64) (tag : BitVec 16) (offset : BitVec 32) (value : Word) (due : Stamp) (s : State) : exec (.distWrite64At g tag offset value due) s = execDistWrite64At g tag offset value due s := (rfl)
@[simp] theorem exec_distWriteAtExecute (s : State) : exec (.distWriteAtExecute) s = execDistWriteAtExecute s := (rfl)
@[simp] theorem exec_distDigestList (g : Fin 64) (tag : BitVec 16) (s : State) : exec (.distDigestList g tag) s = execDistDigestList g tag s := (rfl)
@[simp] theorem exec_distResult (g : Fin 64) (tag : BitVec 16) (refused : Bool) (s : State) : exec (.distResult g tag refused) s = execDistResult g tag refused s := (rfl)
@[simp] theorem exec_distSilent (pos : Fin 5) (s : State) : exec (.distSilent pos) s = execDistSilent pos s := (rfl)
@[simp] theorem exec_digestDiverge (pos : Fin 5) (theirs : List (Nat × Nat × Nat)) (s : State) : exec (.digestDiverge pos theirs) s = execDigestDiverge pos theirs s := (rfl)
@[simp] theorem exec_rxDoorbell (ring : Fin 2048) (tail : BitVec 16) (buffers : List (BitVec 64)) (s : State) : exec (.rxDoorbell ring tail buffers) s = execRxDoorbell ring tail buffers s := (rfl)
@[simp] theorem exec_txDoorbell (ring : Fin 2048) (tail : BitVec 16) (s : State) : exec (.txDoorbell ring tail) s = execTxDoorbell ring tail s := (rfl)
@[simp] theorem exec_txDirect (ring : Fin 2048) (desc : TxDesc) (s : State) : exec (.txDirect ring desc) s = execTxDirect ring desc s := (rfl)
@[simp] theorem exec_txInject (ring : Fin 2048) (desc : TxDesc) (s : State) : exec (.txInject ring desc) s = execTxInject ring desc s := (rfl)
@[simp] theorem exec_msixFire (kind : Fin 3) (n : Fin 2048) (s : State) : exec (.msixFire kind n) s = execMsixFire kind n s := (rfl)
@[simp] theorem exec_fetchError (kind : Fin 4) (n : Fin 2048) (frame : Bool) (s : State) : exec (.fetchError kind n frame) s = execFetchError kind n frame s := (rfl)
@[simp] theorem exec_modeMove (function : Fin 16) (host : Bool) (s : State) : exec (.modeMove function host) s = execModeMove function host s := (rfl)
@[simp] theorem exec_modeMoveDone (s : State) : exec (.modeMoveDone) s = execModeMoveDone s := (rfl)
@[simp] theorem exec_eventRingEnable (ring : Fin 8) (s : State) : exec (.eventRingEnable ring) s = execEventRingEnable ring s := (rfl)
@[simp] theorem exec_pcieLinkUp (s : State) : exec (.pcieLinkUp) s = execPcieLinkUp s := (rfl)
@[simp] theorem exec_d3hotTransition (on : Bool) (s : State) : exec (.d3hotTransition on) s = execD3hotTransition on s := (rfl)
@[simp] theorem exec_debugToken (req : Fin 13) (length : BitVec 13) (s : State) : exec (.debugToken req length) s = execDebugToken req length s := (rfl)
@[simp] theorem exec_storeClearDone (s : State) : exec (.storeClearDone) s = execStoreClearDone s := (rfl)
@[simp] theorem exec_fuseRequest (req : Fin 13) (length : BitVec 13) (s : State) : exec (.fuseRequest req length) s = execFuseRequest req length s := (rfl)
@[simp] theorem exec_fuseProgramDone (verified : Bool) (s : State) : exec (.fuseProgramDone verified) s = execFuseProgramDone verified s := (rfl)
@[simp] theorem exec_quote (req : Fin 13) (s : State) : exec (.quote req) s = execQuote req s := (rfl)
@[simp] theorem exec_newChallenge (req : Fin 13) (s : State) : exec (.newChallenge req) s = execNewChallenge req s := (rfl)
@[simp] theorem exec_epochCommit (req : Fin 13) (s : State) : exec (.epochCommit req) s = execEpochCommit req s := (rfl)
@[simp] theorem exec_challengeLapse (s : State) : exec (.challengeLapse) s = execChallengeLapse s := (rfl)
@[simp] theorem exec_ladderReady (s : State) : exec (.ladderReady) s = execLadderReady s := (rfl)
@[simp] theorem exec_bypass (s : State) : exec (.bypass) s = execBypass s := (rfl)
@[simp] theorem exec_idcode (s : State) : exec (.idcode) s = execIdcode s := (rfl)
@[simp] theorem exec_samplePreload (s : State) : exec (.samplePreload) s = execSamplePreload s := (rfl)
@[simp] theorem exec_extest (s : State) : exec (.extest) s = execExtest s := (rfl)
@[simp] theorem exec_clamp (s : State) : exec (.clamp) s = execClamp s := (rfl)
@[simp] theorem exec_highz (s : State) : exec (.highz) s = execHighz s := (rfl)
@[simp] theorem exec_extestPulse (s : State) : exec (.extestPulse) s = execExtestPulse s := (rfl)
@[simp] theorem exec_extestTrain (s : State) : exec (.extestTrain) s = execExtestTrain s := (rfl)
@[simp] theorem exec_secacc (write : Bool) (addr : BitVec 27) (size : Fin 16) (value : Word) (s : State) : exec (.secacc write addr size value) s = execSecacc write addr size value s := (rfl)
@[simp] theorem exec_regacc (write : Bool) (addr : BitVec 27) (size : Fin 16) (value : Word) (s : State) : exec (.regacc write addr size value) s = execRegacc write addr size value s := (rfl)
@[simp] theorem exec_scrubRead (at_ : ScrubAt) (result : Fin 4) (last : Bool) (s : State) : exec (.scrubRead at_ result last) s = execScrubRead at_ result last s := (rfl)
@[simp] theorem exec_ceWindowEnd (die : Fin 2) (channel : Fin 32) (s : State) : exec (.ceWindowEnd die channel) s = execCeWindowEnd die channel s := (rfl)
@[simp] theorem exec_channelLost (own : Bool) (die : Fin 2) (channel : Fin 32) (regions : BitVec 4) (records : List Nat) (s : State) : exec (.channelLost own die channel regions records) s = execChannelLost own die channel regions records s := (rfl)
@[simp] theorem exec_quarReleaseRequest (die : Fin 2) (record : BitVec 28) (s : State) : exec (.quarReleaseRequest die record) s = execQuarReleaseRequest die record s := (rfl)
@[simp] theorem exec_coreMachineCheck (core : Fin 8) (ue : Option (BitVec 32)) (s : State) : exec (.coreMachineCheck core ue) s = execCoreMachineCheck core ue s := (rfl)
@[simp] theorem exec_coreHeartbeatMiss (core : Fin 8) (s : State) : exec (.coreHeartbeatMiss core) s = execCoreHeartbeatMiss core s := (rfl)
@[simp] theorem exec_coreReturn (pass : Bool) (s : State) : exec (.coreReturn pass) s = execCoreReturn pass s := (rfl)
@[simp] theorem exec_swapGo (s : State) : exec (.swapGo) s = execSwapGo s := (rfl)
@[simp] theorem exec_swapVerifyDone (image : List Byte) (s : State) : exec (.swapVerifyDone image) s = execSwapVerifyDone image s := (rfl)
@[simp] theorem exec_swapRevert (s : State) : exec (.swapRevert) s = execSwapRevert s := (rfl)
@[simp] theorem exec_swapAutoRevert (s : State) : exec (.swapAutoRevert) s = execSwapAutoRevert s := (rfl)
@[simp] theorem exec_rolloutFetchDone (image : List Byte) (s : State) : exec (.rolloutFetchDone image) s = execRolloutFetchDone image s := (rfl)
@[simp] theorem exec_avsCommand (rail : Fin 3) (want : BitVec 12) (ack : Bool) (s : State) : exec (.avsCommand rail want ack) s = execAvsCommand rail want ack s := (rfl)
@[simp] theorem exec_marginFail (rail : Fin 3) (s : State) : exec (.marginFail rail) s = execMarginFail rail s := (rfl)
@[simp] theorem exec_sensorReading (sensor : Fin 36) (value : BitVec 12) (s : State) : exec (.sensorReading sensor value) s = execSensorReading sensor value s := (rfl)
@[simp] theorem exec_analogTrip (die : Fin 2) (s : State) : exec (.analogTrip die) s = execAnalogTrip die s := (rfl)
@[simp] theorem exec_pwrFault (s : State) : exec (.pwrFault) s = execPwrFault s := (rfl)
@[simp] theorem exec_coolantFault (s : State) : exec (.coolantFault) s = execCoolantFault s := (rfl)
@[simp] theorem exec_tripRampDone (s : State) : exec (.tripRampDone) s = execTripRampDone s := (rfl)
@[simp] theorem exec_damperRequest (rail : Fin 3) (step amps ballast : BitVec 32) (s : State) : exec (.damperRequest rail step amps ballast) s = execDamperRequest rail step amps ballast s := (rfl)
@[simp] theorem exec_damperGrant (rail : Fin 3) (amps ballast : BitVec 32) (s : State) : exec (.damperGrant rail amps ballast) s = execDamperGrant rail amps ballast s := (rfl)
@[simp] theorem exec_damperDefer (rail : Fin 3) (s : State) : exec (.damperDefer rail) s = execDamperDefer rail s := (rfl)
@[simp] theorem exec_sbStatus (s : State) : exec (.sbStatus) s = execSbStatus s := (rfl)
@[simp] theorem exec_sbRead (addr : BitVec 27) (s : State) : exec (.sbRead addr) s = execSbRead addr s := (rfl)
@[simp] theorem exec_sbWrite (addr : BitVec 27) (value : Word) (s : State) : exec (.sbWrite addr value) s = execSbWrite addr value s := (rfl)

end Sys2Proof.Machine
end

