-- ==== Sys2Proof/Laws/Pending.lean ====
section
/-! SUPPORT. The pending bit of a raised event (R431). -/
namespace Sys2Proof.Machine

/-! ### The pending bit of a raised event -/

theorem bitOf_putBit_same (v i : Nat) : bitOf (putBit v i true) i = true := by
  have := bitsOf_putBits_same v i 1 1
  unfold putBit bitOf
  simp only [bitsOf, pow_one] at this
  simp [this]

theorem bitOf_putBit_other (v : Nat) {i j : Nat} (b : Bool) (h : i ≠ j) : bitOf (putBit v i b) j = bitOf v j := by
  have key : bitsOf (putBit v i b) j 1 = bitsOf v j 1 := by
    unfold putBit
    rcases Nat.lt_or_gt_of_ne h with h | h
    · exact bitsOf_putBits_above (by omega)
    · exact bitsOf_putBits_below (by omega)
  unfold bitOf
  simp only [bitsOf, pow_one] at key
  rw [key]

theorem putBit_lt {v i w : Nat} (hv : v < 2 ^ w) (h : i < w) (b : Bool) : putBit v i b < 2 ^ w := by
  unfold putBit
  split <;> exact putBits_lt hv h

/-- The pending fields after a pend. -/
theorem Dev.pend_fld (d : Dev) (code sev j : Nat) :
    (d.pend code sev).fld F.EVT_PEND_pending j =
      (d.put F.EVT_PEND_pending (code / 32)
        (putBit (d.fld F.EVT_PEND_pending (code / 32)) (code % 32) true)).fld F.EVT_PEND_pending j := by
  unfold Dev.pend
  simp only [Dev.fld_mk, Dev.fldAt_regs]

theorem Dev.pend_fld_same (d : Dev) (code sev : Nat) :
    (d.pend code sev).fld F.EVT_PEND_pending (code / 32) =
      putBit (d.fld F.EVT_PEND_pending (code / 32)) (code % 32) true := by
  rw [Dev.pend_fld]
  exact Dev.fld_put_small _ _ _ _ (by decide) (putBit_lt (Dev.fld_lt d _ _) (Nat.mod_lt _ (by decide)) true)

/-- A pend sets its own bit. -/
theorem Dev.pend_sets (d : Dev) (code sev : Nat) : (d.pend code sev).evtPending code = true := by
  unfold Dev.evtPending
  rw [Dev.pend_fld_same, bitOf_putBit_same]

/-- A pend clears no other bit. -/
theorem Dev.pend_keeps (d : Dev) (code sev x : Nat) (hx : d.evtPending x = true) :
    (d.pend code sev).evtPending x = true := by
  by_cases e : x = code
  · subst e; exact d.pend_sets x sev
  unfold Dev.evtPending at *
  by_cases hj : x / 32 = code / 32
  · have hm : code % 32 ≠ x % 32 := by omega
    rw [hj] at hx ⊢
    rw [Dev.pend_fld_same, bitOf_putBit_other _ true hm]
    exact hx
  · rw [Dev.pend_fld, Dev.fld_put_copy _ _ hj]; exact hx

/-- A record written or lost leaves the pending bits alone. -/
theorem Dev.record_pending (d : Dev) (c : Clock) (k : Nat) (r : EventRec) (x : Nat) :
    (d.evtRecord c k r).1.evtPending x = d.evtPending x := by
  have key : ∀ j, (d.evtRecord c k r).1.fld F.EVT_PEND_pending j = d.fld F.EVT_PEND_pending j := by
    intro j
    have wrap : ∀ e : Dev, (e.bumpWrap F.EVT_RING_STATUS_lost k F.EVT_CNT_WRAP_wrap 0 k).fld F.EVT_PEND_pending j =
        e.fld F.EVT_PEND_pending j := by
      intro e
      unfold Dev.bumpWrap
      simp only []
      split
      · unfold Dev.bump; rw [Dev.fld_put_reg _ _ (by decide), Dev.fld_put_reg _ _ (by decide)]
      · unfold Dev.bump; rw [Dev.fld_put_reg _ _ (by decide)]
    have fire : ∀ (e : Dev) (v : Nat), (e.fire v).fld F.EVT_PEND_pending j = e.fld F.EVT_PEND_pending j := by
      intro e v
      unfold Dev.fire
      split
      · rw [Dev.fld_put_reg _ _ (by decide)]
      · rfl
    have sig : ∀ (e : Dev) (a b : Nat), (e.signal c a b).fld F.EVT_PEND_pending j = e.fld F.EVT_PEND_pending j := by
      intro e a b
      unfold Dev.signal Dev.fireRing
      split
      · simp only [Dev.fld_mk, Dev.fldAt_regs]; exact fire _ _
      · split <;> rfl
    unfold Dev.evtRecord
    split
    · exact wrap d
    · split
      · simp only [Dev.setEvtRing_fld]; rw [Dev.fld_put_reg _ _ (by decide)]; exact wrap d
      · simp only [sig, Dev.setEvtRing_fld]; rw [Dev.fld_put_reg _ _ (by decide)]; rfl
  unfold Dev.evtPending
  rw [key]

/-- A raised event is pending (R431). -/
theorem Dev.raise_pends (d : Dev) (c : Clock) (v : Ev) (kind inst : Nat) (data : List (Nat × Nat)) (sev : Option Nat) :
    (d.raise c v kind inst data sev).evtPending v.code = true := by
  unfold Dev.raise
  simp only []
  split
  · exact d.pend_sets _ _
  · split
    · rw [Dev.record_pending]; exact d.pend_sets _ _
    · split
      · exact Dev.pend_keeps _ _ _ _ (by rw [Dev.record_pending]; exact d.pend_sets _ _)
      · split
        · refine Dev.pend_keeps _ _ _ _ ?_
          rw [Dev.record_pending]
          exact Dev.pend_keeps _ _ _ _ (by rw [Dev.record_pending]; exact d.pend_sets _ _)
        · rw [Dev.record_pending]
          exact Dev.pend_keeps _ _ _ _ (by rw [Dev.record_pending]; exact d.pend_sets _ _)

/-- No event withdraws another. -/
theorem Dev.raise_keeps (d : Dev) (c : Clock) (v : Ev) (kind inst : Nat) (data : List (Nat × Nat)) (sev : Option Nat)
    (x : Nat) (hx : d.evtPending x = true) : (d.raise c v kind inst data sev).evtPending x = true := by
  unfold Dev.raise
  simp only []
  have h := d.pend_keeps v.code (sev.getD (d.evtSeverity v.code)) x hx
  split
  · exact h
  · split
    · rw [Dev.record_pending]; exact h
    · split
      · exact Dev.pend_keeps _ _ _ _ (by rw [Dev.record_pending]; exact h)
      · split
        · refine Dev.pend_keeps _ _ _ _ ?_
          rw [Dev.record_pending]
          exact Dev.pend_keeps _ _ _ _ (by rw [Dev.record_pending]; exact h)
        · rw [Dev.record_pending]
          exact Dev.pend_keeps _ _ _ _ (by rw [Dev.record_pending]; exact h)

/-! ### Pending bits as reads of the register file -/

/-- Whether a code's pending bit is set in a register file. -/
def Tbl.pendingAt (t : Tbl Word) (code : Nat) : Bool := bitOf (t.fldAt F.EVT_PEND_pending (code / 32)) (code % 32)

@[simp] theorem Dev.pendingAt_regs (d : Dev) (x : Nat) : d.regs.pendingAt x = d.evtPending x := (rfl)
@[simp] theorem Dev.evtPending_mk (x : Nat) x0 x1 x2 x3 x4 x5 x6 x7 x8 x9 x10 x11 x12 x13 x14 x15 x16 x17 x18 x19 x20 x21 x22 x23 x24 x25 x26 x27 x28 x29 :
    (Dev.mk x0 x1 x2 x3 x4 x5 x6 x7 x8 x9 x10 x11 x12 x13 x14 x15 x16 x17 x18 x19 x20 x21 x22 x23 x24 x25 x26 x27 x28 x29).evtPending x = x0.pendingAt x := (rfl)
@[simp] theorem Dev.emit_evtPending (d : Dev) (o : Out) (x : Nat) : (d.emit o).evtPending x = d.evtPending x := (rfl)
@[simp] theorem Dev.setTw_evtPending (d : Dev) (t : TableId) (i ix w v x : Nat) :
    (d.setTw t i ix w v).evtPending x = d.evtPending x := (rfl)

theorem Dev.put_evtPending (d : Dev) (f : Fld) (ix v x : Nat) (h : (f.reg == .EVT_PEND) = false) :
    (d.put f ix v).evtPending x = d.evtPending x := by
  unfold Dev.evtPending
  rw [Dev.fld_put_reg d v h]

/-- A rate-limited event within its interval changes nothing; otherwise it is raised. -/
theorem Dev.raiseLim_keeps (d : Dev) (c : Clock) (v : Ev) (kind inst : Nat) (data : List (Nat × Nat)) (ms : Nat)
    (sev : Option Nat) (sub x : Nat) (hx : d.evtPending x = true) :
    (d.raiseLim c v kind inst data ms sev sub).evtPending x = true := by
  unfold Dev.raiseLim
  dsimp only
  split
  · exact hx
  · exact Dev.raise_keeps _ _ _ _ _ _ _ _ (by simpa using hx)

end Sys2Proof.Machine
end

