-- ==== Sys2Proof/Laws/Frames.lean ====
section
/-! SUPPORT. Frames: what keeps every part and every field outside a list, composed operation by operation. -/
namespace Sys2Proof.Machine

/-! ### Fields -/

theorem Dev.KeepsFields.refl (d : Dev) (ev : Bool) (fs : List (Fld × Nat)) : d.KeepsFields d ev fs :=
  fun _ _ _ _ _ => rfl

theorem Dev.KeepsFields.trans {d e f : Dev} {ev : Bool} {fs : List (Fld × Nat)} (h : d.KeepsFields e ev fs)
    (k : e.KeepsFields f ev fs) : d.KeepsFields f ev fs :=
  fun g ix hg he hp => (k g ix hg he hp).trans (h g ix hg he hp)

/-- Fields depend on the register file alone. -/
theorem Dev.KeepsFields.of_regs {d e f : Dev} {ev : Bool} {fs : List (Fld × Nat)} (h : d.KeepsFields e ev fs)
    (k : f.regs = e.regs) : d.KeepsFields f ev fs := by
  intro g ix hg he hp
  rw [← h g ix hg he hp, ← Dev.fldAt_regs, ← Dev.fldAt_regs, k]

theorem Dev.KeepsFields.mk {d e : Dev} {ev : Bool} {fs : List (Fld × Nat)} (h : d.KeepsFields e ev fs)
    x1 x2 x3 x4 x5 x6 x7 x8 x9 x10 x11 x12 x13 x14 x15 x16 x17 x18 x19 x20 x21 x22 x23 x24 x25 x26 x27 x28 x29 :
    d.KeepsFields (Dev.mk e.regs x1 x2 x3 x4 x5 x6 x7 x8 x9 x10 x11 x12 x13 x14 x15 x16 x17 x18 x19 x20 x21 x22 x23 x24 x25 x26 x27 x28 x29) ev fs :=
  h.of_regs (by with_reducible rfl)

theorem Dev.KeepsFields.emit {d e : Dev} {ev : Bool} {fs : List (Fld × Nat)} (h : d.KeepsFields e ev fs) (o : Out) :
    d.KeepsFields (e.emit o) ev fs := h.of_regs (Dev.emit_regs e o)

theorem Dev.KeepsFields.setTw {d e : Dev} {ev : Bool} {fs : List (Fld × Nat)} (h : d.KeepsFields e ev fs)
    (t : TableId) (i ix w v : Nat) : d.KeepsFields (e.setTw t i ix w v) ev fs := h.of_regs (Dev.setTw_regs e t i ix w v)

theorem Dev.KeepsFields.put {d e : Dev} {ev : Bool} {fs : List (Fld × Nat)} (h : d.KeepsFields e ev fs) (f : Fld)
    (ix v : Nat) (hf : f.fits = true) (hm : (f, ix) ∈ fs) : d.KeepsFields (e.put f ix v) ev fs := by
  intro g jx hg he hp
  rw [← h g jx hg he hp]
  by_cases hr : g.reg = f.reg
  · by_cases hi : jx = ix
    · exact Dev.fld_put_apart e v hf hg (by have := hp (f, ix) hm hr hi; simp [Fld.apart, or_comm] at this ⊢; exact this)
    · exact Dev.fld_put_copy e v hi
  · exact Dev.fld_put_reg e v (beq_eq_false_iff_ne.mpr (fun q => hr q.symm))

theorem Dev.KeepsFields.raise {d e : Dev} {fs : List (Fld × Nat)} (h : d.KeepsFields e true fs) (c : Clock) (v : Ev)
    (k i : Nat) (data : List (Nat × Nat)) (sev : Option Nat) : d.KeepsFields (e.raise c v k i data sev) true fs := by
  intro g jx hg he hp
  rw [← h g jx hg he hp]
  exact Dev.raise_fld e c v k i data sev g jx (by simpa using he rfl)

theorem Dev.KeepsFields.raiseLim {d e : Dev} {fs : List (Fld × Nat)} (h : d.KeepsFields e true fs) (c : Clock) (v : Ev)
    (k i : Nat) (data : List (Nat × Nat)) (ms : Nat) (sev : Option Nat) (sub : Nat) :
    d.KeepsFields (e.raiseLim c v k i data ms sev sub) true fs := by
  intro g jx hg he hp
  rw [← h g jx hg he hp]
  exact Dev.raiseLim_fld e c v k i data ms sev sub g jx (by simpa using he rfl)

theorem Dev.KeepsFields.ite {d e f : Dev} {ev : Bool} {fs : List (Fld × Nat)} (p : Prop) [Decidable p]
    (h : d.KeepsFields e ev fs) (k : d.KeepsFields f ev fs) : d.KeepsFields (if p then e else f) ev fs := by
  split <;> assumption

/-- A fold whose every step keeps the fields keeps them. -/
theorem Dev.KeepsFields.foldl {α : Type} {d : Dev} {ev : Bool} {fs : List (Fld × Nat)} (f : Dev → α → Dev) (l : List α)
    (hf : ∀ e a, a ∈ l → d.KeepsFields e ev fs → d.KeepsFields (f e a) ev fs) {e : Dev} (h : d.KeepsFields e ev fs) :
    d.KeepsFields (l.foldl f e) ev fs := by
  induction l generalizing e with
  | nil => exact h
  | cons a t ih =>
    exact ih (fun e b hb he => hf e b (List.mem_cons_of_mem _ hb) he) (hf e a (List.mem_cons_self ..) h)

/-! ### Parts -/

theorem Dev.KeepsParts.refl (d : Dev) (ps : List Part) : d.KeepsParts d ps := by
  intro p _; cases p <;> rfl

theorem Dev.KeepsParts.trans {d e f : Dev} {ps : List Part} (h : d.KeepsParts e ps) (k : e.KeepsParts f ps) :
    d.KeepsParts f ps := by
  intro p hp
  have a := h p hp
  have b := k p hp
  cases p <;> exact b.trans a

theorem Dev.KeepsParts.put {d e : Dev} {ps : List Part} (h : d.KeepsParts e ps) (f : Fld) (ix v : Nat) :
    d.KeepsParts (e.put f ix v) ps := by
  refine h.trans ?_
  intro p _; cases p <;> simp [Part.same]

theorem Dev.KeepsParts.foldl {α : Type} {d : Dev} {ps : List Part} (f : Dev → α → Dev) (l : List α)
    (hf : ∀ e a, d.KeepsParts e ps → d.KeepsParts (f e a) ps) {e : Dev} (h : d.KeepsParts e ps) :
    d.KeepsParts (l.foldl f e) ps := by
  induction l generalizing e with
  | nil => exact h
  | cons a t ih => exact ih (hf e a h)

theorem Dev.KeepsParts.raise {d e : Dev} {ps : List Part} (h : d.KeepsParts e ps) (hs : evtParts ⊆ ps) (c : Clock)
    (v : Ev) (k i : Nat) (data : List (Nat × Nat)) (sev : Option Nat) : d.KeepsParts (e.raise c v k i data sev) ps := by
  refine h.trans ?_
  intro p hp
  have : p ∉ evtParts := fun q => hp (hs q)
  cases p <;> simp_all [Part.same, evtParts]

/-! ### Registers -/

/-- Every copy of every register outside the list reads as before. -/
def Dev.KeepsRegs (d e : Dev) (rs : List Reg) : Prop := ∀ r ix, r ∉ rs → e.reg r ix = d.reg r ix

namespace Dev.KeepsRegs

theorem refl (d : Dev) (rs : List Reg) : d.KeepsRegs d rs := fun _ _ _ => rfl

theorem trans {d e f : Dev} {rs : List Reg} (h : d.KeepsRegs e rs) (k : e.KeepsRegs f rs) : d.KeepsRegs f rs :=
  fun r ix hr => (k r ix hr).trans (h r ix hr)

theorem mono {d e : Dev} {rs qs : List Reg} (h : d.KeepsRegs e rs) (k : rs ⊆ qs) : d.KeepsRegs e qs :=
  fun r ix hr => h r ix (fun q => hr (k q))

theorem of_regs {d e f : Dev} {rs : List Reg} (h : d.KeepsRegs e rs) (k : f.regs = e.regs) : d.KeepsRegs f rs := by
  intro r ix hr
  rw [← h r ix hr, ← Dev.regAt_regs, ← Dev.regAt_regs, k]

theorem mk {d e : Dev} {rs : List Reg} (h : d.KeepsRegs e rs)
    x1 x2 x3 x4 x5 x6 x7 x8 x9 x10 x11 x12 x13 x14 x15 x16 x17 x18 x19 x20 x21 x22 x23 x24 x25 x26 x27 x28 x29 :
    d.KeepsRegs (Dev.mk e.regs x1 x2 x3 x4 x5 x6 x7 x8 x9 x10 x11 x12 x13 x14 x15 x16 x17 x18 x19 x20 x21 x22 x23 x24 x25 x26 x27 x28 x29) rs :=
  h.of_regs (by with_reducible rfl)

theorem emit {d e : Dev} {rs : List Reg} (h : d.KeepsRegs e rs) (o : Out) : d.KeepsRegs (e.emit o) rs :=
  h.of_regs (Dev.emit_regs e o)

theorem put {d e : Dev} {rs : List Reg} (h : d.KeepsRegs e rs) (f : Fld) (ix v : Nat) (hf : f.reg ∈ rs) :
    d.KeepsRegs (e.put f ix v) rs :=
  h.trans fun _ _ hr => Dev.reg_put_other e v (.inl (fun q => hr (q ▸ hf)))

theorem raise {d e : Dev} {rs : List Reg} (h : d.KeepsRegs e rs) (hs : evtRegs ⊆ rs) (c : Clock) (v : Ev) (k i : Nat)
    (data : List (Nat × Nat)) (sev : Option Nat) : d.KeepsRegs (e.raise c v k i data sev) rs :=
  h.trans (mono (e.raise_only c v k i data sev).2 hs)

theorem raiseLim {d e : Dev} {rs : List Reg} (h : d.KeepsRegs e rs) (hs : evtRegs ⊆ rs) (c : Clock) (v : Ev)
    (k i : Nat) (data : List (Nat × Nat)) (ms : Nat) (sev : Option Nat) (sub : Nat) :
    d.KeepsRegs (e.raiseLim c v k i data ms sev sub) rs :=
  h.trans (mono (e.raiseLim_only c v k i data ms sev sub).2 hs)

theorem foldl {α : Type} {d : Dev} {rs : List Reg} (f : Dev → α → Dev) (l : List α)
    (hf : ∀ e a, d.KeepsRegs e rs → d.KeepsRegs (f e a) rs) {e : Dev} (h : d.KeepsRegs e rs) :
    d.KeepsRegs (l.foldl f e) rs := by
  induction l generalizing e with
  | nil => exact h
  | cons a t ih => exact ih (hf e a h)

/-- What a kept register says of its fields. -/
theorem fld {d e : Dev} {rs : List Reg} (h : d.KeepsRegs e rs) (f : Fld) (ix : Nat) (hf : rs.contains f.reg = false) :
    e.fld f ix = d.fld f ix := by
  unfold Dev.fld
  rw [h f.reg ix (by simpa using hf)]

theorem pending {d e : Dev} {rs : List Reg} (h : d.KeepsRegs e rs) (x : Nat) (hf : rs.contains .EVT_PEND = false) :
    e.evtPending x = d.evtPending x := by
  unfold Dev.evtPending
  rw [h.fld _ _ hf]

end Dev.KeepsRegs

end Sys2Proof.Machine
end

