-- ==== Sys2Proof/Laws/Twin.lean ====
section
/-! SUPPORT. Ember: with no stream up, links may change without an effect on the streams. -/
namespace Sys2Proof.Machine

theorem Dev.emberDown_down (d : Dev) (c : Clock) (die : Nat) (h : d.emberUp die = false) : d.emberDown c die = d := by
  simp [Dev.emberDown, h]

theorem Dev.emberEval_down (d : Dev) (c : Clock) (h0 : d.emberUp 0 = false) (h1 : d.emberUp 1 = false) :
    d.emberEval c = d := by
  unfold Dev.emberEval
  dsimp only
  split
  · rfl
  · rw [d.emberDown_down c 0 h0, d.emberDown_down c 1 h1]

/-- With both streams down a change of links does nothing more. -/
theorem Dev.emberReroute_down (d d0 : Dev) (c : Clock) (h0 : d.emberUp 0 = false) (h1 : d.emberUp 1 = false) :
    d.emberReroute d0 c = d := by
  have e : List.range 2 = [0, 1] := by decide
  unfold Dev.emberReroute
  simp [e, h0, h1, Dev.emberEval_down]

end Sys2Proof.Machine
end

