-- ==== Sys2Proof/Laws/Link.lean ====
section
/-! SUPPORT. Lanes and ports: the registers a change of a lane or a link may write. -/
namespace Sys2Proof.Machine

theorem Dev.clearPause_keeps (d : Dev) (p : Nat) : d.KeepsRegs (d.clearPause p) [.MAC_PORT_STATUS] := by
  unfold Dev.clearPause
  dsimp only
  repeat' first
    | with_reducible exact Dev.KeepsRegs.refl _ _
    | (with_reducible refine Dev.KeepsRegs.put ?_ _ _ _ (by decide))
    | (with_reducible refine Dev.KeepsRegs.mk ?_ _ _ _ _ _ _ _ _ _ _ _ _ _ _ _ _ _ _ _ _ _ _ _ _ _ _ _ _ _ )

theorem Dev.linkEval_keeps (d : Dev) (c : Clock) (p : Nat) (rf : Bool) :
    d.KeepsRegs (d.linkEval c p rf) ([.MAC_PORT_STATUS] ++ evtRegs) := by
  unfold Dev.linkEval Dev.putB
  extract_lets en d1 al rf2 up was d2
  have h1 : d.KeepsRegs d1 ([.MAC_PORT_STATUS] ++ evtRegs) := by
    unfold d1; split
    · exact .refl _ _
    · exact (Dev.clearPause_keeps _ _).mono (by decide)
  have h2 : d.KeepsRegs d2 ([.MAC_PORT_STATUS] ++ evtRegs) :=
    ((h1.put _ _ _ (by decide)).put _ _ _ (by decide)).put _ _ _ (by decide)
  clear_value d1 d2
  split
  · exact h2
  · split
    · exact h2.raise (by decide) _ _ _ _ _ _
    · exact h2.raise (by decide) _ _ _ _ _ _

theorem Dev.lanePort_keeps (d : Dev) (c : Clock) (n : Nat) :
    d.KeepsRegs (d.lanePort c n) ([.MAC_PORT_STATUS] ++ evtRegs) := by
  unfold Dev.lanePort
  split
  · exact .refl _ _
  · exact d.linkEval_keeps c _ _

theorem Dev.rclkEval_keeps (d : Dev) (c : Clock) : d.KeepsRegs (d.rclkEval c) ([.TIM_RCLK_CFG] ++ evtRegs) := by
  unfold Dev.rclkEval Dev.putB
  dsimp only
  repeat' first
    | with_reducible exact Dev.KeepsRegs.refl _ _
    | with_reducible assumption
    | (with_reducible refine Dev.KeepsRegs.put ?_ _ _ _ (by decide))
    | (with_reducible refine Dev.KeepsRegs.raise ?_ (by decide) _ _ _ _ _ _)
    | (with_reducible refine Dev.KeepsRegs.emit ?_ _)
    | (with_reducible refine Dev.KeepsRegs.foldl _ _ (fun e _ _ => ?_) ?_)
    | split

theorem Dev.setLinkState_keeps (d : Dev) (c : Clock) (g s : Nat) : d.KeepsRegs (d.setLinkState c g s) ([.PEL_LINK_STATUS] ++ evtRegs) := by
  unfold Dev.setLinkState
  dsimp only
  repeat' first
    | with_reducible exact Dev.KeepsRegs.refl _ _
    | (with_reducible refine Dev.KeepsRegs.put ?_ _ _ _ (by decide))
    | (with_reducible refine Dev.KeepsRegs.raise ?_ (by decide) _ _ _ _ _ _)
    | split

/-! ### Lanes and links leave the twin's state alone -/

@[simp] theorem Dev.clearPause_twn (d : Dev) (p : Nat) : (d.clearPause p).twn = d.twn := by
  simp [Dev.clearPause]

@[simp] theorem Dev.linkEval_twn (d : Dev) (c : Clock) (p : Nat) (rf : Bool) : (d.linkEval c p rf).twn = d.twn := by
  unfold Dev.linkEval Dev.putB
  extract_lets en d1 al rf2 up was d2
  have h1 : d1.twn = d.twn := by unfold d1; split <;> simp
  have h2 : d2.twn = d.twn := by unfold d2; simp [h1]
  clear_value d1 d2
  split
  · exact h2
  · split <;> simp [h2]

@[simp] theorem Dev.lanePort_twn (d : Dev) (c : Clock) (n : Nat) : (d.lanePort c n).twn = d.twn := by
  unfold Dev.lanePort
  split
  · rfl
  · exact d.linkEval_twn c _ _

@[simp] theorem Dev.rclkEval_twn (d : Dev) (c : Clock) : (d.rclkEval c).twn = d.twn := by
  have one : ∀ (e : Dev) (k : Nat), (if (!(e.flag F.TIM_RCLK_CFG_enable k &&
      e.laneState (e.fld F.TIM_RCLK_CFG_lane k) == 2)) == e.flag F.TIM_RCLK_CFG_squelched k then e
      else ((e.putB F.TIM_RCLK_CFG_squelched k (!(e.flag F.TIM_RCLK_CFG_enable k &&
        e.laneState (e.fld F.TIM_RCLK_CFG_lane k) == 2))).emit (.pin (if k == 0 then .rclkOut0 else .rclkOut1)
        (!!(e.flag F.TIM_RCLK_CFG_enable k && e.laneState (e.fld F.TIM_RCLK_CFG_lane k) == 2)))).raise c
          .TIM_RCLK_SQUELCH 10 k).twn = e.twn := by
    intro e k
    split <;> simp
  unfold Dev.rclkEval
  exact (one _ 1).trans (one _ 0)

end Sys2Proof.Machine
end

