-- ==== Sys2Proof/WellFormed.lean ====
section
/-! DEFINITION. Which commands are well formed: operands within the widths the spec gives them. -/
namespace Sys2Proof

open Sys2Proof.Machine

/-- A stamp whose fields lie in their ranges (R357). -/
def stampOk (t : Stamp) : Bool := decide (t.sec < 2 ^ 48) && decide (t.ns < 1000000000) && decide (t.frac < 2 ^ 16)

/-- A 4-byte access carries a 32-bit value (R37). -/
def narrow (size : Fin 16) (value : Word) : Bool := size.val != 4 || decide (value.toNat < 2 ^ 32)

/-- A cell whose kind, sequence and acknowledgement fit their fields (R102). -/
def cellOk (c : Cell) : Bool := decide (c.kind < 4) && decide (c.seq < 2 ^ 11) && decide (c.ack < 2 ^ 11)

/-- A Toll body whose fields fit (R386). -/
def tollOk (i : TollInfo) : Bool :=
  decide (i.serial < 2 ^ 64) && decide (i.devDigest < 2 ^ 64) && decide (i.groupDigest < 2 ^ 64) &&
  decide (i.compatAction < 2 ^ 32) && decide (i.compatSweeper < 2 ^ 32) && decide (i.phase < 16) &&
  decide (i.twinState < 8) && decide (i.applied0 < 2 ^ 32) && decide (i.applied1 < 2 ^ 32) && decide (i.role < 3)

/-- A digest list entry: SDT index, instance, digest (R104). -/
def digestOk (e : Nat × Nat × Nat) : Bool := decide (e.1 < 2 ^ 32) && decide (e.2.1 < 2 ^ 32) && decide (e.2.2 < 2 ^ 64)

/-- A patrol read of a place that exists (R461). -/
def scrubOk : ScrubAt → Bool
  | .hbm die ch _ _ => decide (die < 2) && decide (ch < 32)
  | .hearth b s w => decide (b < 256) && decide (s < 4096) && decide (w < 4)
  | .buffer h => decide (h < 2 ^ 24)
  | .graph p _ => decide (p < 32)
  | .table p _ _ => decide (p < 32)
  | .tcam p i => decide (p < 32) && decide (i < 16384)
  | .store inst => decide (inst < 256)
  | .swpStore die n => decide (die < 2) && decide (n < 32)
  | .core n _ => decide (n < 8)

/-- Whether a command is well formed. -/
def WellFormed (i : Instr) : Bool :=
  match i with
  | .pwrgdRise _ _ => true
  | .sysRstRelease _ _ => true
  | .pwrgdFall => true
  | .warmReset _ => true
  | .pcieReset _ => true
  | .pcieLinkDown => true
  | .fuseCheckDone _ _ _ => true
  | .sdtPublish => true
  | .nvmReadDone _ _ => true
  | .imageVerifyDone => true
  | .imageApplyDone => true
  | .relayTimeout => true
  | .bootLinkUp _ => true
  | .bootImageMessage _ _ _ body => decide (body.length ≤ 8192)
  | .hbmTrainingDone _ => true
  | .laneTrainingDone _ _ => true
  | .fwDownloadGo _ => true
  | .cfgDownloadGo _ => true
  | .fwFetchDone _ _ => true
  | .cfgFetchDone _ => true
  | .fwWindowTimeout => true
  | .generation0Live => true
  | .formationTimer => true
  | .hostAbsent => true
  | .hostAliveBeat => true
  | .registerWrite _ _ size value => narrow size value
  | .halfReadCapture _ _ => true
  | .holdRequest _ _ => true
  | .holdRelease _ _ => true
  | .holdExpired _ _ => true
  | .bar2Write => true
  | .bootStatusRead => true
  | .refLost => true
  | .refRestored => true
  | .frameReceive port lane _ _ _ => decide (port.val ≤ lane.val) && decide (lane.val < port.val + 8)
  | .macControlFrame _ _ timers => decide (timers.length ≤ 8)
  | .pauseTimerExpire _ _ => true
  | .pfcResend _ => true
  | .linkStateChange _ _ _ => true
  | .laneRecal _ => true
  | .recalDone _ _ _ => true
  | .laneFail _ _ => true
  | .fecWindowEnd _ _ _ _ => true
  | .laneRetryTraining _ _ => true
  | .pealCellReceive _ _ cell _ => cellOk cell
  | .pealCellResend _ => true
  | .keyEpochChange _ => true
  | .laneSetMessage _ _ _ _ => true
  | .pauseStateMessage _ _ => true
  | .keyEpochMessage _ _ _ => true
  | .kx1 _ _ _ => true
  | .kx2 _ _ => true
  | .kx3 _ _ => true
  | .keyingRetry _ => true
  | .packetMessage _ _ _ _ _ _ => true
  | .intakeSlot _ _ => true
  | .descriptorDeal _ => true
  | .parseDone _ _ _ => true
  | .reorderRelease _ => true
  | .parseEngineParity _ _ => true
  | .parseEngineRetire _ _ => true
  | .parseEngineReturn _ _ => true
  | .classify _ _ _ _ _ => true
  | .tcamShadowCheck _ _ _ => true
  | .throttleChange _ => true
  | .tblAdd _ _ => true
  | .tblDelete _ _ => true
  | .tblWriteAt _ _ => true
  | .tblMove _ _ => true
  | .tblRead _ _ => true
  | .tblLocate _ _ => true
  | .tcamHoleRestore _ => true
  | .genCommit => true
  | .genAbort => true
  | .stagePrepareDone => true
  | .genDrained => true
  | .packetLifetime _ => true
  | .egressReorderRelease _ _ => true
  | .hearthRequest _ _ => true
  | .missFill _ _ => true
  | .fillWayRetry _ _ => true
  | .bankQueueEnter _ => true
  | .hbmWriteAck _ _ => true
  | .hostPendingTimeout _ => true
  | .flowInsert _ _ body => body.length == 192
  | .flowUpdate _ body => body.length == 192
  | .flowDelete _ key => key.length == 48
  | .flowRead _ _ key => key.length == 48
  | .flowBadOp _ => true
  | .hbmEvacStart _ _ => true
  | .evacDone _ => true
  | .channelRetrainDone _ _ => true
  | .bankRetire _ => true
  | .bankControlParity _ => true
  | .bankCopyDone _ => true
  | .sweeperVisit _ _ _ => true
  | .sweeperScanEnd _ _ => true
  | .visitSlow _ _ => true
  | .engineDispatch _ => true
  | .next _ _ => true
  | .jump _ _ => true
  | .brT _ _ => true
  | .brF _ _ => true
  | .commit _ _ => true
  | .abort _ _ => true
  | .illegalSeq _ _ => true
  | .nop _ => true
  | .add _ => true
  | .sub _ => true
  | .and _ => true
  | .or _ => true
  | .xor _ => true
  | .shl _ => true
  | .shr _ => true
  | .sar _ => true
  | .mov _ => true
  | .cmp _ => true
  | .min _ => true
  | .max _ => true
  | .csum _ => true
  | .bswap _ => true
  | .tsdiff _ => true
  | .ld _ _ => true
  | .ldn _ _ => true
  | .st _ _ => true
  | .editRw _ _ => true
  | .editOp _ _ => true
  | .cntAdd _ _ => true
  | .unit _ _ => true
  | .ts _ _ => true
  | .illegalMem _ _ => true
  | .unitResult _ _ => true
  | .hash64 _ => true
  | .pi _ => true
  | .piInv _ => true
  | .snat _ => true
  | .xlate _ => true
  | .subRead _ => true
  | .pick _ => true
  | .backendRead _ => true
  | .meter _ => true
  | .bind _ => true
  | .fragXlate _ => true
  | .fragRead _ => true
  | .hist _ => true
  | .ioam _ => true
  | .lookup _ => true
  | .nhRead _ => true
  | .resolve _ => true
  | .unitReserved _ => true
  | .watchdog _ _ => true
  | .engineMchk _ _ _ => true
  | .engineReturn _ _ => true
  | .clusterParity _ => true
  | .clusterReloadDone _ _ => true
  | .swpNext _ _ => true
  | .swpJump _ _ => true
  | .mway _ _ => true
  | .swpBrT _ _ => true
  | .ckpt _ _ => true
  | .endVisit _ _ => true
  | .swpIllegal _ _ => true
  | .swpLd _ _ => true
  | .swpSt _ _ => true
  | .push _ _ => true
  | .swpCntAdd _ _ => true
  | .swpUnit _ _ => true
  | .swpTs _ _ => true
  | .sweeperMchk _ _ _ => true
  | .sweeperReloadDone _ _ _ => true
  | .sweeperPause _ _ => true
  | .visitAbandon _ _ => true
  | .rolloutGo => true
  | .rolloutStepDone _ => true
  | .rolloutAbort => true
  | .portQuarantineRelease _ => true
  | .rebuildGo _ => true
  | .rebuildDone => true
  | .probeSend _ => true
  | .probeReply _ => true
  | .probeTimeout _ => true
  | .fragBindingExpire _ => true
  | .exportMessageAge _ => true
  | .templateSend _ => true
  | .portWindowEnd _ => true
  | .prfSnap => true
  | .prfClear => true
  | .segmentRequest _ _ _ => true
  | .segmentRetry _ => true
  | .segmentFree _ _ => true
  | .fifoWrite _ _ _ _ _ => true
  | .fifoRead _ _ => true
  | .fifoIdleTimeout _ => true
  | .fifoFlush _ => true
  | .flushDone _ => true
  | .producerStall _ => true
  | .dequeue _ _ _ _ _ => true
  | .egressCapture _ => true
  | .gateGo _ => true
  | .gateAbort _ => true
  | .gateDisable _ => true
  | .gateBoundary _ => true
  | .gateTakeover _ => true
  | .stepGo => true
  | .setGo => true
  | .slewGo => true
  | .slewAbort => true
  | .slewDone => true
  | .txqPop => true
  | .ppsInEdge => true
  | .ppsInLost => true
  | .sourceLost => true
  | .timeRequest => true
  | .timeRequestReceive _ _ => true
  | .timeResponse _ _ t2 t3 => stampOk t2 && stampOk t3
  | .pealTimeLost => true
  | .ledgerRecord info => decide (info.stepsRemoved < 2 ^ 16)
  | .servoLocked => true
  | .temperatureTermUpdate => true
  | .ppsOutRise => true
  | .ppsOutFall => true
  | .clk10mMeasure _ => true
  | .tollSend => true
  | .tollReceive _ _ _ info => tollOk info
  | .tollIntervalEnd => true
  | .emberInsert _ _ _ image => image.length == 192
  | .emberUpdate _ _ _ _ => true
  | .emberHostUpdate _ _ _ image => image.length == 192
  | .emberDelete _ _ _ _ => true
  | .emberCounter _ _ _ _ => true
  | .emberTouch _ _ _ _ => true
  | .emberAck _ _ _ => true
  | .syncTimeout _ => true
  | .counterWalk _ => true
  | .emberUp _ _ => true
  | .backlogDrained _ => true
  | .kindlingImage _ _ _ count body _ => body.length == if count.val == 0 then 8 else 192 * count.val
  | .kindleDone => true
  | .kindleMerge => true
  | .kindleHostDone => true
  | .distWrite32 _ _ _ _ => true
  | .distWrite64 _ _ _ _ => true
  | .distWrite64At _ _ _ _ due => stampOk due
  | .distWriteAtExecute => true
  | .distDigestList _ _ => true
  | .distResult _ _ _ => true
  | .distSilent _ => true
  | .digestDiverge _ theirs => theirs.all digestOk
  | .rxDoorbell _ _ _ => true
  | .txDoorbell _ _ => true
  | .txDirect _ desc => stampOk desc.stamp
  | .txInject _ desc => stampOk desc.stamp
  | .msixFire _ _ => true
  | .fetchError _ _ _ => true
  | .modeMove _ _ => true
  | .modeMoveDone => true
  | .eventRingEnable _ => true
  | .pcieLinkUp => true
  | .d3hotTransition _ => true
  | .debugToken _ length => decide (length.toNat ≤ 4096)
  | .storeClearDone => true
  | .fuseRequest _ length => decide (length.toNat ≤ 4096)
  | .fuseProgramDone _ => true
  | .quote _ => true
  | .newChallenge _ => true
  | .epochCommit _ => true
  | .challengeLapse => true
  | .ladderReady => true
  | .bypass => true
  | .idcode => true
  | .samplePreload => true
  | .extest => true
  | .clamp => true
  | .highz => true
  | .extestPulse => true
  | .extestTrain => true
  | .secacc _ _ size value => narrow size value
  | .regacc _ _ size value => narrow size value
  | .scrubRead at_ _ _ => scrubOk at_
  | .ceWindowEnd _ _ => true
  | .channelLost _ _ _ _ records => decide records.Nodup
  | .quarReleaseRequest _ _ => true
  | .coreMachineCheck _ _ => true
  | .coreHeartbeatMiss _ => true
  | .coreReturn _ => true
  | .swapGo => true
  | .swapVerifyDone _ => true
  | .swapRevert => true
  | .swapAutoRevert => true
  | .rolloutFetchDone _ => true
  | .avsCommand _ _ _ => true
  | .marginFail _ => true
  | .sensorReading _ _ => true
  | .analogTrip _ => true
  | .pwrFault => true
  | .coolantFault => true
  | .tripRampDone => true
  | .damperRequest _ _ _ _ => true
  | .damperGrant _ _ _ => true
  | .damperDefer _ => true
  | .sbStatus => true
  | .sbRead _ => true
  | .sbWrite _ _ => true

end Sys2Proof
end

