-- ==== Sys2Proof/Tests/Slice0.lean ====
section
/-! SUPPORT. Small states, the ill-formed commands the well-formedness check refuses, checks against the spec's worked
examples, and for every statement with hypotheses one theorem `witness_<Name>` that gives, for each of its clauses, a
state and operands that meet all the clause's hypotheses together. -/
namespace Sys2Proof.Tests
open Sys2Proof Sys2Proof.Machine

set_option maxRecDepth 100000
set_option Elab.async false

/-- The state after reset with a changed device, `t` edges of CLK_TIME on. -/
def st (f : Dev → Dev) (t : Nat := 100000000000) : State :=
  { State.reset with clk := { State.reset.clk with phys := t }, dev := f State.reset.dev }

/-- Fields written: field, copy, value. -/
def sets (l : List (Fld × Nat × Nat)) (d : Dev) : Dev := l.foldl (fun d x => d.put x.1 x.2.1 x.2.2) d

/-- Running, with port `p` configured, enabled and up, and generation 0 live. -/
def port (p : Nat) (d : Dev) : Dev :=
  let d := sets [(F.BOOT_STATUS_phase, 0, 7), (F.MAC_PORT_CFG_enable, p, 1), (F.MAC_PORT_STATUS_link_up, p, 1)] d
  { d with net := { d.net with configured := [p] }, cls := { d.cls with live := [(0, 0)] } }

def up : State := st (port 0)

/-! ### States: bring-up -/

def boot (l : List (Fld × Nat × Nat)) (f : BootSt → BootSt) : State :=
  st fun d => { sets l d with boot := f d.boot }
def boot1 : State := boot [(F.BOOT_STATUS_phase, 0, 1)] id
def boot1p : State := boot [(F.BOOT_STATUS_phase, 0, 1)] fun b => { b with published := true }
def boot1m : State := boot [(F.BOOT_STATUS_phase, 0, 1), (F.BOOT_STRAPS_board_pos, 0, 3), (F.PEL_LINK_STATUS_state, 63, 6)]
  fun b => { b with published := true, image := List.replicate 64 0 }
def boot1n : State := boot [(F.BOOT_STATUS_phase, 0, 1), (F.BOOT_STRAPS_board_pos, 0, 3)] fun b => { b with published := true }
def boot2 : State := boot [(F.BOOT_STATUS_phase, 0, 2)] fun b => { b with full := true }
def boot3 : State := boot [(F.BOOT_STATUS_phase, 0, 3)] id
def boot4 : State := boot [(F.BOOT_STATUS_phase, 0, 4)] fun b => { b with windowAt := some 0 }
def boot5 : State := boot [(F.BOOT_STATUS_phase, 0, 5)] fun b => { b with fetch := some 0 }
def boot6 : State := st fun d => { d.put F.BOOT_STATUS_phase 0 6 with cls := { d.cls with staged := some (0, 0) } }
def boot7 : State := boot [(F.BOOT_STATUS_phase, 0, 7), (F.LANE_STATUS_state, 511, 1)] id
def boot8 : State := boot [(F.BOOT_STATUS_phase, 0, 8)] id
def boot8f : State := boot [(F.BOOT_STATUS_phase, 0, 8)] fun b => { b with fetch := some 1 }

/-! ### States: host interface -/

def hostUp (f : HostSt → HostSt) (d : Dev) : Dev :=
  let d := sets [(F.HST_RXR_CFG_enable, 3, 1), (F.HST_RXR_CFG_log2_size, 3, 6), (F.HST_TXR_CFG_enable, 3, 1),
    (F.HST_TXR_CFG_log2_size, 3, 6), (F.HST_TXR_PTR_tail, 3, 5), (F.GLB_CORE_STATUS_in_service, 0, 1)] (port 0 d)
  { d.setTw .SCH_LEAF_PROFILE 0 0 1 0x80 with host := f { d.host with linkUp := true }, boot := { d.boot with published := true } }
def host1 : State := st (hostUp id)
def host2 : State := st fun d => { hostUp (fun h => { h with move := some (7, true), d3hot := true, linkUp := false }) d with
  msix := { d.msix with waiting := [(2, 3)] } }
def host3 : State := st fun d => (hostUp id d).put F.EVT_RING_CFG_log2_size 7 6
def host4 : State := st fun d => (hostUp id d).put F.HST_HOSTLOSS_CTRL_absent 0 1
def host5 : State := st fun d => let d := hostUp (fun h => { h with aliveMs := 100 }) d
  { d with boot := { d.boot with retainedHash := sha512 d.boot.retained } }
def frame60 : List Byte := List.replicate 12 2 ++ [8, 0] ++ List.replicate 46 1
def txd : TxDesc :=
  { frame := frame60, length := 60, port := 0, tc := 0, start := 0, compatId := 0, stamp := State.reset.clk.stamp, oneStep := 0,
    native := false, compat := false, ptpOff := 0, reservedOk := true }

/-! ### States: registers, clocks, links -/

def lost : State := st fun d => sets [(F.CLK_REF_STATUS_lost, 0, 1), (⟨holdReg 9, 1, 1⟩, 0, 1), (F.SEC_STATUS_scope, 0, 8)] d
def mac (l : List (Fld × Nat × Nat)) (f : NetSt → NetSt) : State :=
  st fun d => let d := sets l (port 511 d); { d with net := f d.net }
def mac1 : State := mac [(F.MAC_PORT_CFG_fc_mode, 511, 2), (F.MAC_PFC_CTRL_rx_prio_enable, 511, 128), (F.MAC_PORT_STATUS_pfc_tx, 511, 1),
  (F.LANE_STATUS_state, 511, 2)] fun n => { n with rxPause := n.rxPause.setNum ⟨511, 7, 0⟩ 1, pfcSent := n.pfcSent.setNum ⟨511, 0, 0⟩ 1 }
def mac2 : State := st fun d => let d := (port 511 d).put F.LANE_STATUS_state 511 3
  d.setLane 511 { d.lane 511 with recalFrom := 2 }
def mac3 : State := st fun d => ((port 511 d).put F.LANE_STATUS_state 511 4)
def mac4 : State := st fun d => ((port 511 d).put F.LANE_DEGRADE_CTRL_fail_windows 511 0).put F.LANE_DEGRADE_CTRL_symbols 511 1
def peal (s : Nat) (f : Link → Link) : State := st fun d =>
  let d := sets [(F.BOOT_STATUS_phase, 0, 7), (F.SEC_STATUS_ladder_ready, 0, 1), (F.PEL_LINK_STATUS_state, 63, s)] d
  d.setLink 63 (f (d.link 63))
def msg1 : PealMsg := ⟨3, 7, [1, 2, 3], 0⟩
def cell1 : Cell := ⟨0, 0, 0, [msg1]⟩
def peal4 : State := peal 4 fun l => { l with rxMask := 255 }
def peal4r : State := peal 4 fun l => { l with retained := [⟨3, cell1, 0⟩] }
def peal3 : State := peal 3 id
def keyI : State := peal 3 fun l => { l with keying := some ⟨true, [], [], [], none⟩ }
def keyR : State := peal 3 fun l => { l with keying := some ⟨false, [], [], [], none⟩ }
def keyF : State := peal 3 fun l => { l with keying := some ⟨true, [], [], [], some 0⟩ }
def remote : State := st fun d => d.setTw .SCH_LEAF_PROFILE 0 0 1 0x80

/-! ### States: clocks -/

def clock (f : Clock → Clock) (g : Dev → Dev) : State := { st g with clk := f (st g).clk }
def clock1 : State := clock (fun c => { c with slew := some ⟨1000, 3, 0⟩ }) id
def clock2 : State := clock (fun c => { c with slew := some ⟨1000, 0, 0⟩ }) id
def time (l : List (Fld × Nat × Nat)) (f : TimSt → TimSt) : State :=
  clock (fun c => { c with sec := 99 }) fun d => let d := sets ((F.GLB_CORE_STATUS_in_service, 0, 1) :: l) d; { d with tim := f d.tim }
def time1 : State := time [(F.TIM_PPS_CFG_in_en, 0, 1), (F.TIM_PPS_CFG_out_en, 0, 1), (F.TIM_PEAL_CFG_follow, 0, 1),
  (F.PEL_LINK_STATUS_state, 63, 4)] fun t => { t with servo := .acquiring }
def time2 : State := time [(F.PEL_LINK_STATUS_state, 63, 4)]
  fun t => { t with servo := .locked, ppsOut := true, pealReq := some (65535, State.reset.clk.stamp), openRecs := List.replicate 59 [] }
def time3 : State := time [] fun t => { t with openRecs := List.replicate 58 [] }

/-! ### States: power, security, reliability -/

def pwr (l : List (Fld × Nat × Nat)) (f : PwrSt → PwrSt) : State := st fun d => let d := sets l d; { d with pwr := f d.pwr }
def pwr1 : State := pwr [(F.BOOT_STATUS_phase, 0, 7)] id
def pwr2 : State := pwr [(F.BOOT_STATUS_phase, 0, 7), (F.PWR_RAIL_STATUS_setpoint_mv, 2, 780)] fun p => { p with smbAlert := true }
def pwr3 : State := pwr [(F.PWR_TRIP_CFG_coolant_en, 0, 1)] fun p => { p with tripAt := some 0 }
def pwr4 : State := pwr [(F.PWR_TRIP_CFG_coolant_en, 0, 1)] id
def sec1 : State := st fun d => { sets [(F.BOOT_STATUS_phase, 0, 7), (F.SEC_STATUS_ladder_ready, 0, 1), (F.SEC_STATUS_chal_valid, 0, 1)] d
  with sec := { d.sec with clearing := some 15, burning := some ⟨1, 3, List.replicate 64 7⟩ } }
def rel (l : List (Fld × Nat × Nat)) (f : RelSt → RelSt) : State := st fun d =>
  let d := sets ((F.BOOT_STATUS_phase, 0, 7) :: (F.GLB_CORE_STATUS_in_service, 0, 255) :: l) d
  { d with rel := f d.rel }
def image64 : List Byte := List.replicate 64 0
def rel1 : State := rel [(F.BOOT_SWAP_CTRL_extents, 0, 1024)] fun r =>
  { r with handoverAt := some 0, slots := (r.slots.put ⟨0, 0, 0⟩ ⟨image64, true⟩).put ⟨1, 0, 0⟩ ⟨image64, true⟩ }
def rel2 : State := rel [(F.BOOT_SWAP_STATUS_state, 0, 1), (F.GLB_CORE_STATUS_failed, 0, 128), (F.ENG_ROLL_STATUS_state, 0, 1)] fun r =>
  { r with returning := some 7, slots := r.slots.put ⟨0, 0, 0⟩ ⟨image64, true⟩ }
def rel3 : State := rel [(F.BOOT_SWAP_STATUS_state, 0, 3)] id
def rel4 : State := st fun d => { port 0 d with flw := { d.flw with quar := d.flw.quar.setNum ⟨1, 0, 0⟩ 1 } }

/-! ### States: services, telemetry, buffers -/

def svc (f : NatSt → NatSt) (g : TelSt → TelSt) : State := st fun d =>
  let d := sets [(F.GLB_CORE_STATUS_in_service, 0, 1), (F.TEL_EXP_CFG2_enable, 0, 1)] d
  let d := ((d.setTw .LBL_SVC_TBL 0 0 2 (2 ^ 31)).setTw .LBL_SVC_TBL 0 0 3 (2 ^ 25 + 2 ^ 31 + 2 ^ 27)).setTw .LBL_BACKEND_TBL 0 0 2 (2 ^ 47)
  { d with nat := f d.nat, tel := g d.tel }
def svc1 : State := svc id id
def svc2 : State := svc (fun n => { n with rebuild := some 0, probes := n.probes.put ⟨0, 0, 0⟩ ⟨1, 1, 0, true⟩ })
  fun t => { t with msgs := t.msgs.put ⟨1, 0, 0⟩ ⟨[[0]], [], 0⟩ }
def svc3 : State := svc (fun n => { n with probes := n.probes.put ⟨0, 0, 0⟩ ⟨1, 1, 100000000000, true⟩ }) id
def svc4 : State := { svc1 with clk := { svc1.clk with sec := 100 } }
def pwr5 : State := pwr [(F.BOOT_STATUS_phase, 0, 7)] fun p => { p with waiting := [⟨2, 0, 0, false⟩] }
def sec0 : State := st (fun d => d.put F.SEC_STATUS_chal_valid 0 1) 1000000000000

/-! ### States: packets and flows -/

def key0 : List Byte := List.replicate 48 0
def parse0 : ParseRes :=
  { stack := [], area := List.replicate 256 0, flags := 64, problem := none, payload := 0, fragPorts := [], fragId := 0, key := key0,
    ipOff := none, l4Off := none }
def pkt0 (l : Loc) : Pkt :=
  { id := 0, port := 0, arrival := .frame, bytes := frame60, rxLen := 64, stamp := State.reset.clk.stamp, stepEpoch := 0, seg := none,
    prio := 0, startState := 0, gen := 0, slot := 0, stamped := true, pass := 0, seq := 0, order := 0, parse := parse0,
    cls := ⟨7, [0x500010100, 0, 0, 0], some 5⟩, hash := 0, loc := l, tc := 0, colour := 0, txRing := none, flow := none, locked := false,
    hold := none, stateless := false, mchecks := 0, unordered := false, creating := false, counter := false, copy := none,
    entryAt := none, avoid := none, frames := [] }
/-- Packet `x` in the device, with a place in its pipeline. -/
def one (x : Pkt) (f : PipeSt → PipeSt) (d : Dev) : Dev := let d := port 0 d; (d.setPkt x).setPipe 0 (f (d.pipe 0))
def pktIn (x : Pkt) (f : PipeSt → PipeSt) : State := st (one x f)
def waiting : State := pktIn (pkt0 .waiting) fun p => { p with waiting := [0] }
def intake : State := pktIn (pkt0 .intake) fun p => { p with intake := [0] }
def parsing : State := pktIn (pkt0 (.engineParse 0)) fun p => { p with queues := p.queues.put ⟨0, 0, 0⟩ [0] }
def reorder : State := pktIn (pkt0 .reorder) id
def rule0 : RuleEntry := ⟨0, none, false, 1, 3, 0, 0, false⟩
def withRule (w : Nat) (d : Dev) : Dev :=
  let d := sets [(F.TCM_SLICE_CFG_miss_rule, 0, 7), (F.CLS_PORT_CFG_tcam_en, 0, 0)] d
  { d with cls := { d.cls with rules := d.cls.rules.put ⟨7, 0, 0⟩ rule0,
                               entries := [⟨TableId.CLS_ACTION_TBL.num, [3], 0, none, [w, 0, 0, 0]⟩] } }
def classify (w : Nat) : State := st fun d => withRule w (one (pkt0 .classify) (fun p => { p with clsIn := [0] }) d)
def outFrame (x : Pkt) : EFrame :=
  { pkt := some x.id, bytes := x.bytes, port := 0, tc := 0, colour := 0, seg := none, ingress := some x.stamp, ingressPort := 0,
    stepEpoch := 0, enqTs48 := 0, ptpOff := none, ipOff := none, udpOff := none, hist := none, ioam := none, oneStep := .none,
    native := false, compat := none, txRing := none, remote := none }
def egress : State := st fun d =>
  (one { pkt0 .egress with frames := [outFrame (pkt0 .egress)] } id d).setTw .SCH_LEAF_PROFILE 0 0 1 0x80
def late : State := { egress with clk := { egress.clk with sec := 5 } }
def cls (l : List (Fld × Nat × Nat)) (f : ClsSt → ClsSt) : State := st fun d => let d := sets l (port 0 d); { d with cls := f d.cls }
def stage : State := cls [(F.CLS_GEN_STATUS_stage_open, 0, 1)] fun c =>
  { c with staged := some (1, 1), rules := c.rules.put ⟨0, 0, 0⟩ rule0 }
def preparing : State := cls [(F.CLS_GEN_STATUS_preparing, 0, 1)] fun c => { c with staged := some (1, 1) }
def twoLive : State := cls [] fun c => { c with live := [(0, 0), (1, 1)] }
def tcamEntry (i : Nat) : TcamEntry := ⟨3, 0, 1, i, 0, none, 1⟩
def tcam : State := cls [(F.CLS_TBL_SLICES_slices, 0, 1), (F.TCM_SLICE_CFG_hw_holes, 0, 1)] fun c =>
  { c with tcam := (List.range 40).foldl (fun t i => t.put ⟨0, i, 0⟩ (tcamEntry i)) c.tcam }

def img0 : Img := { Img.empty with fpFwd := 573653917187206586268045, fpRev := 573653917187206586268045, rule := 7 }
def rec0 : FlowRec := { recOf [] with fwd := key0, rev := key0, flowClass := 3, timeoutSel := 5, img := img0 }
def entry0 : HEntry :=
  { kind := .record, key := key0, img := img0, birthGen := 0, lock := false, dirty := false, ref := false, pinned := false,
    homeDir := false, aliasAt := none, waiters := [], finSent := (false, false), cls := 0 }
/-- Flow 0 of die 1, whose key is all zeros. -/
def flow0 (d : Dev) : Dev :=
  let f := { d.flw with recs := d.flw.recs.put ⟨1, 0, 0⟩ rec0, fresh := d.flw.fresh.put ⟨1, 0, 0⟩ 1 }
  { d with flw := { f with index := f.index.put ⟨1, 8239742, 0⟩ ⟨1297970784, 0, false⟩ } }
def cmdRings (d : Dev) : Dev := sets [(F.FLW_CMD_RING_log2_size, 0, 4), (F.FLW_CMD_PTR_tail, 0, 1), (F.FLW_CMD_RING_log2_size, 1, 4),
  (F.FLW_CMD_PTR_tail, 1, 1)] (port 0 d)
def inHearth (e : HEntry) (d : Dev) : Dev := { d with flw := { d.flw with hearth := d.flw.hearth.put ⟨130, 3823, 0⟩ (.entry e) } }
def hearth (x : Pkt) (f : FlwSt → FlwSt) (g : Dev → Dev) : State := st fun d =>
  let d := g (cmdRings (withRule 0x500010100 (one x id d))); { d with flw := f d.flw }
def hearthFree : State := hearth (pkt0 .hearth) id id
def hearthHit : State := hearth (pkt0 .hearth) id fun d => inHearth entry0 (flow0 d)
def bankWait : State := hearth { pkt0 .bankWait with hold := some (1, 0) } id id
def miss (r : Bool) : State := hearth { pkt0 .missHold with hold := some (1, 0) } (fun f => { f with misses := [⟨1, key0, [0], r⟩] }) id
def pending : State := hearth (pkt0 .egress) id (inHearth { entry0 with kind := .pending 0 })
def flows : State := hearth (pkt0 .egress) id flow0
def evac (s0 s1 : Nat) : State := st fun d => sets [(F.FLW_HBM_EVAC_state, 0, s0), (F.FLW_HBM_EVAC_state, 1, s1)] (port 0 d)
def banks : State := st fun d =>
  let d := sets [(F.HRT_SPARE_CTRL_spares_free, 0, 2), (F.HRT_SPARE_CTRL_spares_free, 1, 2)] (port 0 d)
  { d with flw := { d.flw with copying := [(255, 0)] } }
def img192 : List Byte := key0 ++ List.replicate 144 0

/-! ### States: engines -/

def parity (w n : Nat) : Nat :=
  (List.range 4).foldl (fun p i => p + ((List.range n).countP (fun j => bitOf w (n * i + j)) % 2) * 2 ^ i) 0
/-- A microword in a control store: 128 bits in two words and the rest with its parity in the third. -/
def store (t : TableId) (inst addr at_ n w : Nat) (d : Dev) : Dev :=
  (((d.setTw t inst addr 3 1).setTw t inst addr 0 (w % 2 ^ 64)).setTw t inst addr 1 (w / 2 ^ 64 % 2 ^ 64)).setTw t inst addr 2
    (w / 2 ^ 128 % 2 ^ at_ + parity w n * 2 ^ at_)
def run0 : Run :=
  { pkt := 0, pipe := 0, opcode := 0, customer := false, limit := 1024, pc := 100, regs := ⟨[]⟩, flags := ⟨false, false, false⟩,
    scratch := List.replicate 256 0, slots := Slots.none, edits := [], counters := [], flowW := ⟨[]⟩, metaW := ⟨[]⟩, resv := [],
    calls := [], lastOk := false, xdrop := false, exhausted := none, startAt := 10 ^ 15, words := 0 }
def engine (x : Pkt) (w : Nat) (f : Run → Run) (g : Dev → Dev) : State := st fun d =>
  let d := g (store .ENG_CSTORE 0 100 32 40 w (cmdRings (withRule 0x500010100 (one x id d))))
  { d with eng := { d.eng with runs := d.eng.runs.put ⟨0, 0, 0⟩ (f run0) } }
def atWork : Pkt := pkt0 (.running 0 0)
def word (w : Nat) : State := engine atWork w id id
def done (r : Run) : Run := { r with slots := { r.slots with aluDone := true, memDone := true } }
def ended (w : Nat) : State := engine atWork w done id
def alu (op : Nat) : State := word (op * 2 ^ 26)
def mem (op space off len : Nat) : State := word (op * 2 ^ 48 + space * 2 ^ 57 + off * 2 ^ 60 + (len - 1) * 2 ^ 72)
def dispatch : State := st fun d =>
  (cmdRings (withRule 0x500010100 (one (pkt0 .dispatch) (fun p => { p with dispatchQ := [0] }) d))).setTw .ENG_DISPATCH 0 0 0 (2 ^ 13 + 100)
def call (u f : Nat) : Call := ⟨4, u, f, [0, 0, 0, 0], none, false⟩
def calls : List Call := [call 0 1, call 0 2, call 0 3, call 1 3, call 2 2, call 6 1, call 7 1, call 1 1, call 1 2, call 2 1, call 3 1,
  call 4 1, call 4 2, call 4 3, call 5 1, call 5 2, call 7 2, call 9 1]
def unitDev (d : Dev) : Dev :=
  let d := sets [(F.NAT_POOL_CFG_count, 0, 1), (F.NAT_POOL_CFG_port_hi, 0, 65535)] d
  let d := (d.setTw .NAT_ADDR_TBL 0 0 0 0xFFFF0A000001).setTw .LBL_SVC_TBL 0 0 2 (2 ^ 31 + 8 * 2 ^ 26)
  let d := (d.setTw .LBL_BACKEND_TBL 0 5 2 (2 ^ 47 + 2 ^ 46)).setTw .LBL_BACKEND_TBL 0 5 0 99
  let d := [56, 173].foldl (fun (d : Dev) i => d.setTw .LBL_SLOT_TBL 0 i 0 (2 ^ 31 + 5)) d
  { d with cls := { d.cls with entries := d.cls.entries ++ [⟨TableId.LBL_NH_TBL.num, [0], 0, none, [0, 77]⟩] } }
def units (x : Pkt) (g : Dev → Dev) : State := engine x 0 (fun r => { r with calls := calls }) fun d => g (unitDev d)
def udpKey : List Byte := Machine.beBytes 16 0xFFFF0A000001 ++ Machine.beBytes 16 0xFFFF0A000002 ++ [0, 80, 0, 81, 17, 0, 0, 0] ++ List.replicate 8 0
def udp : Pkt := { atWork with parse := { parse0 with key := udpKey } }
def units1 : State := units atWork id
def unitsU : State := units udp id
def unitsX : State := units udp fun d => sets [(F.NAT_POOL_CFG_port_lo, 0, 65535)] d
def unitsB : State := units atWork fun d => { d with nat := { d.nat with binds := [⟨0, (pkt0 .hearth).fragKey, 1, 0, false, 281474976710655⟩] } }
def unitsD : State := units { atWork with copy := some { Img.empty with state := 256 } } fun d =>
  (d.setTw .LBL_SVC_TBL 0 0 2 (2 * 2 ^ 54)).setTw .LBL_BACKEND_TBL 0 0 2 0
def answered : State := engine atWork 0 (fun r => { r with calls := [{ call 0 1 with res := some ⟨(0, 0), (0, 0), true⟩, latest := true }] }) id
def overrun : State := engine atWork 0 (fun r => { r with limit := 0 }) id
def checked : State := engine { atWork with mchecks := 2 } 0 id id
def retired : State := st fun d => sets [(F.ENG_ENGINE_RETIRED_retired, 31, 2 ^ 47), (F.GLB_CORE_STATUS_in_service, 0, 1),
  (F.ENG_CLUSTER_STATUS_state, 0, 1)] (port 0 d)

/-! ### States: Sweepers -/

def visit0 : Visit := ⟨0, false, false, false, false, false, false, true, List.replicate 192 0⟩
def ctx0 : SwpCtx := ⟨⟨[]⟩, ⟨false, false, false⟩, 0, List.replicate 192 0, List.replicate 512 0⟩
def sweep0 : Sweep :=
  { next := 0, stop := 100, extra := [], waiting := none, visit := some visit0, since := 0, slow := false, ctx := ctx0, ckpt := ctx0,
    slots := Slots.none, calls := [], lastOk := false, pausedAt := none, mchkAt := 0, words := 0 }
def sweeper (w state : Nat) (x : Sweep) (g : Dev → Dev) : State := st fun d =>
  let d := store .SWP_CSTORE 32 0 0 32 w (sets [(F.SWP_STATUS_state, 32, state)] (flow0 (withRule 0x500010100 (port 0 d))))
  let d := g d
  { d with swp := { d.swp with sweeps := d.swp.sweeps.put ⟨1, 0, 0⟩ x, scanning := d.swp.scanning.setNum ⟨1, 0, 0⟩ 1 } }
def swpWord (w : Nat) : State := sweeper w 0 sweep0 id
def swpEnd (q : Nat) : State := sweeper q 0 { sweep0 with slots := { sweep0.slots with aluDone := true, memDone := true } } id
def swpMem (op space : Nat) : State := swpWord (op * 2 ^ 59 + space * 2 ^ 68 + 7 * 2 ^ 83)
def swpCalls : State := sweeper 0 0 { sweep0 with calls := calls } unitDev
def swpAnswered : State := sweeper 0 0 { sweep0 with calls := [{ call 0 1 with res := some ⟨(0, 0), (0, 0), true⟩, latest := true }] } id
def scan : State := sweeper 0 0 { sweep0 with visit := none } id
def scanned : State := sweeper 0 0 { sweep0 with visit := none, stop := 0 } fun d => { d with swp := { d.swp with sweeps := ⟨[]⟩ } }
def swpDead : State := sweeper 0 2 sweep0 fun d => d.put F.GLB_CORE_STATUS_in_service 0 1
def swpPaused : State := sweeper 0 1 { sweep0 with pausedAt := some 0 } id
def roll (s : Nat) (l : List (Fld × Nat × Nat)) (f : RollSt → RollSt) : State := st fun d =>
  let d := sets ((F.GLB_CORE_STATUS_in_service, 0, 1) :: (F.ENG_ROLL_STATUS_state, 0, s) :: l) (port 0 d)
  { d with roll := f d.roll }
def roll0 : State := roll 0 [(F.ENG_ROLL_CTRL_extents, 0, 1024)] id
def roll0x : State := roll 0 [] id
def roll4 : State := roll 4 [] fun r => { r with left := [(1, 0)], begun := true }
def roll4n : State := roll 4 [] fun r => { r with left := [(1, 0)] }

/-! ### States: buffers and ports -/

def held : State := st fun d => (port 0 d).put F.BPM_HOLD_ack 1 1
def retry (n : Nat) : State := st fun d =>
  let d := (port 0 d).put F.BPM_POOL_CFG_segments 1 n
  { d with bpm := { d.bpm with retries := [⟨0, 255, 1, 62, none, 0⟩] } }
def segs (refs : Nat) (condemned : Bool) : State := st fun d =>
  let d := port 0 d
  { d with bpm := { d.bpm with segs := d.bpm.segs.put ⟨0, 0, 0⟩ ⟨refs, 255, 0, 0, 1, 0, condemned, false⟩ } }
def fifo (l : List (Fld × Nat × Nat)) (x : Fifo) : State := st fun d =>
  let d := sets ((F.FIF_CFG_enable, 1023, 1) :: (F.FIF_TIMER_idle, 1023, 1) :: l) (port 0 d)
  { d with fifos := d.fifos.put ⟨1023, 0, 0⟩ x }
def fifo1 : State := fifo [(F.FIF_PROD_valid, 4095, 1), (F.FIF_PROD_held, 4095, 8)] Fifo.init
def fifo2 : State := fifo [(F.FIF_STATUS_flush_busy, 1023, 1)] { Fifo.init with whole := [⟨0, 1, [⟨0, false⟩]⟩] }
def fifo3 : State := fifo [] { Fifo.init with partialItem := some ⟨0, 1, [⟨0, false⟩]⟩ }
def leaves (d : Dev) : Dev := ((d.setTw (nodeTable 0) 0 0 2 0x800).setTw (nodeTable 1) 0 0 2 0x400).setTw (nodeTable 2) 0 0 2 0x100
def sched (f : SchSt → SchSt) : State := st fun d => let d := leaves ((port 0 d).setTw .SCH_LEAF_PROFILE 0 0 1 0x80); { d with sch := f d.sch }
def queued : State := sched fun s => { s with leaf := s.leaf.put ⟨0, 0, 0⟩ [{ outFrame (pkt0 .egress) with pkt := none }] }
def onWire : State := sched fun s => { s with wire := s.wire.put ⟨0, 0, 0⟩ [⟨{ outFrame (pkt0 .egress) with pkt := none }, State.reset.clk.stamp, 0, false, false⟩] }
def gates : State := sched fun s => { s with gates := s.gates.put ⟨511, 0, 0⟩ ⟨none, some (⟨0, 0, 1000, 1, 0⟩, 0)⟩ }

/-! ### States: twins and groups -/

def toll (p : Nat) : TollInfo := ⟨0, 0, 0, 0, 0, p, 3, false, false, true, false, 0, 0, 2⟩
def twin (l : List (Fld × Nat × Nat)) (p : Peer) (f : TwnSt → TwnSt) : State := st fun d =>
  let d := sets l (port 0 d)
  { d with twn := f { d.twn with peers := d.twn.peers.put ⟨1, 0, 0⟩ p, members := [0, 1, 2], twinPos := 1 } }
def peer1 : Peer := ⟨some (toll 7), true, 0, 0, false⟩
def silent : Peer := ⟨some (toll 7), false, 2, 0, false⟩
def both (t : TwnSt) : TwnSt := { t with up := (t.up.setNum ⟨0, 0, 0⟩ 1).setNum ⟨1, 0, 0⟩ 1 }
def group1 : State := twin [] peer1 id
def group2 : State := twin [(F.PEL_PEER_STATUS_admitted, 1, 1)] silent id
def group6 : State := twin [(F.BOOT_STATUS_phase, 0, 6)] peer1 id
def kin (l : List (Fld × Nat × Nat)) (f : TwnSt → TwnSt) : State :=
  twin ([(F.TWN_STATUS_role, 0, 1), (F.PEL_LINK_STATUS_state, 5, 4)] ++ l) peer1 f
def kin1 : State := kin [(F.TWN_STATUS_state, 0, 2)] fun t => { t with keysAgree := true }
def kin2 : State := kin [(F.TWN_STATUS_state, 0, 2), (F.TWN_KINDLE_STATUS_kstate, 0, 4)] fun t =>
  { t with keysAgree := true, kindleEnd := t.kindleEnd.setNum ⟨1, 0, 0⟩ 1 }
def kin3 : State := kin [(F.TWN_STATUS_state, 0, 2), (F.TWN_CTRL_resync_host, 0, 1)] id
def kin4 : State := kin [(F.TWN_STATUS_state, 0, 3), (F.TWN_STATUS_compat_ok, 0, 1)] fun t => { t with emberLinks := [5], keysAgree := true }
def emberBoth : State := kin [] both
def heldPkts : State := kin [] fun t => both { t with held := [⟨0, 1, 3, 0, 0, 0, 0, []⟩] }
def heldNow : State := { heldPkts with clk := State.reset.clk }
def twinFlow (f : TwnSt → TwnSt) (g : Dev → Dev) : State := st fun d =>
  let d := g (flow0 ((port 0 d).put F.TWN_STATUS_role 0 1)); { d with twn := f d.twn }
def journal : State := twinFlow id id
def journalX : State := twinFlow id fun d => { d with flw := { d.flw with recs := ⟨[]⟩, index := ⟨[]⟩ } }
def applied : State := twinFlow (fun t => { t with applied := (t.applied.setNum ⟨0, 0, 0⟩ 1).setNum ⟨1, 0, 0⟩ 1 }) id
def walk : State := twinFlow id (inHearth { entry0 with img := { img0 with dpF := 1 } })
def dist (l : List (Fld × Nat × Nat)) (f : DistSt → DistSt) : State := st fun d => let d := sets l (port 0 d); { d with dist := f d.dist }
def dist1 : State := dist [(F.PEL_DIST_CFG_accept, 0, 31), (F.PEL_LINK_STATUS_state, 63, 4)] id
def dist2 : State := dist [] fun x => { x with cur := some ⟨List.replicate 32 0, [0, 1, 4], 65535, 0⟩ }
def dist3 : State := dist [] fun x => { x with held := [⟨0, 3, 0, Reg.LBL_HASH_KEY.base, 2 ^ 63, 0⟩] }
def diverged : State := twin [(F.TWN_STATUS_role, 0, 1)] { silent with differAt := 1 } id
def closed : State := cls [(F.CLS_GEN_STATUS_stage_open, 0, 0)] id
def tcamMove : State := st fun _ => { tcam.dev with regs := (tcam.dev.setReg .CLS_TBL_DATA 0 40).regs }

/-! ### Ill-formed commands, one for each check -/

theorem test_wf_bootImageMessage :
    WellFormed (.bootImageMessage 0 0 0 (List.replicate 8192 0)) = true ∧
    WellFormed (.bootImageMessage 0 0 0 (List.replicate 8193 0)) = false := by decide +kernel
theorem test_wf_access :
    WellFormed (.registerWrite 0 0 8 0xFFFFFFFFFF#64) = true ∧ WellFormed (.registerWrite 0 0 4 0x100000000#64) = false ∧
    WellFormed (.secacc true 0 4 0x100000000#64) = false ∧ WellFormed (.regacc true 0 4 0x100000000#64) = false := by
  decide +kernel
theorem test_wf_frameReceive :
    WellFormed (.frameReceive 8 15 0 [] true) = true ∧ WellFormed (.frameReceive 8 16 0 [] true) = false ∧
    WellFormed (.frameReceive 8 7 0 [] true) = false := by decide +kernel
theorem test_wf_macControlFrame : WellFormed (.macControlFrame 0 0 (List.replicate 9 (0, 0))) = false := by decide +kernel
theorem test_wf_cell :
    WellFormed (.pealCellReceive 0 0 ⟨4, 0, 0, []⟩ true) = false ∧ WellFormed (.pealCellReceive 0 0 ⟨3, 2048, 0, []⟩ true) = false ∧
    WellFormed (.pealCellReceive 0 0 ⟨3, 0, 2048, []⟩ true) = false ∧
    WellFormed (.pealCellReceive 0 0 ⟨3, 2047, 2047, []⟩ true) = true := by decide +kernel
theorem test_wf_flowBodies :
    WellFormed (.flowInsert 0 false (List.replicate 191 0)) = false ∧ WellFormed (.flowUpdate 0 (List.replicate 193 0)) = false ∧
    WellFormed (.flowDelete 0 (List.replicate 47 0)) = false ∧ WellFormed (.flowRead 0 0 (List.replicate 49 0)) = false ∧
    WellFormed (.emberInsert 0 0 0 []) = false ∧ WellFormed (.emberHostUpdate 0 0 0 []) = false ∧
    WellFormed (.flowInsert 0 false (List.replicate 192 0)) = true := by decide +kernel
theorem test_wf_stamps :
    WellFormed (.timeResponse 0 0 ⟨2 ^ 48, 0, 0⟩ ⟨0, 0, 0⟩) = false ∧ WellFormed (.timeResponse 0 0 ⟨0, 0, 0⟩ ⟨0, 10 ^ 9, 0⟩) = false ∧
    WellFormed (.timeResponse 0 0 ⟨0, 0, 65536⟩ ⟨0, 0, 0⟩) = false ∧
    WellFormed (.timeResponse 0 0 ⟨2 ^ 48 - 1, 999999999, 65535⟩ ⟨0, 0, 0⟩) = true ∧
    WellFormed (.distWrite64At 0 0 0 0 ⟨0, 10 ^ 9, 0⟩) = false ∧ WellFormed (.txDirect 0 { txd with stamp := ⟨0, 10 ^ 9, 0⟩ }) = false ∧
    WellFormed (.txInject 0 { txd with stamp := ⟨2 ^ 48, 0, 0⟩ }) = false := by decide +kernel
theorem test_wf_ledgerRecord : WellFormed (.ledgerRecord ⟨0, 0, 65536, 0, 0, 0, 0, 0, 0⟩) = false := by decide +kernel
theorem test_wf_toll :
    WellFormed (.tollReceive 0 0 0 (toll 7)) = true ∧ WellFormed (.tollReceive 0 0 0 (toll 16)) = false ∧
    WellFormed (.tollReceive 0 0 0 { toll 7 with role := 3 }) = false ∧
    WellFormed (.tollReceive 0 0 0 { toll 7 with applied1 := 2 ^ 32 }) = false ∧
    WellFormed (.tollReceive 0 0 0 { toll 7 with serial := 2 ^ 64 }) = false ∧
    WellFormed (.tollReceive 0 0 0 { toll 7 with twinState := 8 }) = false := by decide +kernel
theorem test_wf_kindling :
    WellFormed (.kindlingImage 0 0 0 0 (List.replicate 8 0) (0, 0)) = true ∧
    WellFormed (.kindlingImage 0 0 0 2 (List.replicate 383 0) (0, 0)) = false := by decide +kernel
theorem test_wf_digest :
    WellFormed (.digestDiverge 0 [(1, 2, 3)]) = true ∧ WellFormed (.digestDiverge 0 [(2 ^ 32, 2, 3)]) = false ∧
    WellFormed (.digestDiverge 0 [(1, 2, 2 ^ 64)]) = false := by decide +kernel
theorem test_wf_stagingLength :
    WellFormed (.debugToken 0 4096) = true ∧ WellFormed (.debugToken 0 4097) = false ∧ WellFormed (.fuseRequest 0 4097) = false := by
  decide +kernel
theorem test_wf_scrub :
    WellFormed (.scrubRead (.hearth 255 4095 3) 0 true) = true ∧ WellFormed (.scrubRead (.hearth 256 0 0) 0 true) = false ∧
    WellFormed (.scrubRead (.tcam 0 16384) 0 true) = false ∧ WellFormed (.scrubRead (.swpStore 2 0) 0 true) = false := by
  decide +kernel
theorem test_wf_channelLost : WellFormed (.channelLost true 0 0 0 [5, 5]) = false := by decide +kernel

/-! ### The spec's worked examples -/

/-- "Worked example: IPv4 source translation": the SYN's TCP checksum 0x1C46 becomes 0x68AF. -/
theorem test_checksum_source_translation :
    csumUpdate 0x1C46 [100, 64, 3, 17, 0x9C, 0x40] [203, 0, 113, 5, 0x7B, 0x22] = 0x68AF := by decide +kernel
/-- "Worked example: IPv6 load balancing": the checksum 0x5D3A becomes 0x3E58. -/
theorem test_checksum_load_balancing :
    csumUpdate 0x5D3A [0x00, 0x01, 0x00, 0x80, 0x01, 0xBB] [0x00, 0x02, 0x00, 0x21, 0x20, 0xFB] = 0x3E58 := by decide +kernel
/-- "Worked example: a latency across the TS48 wrap": bin 5 of a histogram with s = 6. -/
theorem test_latency_bin : histBin ((0x00000413C000 - 0xFFFFFF008000) % 2 ^ 48) 6 = 5 := by decide +kernel
/-- The boot phase after power-on is 0, the value the register table gives. -/
theorem test_reset_phase : State.reset.dev.fld F.BOOT_STATUS_phase = 0 := by decide +kernel

/-! ### Lemmas the witnesses use -/

theorem cells_absent (l : List (Key × Word)) (k : Key) (h : (l.any (fun x => x.1.a == k.a)) = false) : Cells.find? l k = none := by
  induction l with
  | nil => rfl
  | cons x t ih =>
    obtain ⟨j, v⟩ := x
    simp only [List.any_cons, Bool.or_eq_false_iff, beq_eq_false_iff_ne] at h
    have hj : j ≠ k := fun e => h.1 (by rw [e])
    simp only [Cells.find?, if_neg hj]
    exact ih h.2

theorem windows0 (s : State) (h : (s.dev.regs.cells.any (fun x => x.1.a == Reg.FLW_HBM_CH_STATUS.num)) = false) :
    ∀ ix, s.dev.fld F.FLW_HBM_CH_STATUS_ue_window ix = 0 ∧ s.dev.fld F.FLW_HBM_CH_STATUS_ce_window ix = 0 := by
  intro ix
  have hr : s.dev.reg .FLW_HBM_CH_STATUS ix = Reg.resetOf .FLW_HBM_CH_STATUS ix := by
    simp only [Dev.reg, Tbl.find?]
    rw [cells_absent _ ⟨Reg.FLW_HBM_CH_STATUS.num, ix, 0⟩ h]; rfl
  constructor
  · simp only [Dev.fld, hr]
    exact (by decide +kernel : bitsOf (Reg.resetOf .FLW_HBM_CH_STATUS 0).toNat F.FLW_HBM_CH_STATUS_ue_window.lo
      F.FLW_HBM_CH_STATUS_ue_window.bits = 0)
  · simp only [Dev.fld, hr]
    exact (by decide +kernel : bitsOf (Reg.resetOf .FLW_HBM_CH_STATUS 0).toNat F.FLW_HBM_CH_STATUS_ce_window.lo
      F.FLW_HBM_CH_STATUS_ce_window.bits = 0)

theorem bank130 (d : Dev) (k : List Byte)
    (h : (k == key0 && d.basis 0 == 0 && (d.reg .FLW_BANK_KEY 0 == 0) && (d.reg .FLW_BANK_KEY 1 == 0)) = true) : d.bankOf k = 130 := by
  simp only [Bool.and_eq_true, beq_iff_eq] at h
  obtain ⟨⟨⟨rfl, hb⟩, h0⟩, h1⟩ := h
  have hz : keyZone key0 = 0 := by decide +kernel
  have hp : keySport key0 = keyDport key0 := by decide +kernel
  have ha : d.a8 (addrPart key0 0) = 130 := by
    simp only [Dev.a8, Dev.bankKey, h0, h1]; decide +kernel
  simp only [Dev.bankOf, hz, hb, ha, Dev.keyPorts, hp, Nat.xor_self, Nat.xor_zero]
theorem drop_of (b : BackendNow) (h : (match b with | .drop => true | _ => false) = true) : b = .drop := by
  cases b <;> first | rfl | cases h
theorem keep_of (b : BackendNow) (h : (match b with | .keep none => true | _ => false) = true) : b = .keep none := by
  match b with
  | .keep none => rfl
  | .keep (some _) | .again | .drop => cases h

/-! ### Witnesses -/

theorem witness_StepKeepsClockInRange :
    ∃ s : State, ∃ t : State, s.clk.wf ∧ step s = .next t :=
  ⟨up, _, by unfold Clock.wf; decide +kernel, rfl⟩

theorem witness_RegaccNeedsItsScopeBit :
    (∃ s : State, bitOf (s.dev.fld F.SEC_STATUS_scope) 3 = true) ∧
    (∃ s : State, bitOf (s.dev.fld F.SEC_STATUS_scope) 3 = false) :=
  ⟨⟨lost, by decide +kernel⟩,
    ⟨up, by decide +kernel⟩⟩

theorem witness_SyncTimeoutTakesEmberDown :
    (∃ s : State, ∃ die : Fin 2, s.dev.forwards = true ∧ ∃ h, ∃ rest, s.dev.heldOf die (fun _ => true) = h :: rest ∧ edgesUs
      (min (max (s.dev.fld F.TWN_SYNC_CTRL_timeout_us) 10) 10000) ≤ s.clk.phys - h.since ∧ s.dev.emberUp die = true) ∧
    (∃ s : State, ∃ die : Fin 2, s.dev.forwards = true ∧ ∃ h, ∃ rest, s.dev.heldOf die (fun _ => true) = h :: rest ∧
      s.clk.phys - h.since < edgesUs (min (max (s.dev.fld F.TWN_SYNC_CTRL_timeout_us) 10) 10000)) :=
  ⟨⟨heldPkts, 0, by decide +kernel, _, _, rfl, by decide +kernel, by decide +kernel⟩,
    ⟨heldNow, 0, by decide +kernel, _, _, rfl, by decide +kernel⟩⟩

theorem witness_FailedLaneTakesItsPortDown :
    (∃ s : State, ∃ n : Fin 512, ∃ p : Nat, s.dev.forwards = true ∧ s.dev.pealLane n = false ∧ s.dev.portOfLane n = some p ∧
      s.dev.laneState n = 2 ∧ s.dev.fld F.MAC_PORT_STATUS_link_up p = 1) ∧
    (∃ s : State, ∃ n : Fin 512, ∃ p : Nat, s.dev.forwards = true ∧ s.dev.pealLane n = false ∧ s.dev.portOfLane n = some p ∧
      s.dev.laneState n = 4 ∧ s.dev.fld F.MAC_PORT_CFG_enable p = 1 ∧ (s.dev.lane n).failedAt + edgesMs 1000 ≤ s.clk.phys) ∧
    (∃ s : State, ∃ n : Fin 512, ∃ p : Nat, s.dev.forwards = true ∧ s.dev.pealLane n = false ∧ s.dev.portOfLane n = some p ∧
      (s.dev.laneState n ≠ 4 ∨ s.dev.fld F.MAC_PORT_CFG_enable p = 0 ∨ s.clk.phys < (s.dev.lane n).failedAt + edgesMs 1000)) :=
  ⟨⟨mac1, 511, _, by decide +kernel, by decide +kernel, rfl, by decide +kernel, by decide +kernel⟩,
    ⟨mac3, 511, _, by decide +kernel, by decide +kernel, rfl, by decide +kernel, by decide +kernel, by decide +kernel⟩,
    ⟨mac1, 511, _, by decide +kernel, by decide +kernel, rfl, by decide +kernel⟩⟩

theorem witness_SdtIsReadOnly :
    (∃ addr : BitVec 27, (addr.toNat < 0x80 ∨ 0x4000000 ≤ addr.toNat ∧ addr.toNat < 0x4400000) ∧ ∃ size : Fin 16, accessOk
      addr.toNat size = true) ∧
    (∃ addr : BitVec 27, (addr.toNat < 0x80 ∨ 0x4000000 ≤ addr.toNat ∧ addr.toNat < 0x4400000) ∧ addr.toNat % 4 = 0) :=
  ⟨⟨0, by decide +kernel, 4, by decide +kernel⟩,
    ⟨0, by decide +kernel, by decide +kernel⟩⟩

theorem witness_BootRomAndLinks :
    (∃ s : State, s.dev.fld F.BOOT_STATUS_phase = 0) ∧
    (∃ s : State, s.dev.fld F.BOOT_STATUS_phase = 1 ∧ s.dev.boot.published = false ∧ s.dev.fld F.BOOT_STRAPS_boot_src = 0 ∧
      s.dev.fld F.BOOT_STRAPS_board_pos = 0) ∧
    (∃ s : State, s.dev.fld F.BOOT_STATUS_phase = 1 ∧ s.dev.boot.published = true ∧ s.dev.boot.nvmDone = false ∧ s.dev.fld
      F.BOOT_STRAPS_board_pos = 0) ∧
    (∃ s : State, s.dev.fld F.BOOT_STATUS_phase = 1 ∧ s.dev.boot.published = true ∧ s.dev.boot.full = false ∧ s.dev.fld
      F.BOOT_STRAPS_board_pos ≠ 0 ∧ s.dev.boot.publishedAt + edgesMs 2000 ≤ s.clk.phys) ∧
    (∃ s : State, ∃ g : Fin 64, s.dev.boot.published = true ∧ g.val ∈ s.dev.bootGroups ∧ s.dev.fld F.BOOT_STATUS_phase < 7 ∧
      s.dev.linkState g ≠ 6 ∧ (s.dev.boardPos ≠ 0 ∨ s.dev.boot.accepted = false ∧ s.dev.boot.fw = [])) ∧
    (∃ s : State, s.dev.boardPos ≠ 0 ∧ s.dev.linkState 63 = 6 ∧ s.dev.fld F.BOOT_STATUS_phase = 1) ∧
    (∃ s : State, ∃ offset : BitVec 25, s.dev.boardPos ≠ 0 ∧ s.dev.linkState 63 = 6 ∧ s.dev.fld F.BOOT_STATUS_phase = 1 ∧ 64
      * offset.toNat = s.dev.boot.image.length ∧ offset ≠ 0) ∧
    (∃ s : State, s.dev.boot.published = true ∧ s.dev.boot.hbmDone = false ∧ s.dev.fld F.BOOT_STATUS_phase < 6) ∧
    (∃ s : State, ∃ lane : Fin 512, s.dev.forwards = true ∧ s.dev.laneState lane = 1 ∧ s.dev.pealLane lane = false ∧
      s.dev.emberUp 0 = false ∧ s.dev.emberUp 1 = false) :=
  ⟨⟨State.reset, by decide +kernel⟩,
    ⟨boot1, by decide +kernel, by decide +kernel, by decide +kernel, by decide +kernel⟩,
    ⟨boot1p, by decide +kernel, by decide +kernel, by decide +kernel, by decide +kernel⟩,
    ⟨boot1m, by decide +kernel, by decide +kernel, by decide +kernel, by decide +kernel, by decide +kernel⟩,
    ⟨boot1p, 63, by decide +kernel, by decide +kernel, by decide +kernel, by decide +kernel, by decide +kernel⟩,
    ⟨boot1m, by decide +kernel, by decide +kernel, by decide +kernel⟩,
    ⟨boot1m, 1, by decide +kernel, by decide +kernel, by decide +kernel, by decide +kernel, by decide +kernel⟩,
    ⟨boot1p, by decide +kernel, by decide +kernel, by decide +kernel⟩,
    ⟨boot7, 511, by decide +kernel, by decide +kernel, by decide +kernel, by decide +kernel, by decide +kernel⟩⟩

theorem witness_ImagesAndBootWindow :
    (∃ s : State, ∃ n : BitVec 11, s.dev.boot.fetch = none ∧ s.dev.fld F.BOOT_STATUS_phase = 4 ∧ 1 ≤ n.toNat ∧ n.toNat ≤
      1024) ∧
    (∃ s : State, ∃ n : BitVec 11, s.dev.boot.fetch = none ∧ s.dev.fld F.BOOT_STATUS_phase = 8 ∧ 1 ≤ n.toNat ∧ n.toNat ≤
      1024) ∧
    (∃ s : State, s.dev.fld F.BOOT_STATUS_phase = 2 ∧ s.dev.boot.full = true) ∧
    (∃ s : State, s.dev.fld F.BOOT_STATUS_phase = 8 ∧ s.dev.boot.fetch = some 1) ∧
    (∃ s : State, s.dev.fld F.BOOT_STATUS_phase = 5 ∧ s.dev.boot.fetch = some 0) ∧
    (∃ s : State, s.dev.fld F.BOOT_STATUS_phase = 3 ∧ ownSections s.dev.boot.image s.dev.boardPos = []) ∧
    (∃ s : State, ∃ t, s.dev.forwards = true ∧ s.dev.fld F.BOOT_STATUS_phase = 4 ∧ s.dev.boot.windowAt = some t ∧
      s.dev.boot.expired = false ∧ t + edgesMs 60000 ≤ s.clk.phys ∧ s.dev.net.configured = [] ∧ s.dev.emberUp 0 = false ∧
      s.dev.emberUp 1 = false) ∧
    (∃ s : State, ∃ x, s.dev.fld F.BOOT_STATUS_phase = 6 ∧ s.dev.cls.staged = some x ∧ s.dev.net.configured = [] ∧ (∀ g ∈
      s.dev.bootGroups, s.dev.linkState g ≠ 6) ∧ s.dev.fld F.TWN_STATUS_role = 0 ∧ s.dev.twn.members = []) ∧
    (∃ s : State, s.dev.fld F.BOOT_STATUS_phase = 7 ∧ s.dev.twn.formStart + edgesMs 400 ≤ s.clk.phys ∧ s.dev.twn.formed =
      false ∧ s.dev.fld F.TWN_STATUS_role = 0) :=
  ⟨⟨boot4, 1, by decide +kernel, by decide +kernel, by decide +kernel, by decide +kernel⟩,
    ⟨boot8, 1, by decide +kernel, by decide +kernel, by decide +kernel, by decide +kernel⟩,
    ⟨boot2, by decide +kernel, by decide +kernel⟩,
    ⟨boot8f, by decide +kernel, by decide +kernel⟩,
    ⟨boot5, by decide +kernel, by decide +kernel⟩,
    ⟨boot3, by decide +kernel, by decide +kernel⟩,
    ⟨boot4, _, by decide +kernel, by decide +kernel, rfl, by decide +kernel, by decide +kernel, by decide +kernel, by decide +kernel, by decide +kernel⟩,
    ⟨boot6, _, by decide +kernel, rfl, by decide +kernel, by decide +kernel, by decide +kernel, by decide +kernel⟩,
    ⟨boot7, by decide +kernel, by decide +kernel, by decide +kernel, by decide +kernel⟩⟩

theorem witness_HostRings :
    (∃ s : State, ∃ r : Fin 2048, ∃ bufs : List (BitVec 64), s.dev.fifos = ⟨[]⟩ ∧ bufs.length ≤ s.dev.rxSize r) ∧
    (∃ s : State, ∃ r : Fin 2048, ∃ slot, s.dev.txNext r = some slot ∧ ∃ x : TxDesc, s.dev.txValid x = true ∧
      let sg := s.dev.txSegment s.clk r x.port x.frame.length
      ∃ h, sg.2 = some h ∧
      let leaf := sg.1.leafOf x.port x.tc 0
      let die := dieOf x.port
      (sg.1.leafPath die leaf).2.2 = x.port.val % 256 ∧ sg.1.profile die leaf 1 7 1 = 1 ∧ sg.1.profile die leaf 1 6 1 ≠ 1) :=
  ⟨⟨host1, 3, [0], by decide +kernel, by decide +kernel⟩,
    ⟨host1, 3, _, rfl, txd, by decide +kernel, _, rfl, by decide +kernel, by decide +kernel, by decide +kernel⟩⟩

theorem witness_HostInterruptsEventsAndPcie :
    (∃ s : State, ∃ n : Fin 2048, ∃ kind : Fin 3, s.dev.msix.waiting.contains (kind.val, n.val) = true ∧ s.dev.itrPassed
      s.clk kind n = true) ∧
    (∃ s : State, ∃ n : Fin 2048, s.dev.rxLive n = true) ∧
    (∃ s : State, ∃ n : Fin 2048, ∃ slot, s.dev.txNext n = some slot) ∧
    (∃ s : State, ∃ k : Fin 8, s.dev.fld F.EVT_RING_CFG_enable k = 0 ∧ 6 ≤ s.dev.fld F.EVT_RING_CFG_log2_size k ∧ s.dev.fld
      F.EVT_RING_CFG_log2_size k ≤ 16) ∧
    (∃ s : State, s.dev.boot.published = true ∧ s.dev.host.linkUp = false) ∧
    (∃ s : State, s.dev.host.d3hot = false) ∧
    (∃ s : State, s.dev.host.d3hot = true) :=
  ⟨⟨host2, 3, 2, by decide +kernel, by decide +kernel⟩,
    ⟨host1, 3, by decide +kernel⟩,
    ⟨host1, 3, _, rfl⟩,
    ⟨host1, 3, by decide +kernel, by decide +kernel, by decide +kernel⟩,
    ⟨host2, by decide +kernel, by decide +kernel⟩,
    ⟨host1, by decide +kernel⟩,
    ⟨host2, by decide +kernel⟩⟩

theorem witness_HostPresenceAndModes :
    (∃ s : State, s.dev.boot.fetch = none ∧ s.dev.host.move = none) ∧
    (∃ s : State, s.dev.host.linkUp = true ∧ s.dev.boot.fetch = none) ∧
    (∃ s : State, s.dev.fld F.BOOT_STATUS_phase = 7 ∧ s.dev.fld F.HST_HOSTLOSS_CTRL_absent = 0 ∧ s.dev.hostGone s.clk = true
      ∧ (∀ n < 9, s.dev.hostMode n = false)) ∧
    (∃ s : State, s.dev.fld F.HST_HOSTLOSS_CTRL_absent = 1 ∧ s.dev.host.linkUp = true) ∧
    (∃ s : State, s.dev.boot.retainedHash = sha512 s.dev.boot.retained) ∧
    (∃ s : State, ∃ n : Fin 16, ∃ host : Bool, s.dev.fld F.HST_MODE_STATUS_busy = 0 ∧ s.dev.swapBusy = false ∧
      s.dev.moveRefusal n host = 0 ∧ s.dev.hostMode n ≠ host) ∧
    (∃ s : State, ∃ n : Fin 16, ∃ host : Bool, s.dev.fld F.HST_MODE_STATUS_busy = 0 ∧ s.dev.swapBusy = false ∧
      s.dev.moveRefusal n host = 0 ∧ s.dev.hostMode n = host) ∧
    (∃ s : State, ∃ n : Nat, ∃ host, n < 9 ∧ s.dev.host.move = some (n, host) ∧ s.dev.fld F.GLB_CORE_STATUS_in_service ≠ 0 ∧
      s.dev.fld F.HST_HOSTLOSS_CTRL_absent = 0) :=
  ⟨⟨host5, by decide +kernel, by decide +kernel⟩,
    ⟨host5, by decide +kernel, by decide +kernel⟩,
    ⟨host5, by decide +kernel, by decide +kernel, by decide +kernel, by decide +kernel⟩,
    ⟨host4, by decide +kernel, by decide +kernel⟩,
    ⟨host5, by decide +kernel⟩,
    ⟨host5, 8, true, by decide +kernel, by decide +kernel, by decide +kernel, by decide +kernel⟩,
    ⟨host5, 8, false, by decide +kernel, by decide +kernel, by decide +kernel, by decide +kernel⟩,
    ⟨host2, 7, _, by decide +kernel, rfl, by decide +kernel, by decide +kernel⟩⟩

theorem witness_RegisterReadsAndWrites :
    ∃ s : State, s.dev.emberUp 0 = false ∧ s.dev.emberUp 1 = false :=
  ⟨up, by decide +kernel, by decide +kernel⟩

theorem witness_HoldAndReferenceClock :
    (∃ s : State, ∃ b : Fin 10, ∃ ix : Fin 32, s.dev.fld ⟨holdReg b, 1, 1⟩ ix = 0) ∧
    (∃ s : State, ∃ b : Fin 10, ∃ ix : Fin 32, s.dev.fld ⟨holdReg b, 1, 1⟩ ix = 1 ∧ s.dev.emberUp ix = false ∧
      s.dev.acc.holdAck.num (holdReg b).num ix + edgesUs 1 ≤ s.clk.phys + 1) ∧
    (∃ s : State, s.dev.fld F.CLK_REF_STATUS_lost = 0) ∧
    (∃ s : State, s.dev.fld F.CLK_REF_STATUS_lost = 1) :=
  ⟨⟨State.reset, 9, 9, by decide +kernel⟩,
    ⟨lost, 9, 0, by decide +kernel, by decide +kernel, by decide +kernel⟩,
    ⟨State.reset, by decide +kernel⟩,
    ⟨lost, by decide +kernel⟩⟩

theorem witness_FrameReceiveMakesDescriptor :
    (∃ s : State, ∃ p : Fin 512, ∃ bs : List Byte, s.dev.forwards = true ∧ s.dev.net.configured.contains p.val = true ∧
      s.dev.cls.live ≠ [] ∧ s.dev.net.r75 = false ∧ s.dev.fld F.TWN_STATUS_state ≠ 2 ∧ s.dev.fld F.MAC_PORT_CFG_enable p = 1
      ∧ s.dev.fld F.MAC_PORT_STATUS_link_up p = 1 ∧ bs.length + 4 < 64) ∧
    (∃ s : State, ∃ p : Fin 512, ∃ bs : List Byte, s.dev.forwards = true ∧ s.dev.net.configured.contains p.val = true ∧
      s.dev.cls.live ≠ [] ∧ s.dev.net.r75 = false ∧ s.dev.fld F.TWN_STATUS_state ≠ 2 ∧ s.dev.fld F.MAC_PORT_CFG_enable p = 1
      ∧ s.dev.fld F.MAC_PORT_STATUS_link_up p = 1 ∧ 64 ≤ bs.length + 4 ∧ bs.length + 4 ≤ 2048 ∧ bs.length + 4 ≤
      s.dev.maxFrame p) ∧
    (∃ s : State, ∃ p : Fin 512, ∃ bs : List Byte, s.dev.forwards = true ∧ s.dev.net.configured.contains p.val = true ∧
      s.dev.cls.live ≠ [] ∧ s.dev.net.r75 = false ∧ s.dev.fld F.TWN_STATUS_state ≠ 2 ∧ s.dev.fld F.MAC_PORT_CFG_enable p = 1
      ∧ s.dev.fld F.MAC_PORT_STATUS_link_up p = 1 ∧ 64 ≤ bs.length + 4 ∧ bs.length + 4 ≤ s.dev.maxFrame p ∧ etherType bs ≠
      0x8808 ∧
      let d0 := s.dev.bwCount p (bs.length + 4) false
      let i := pipeOf p % 16
      let q := d0.ingressPrio (dieOf p) i bs
      let k := poolOf (bs.length + 4)
      let r1 := d0.admitFrame s.clk p q k
      let r2 := r1.1.segRequest s.clk (dieOf p) i k (some (i, q))
      r1.2 = true ∧ ∃ h, r2.2 = .granted h) :=
  ⟨⟨st (port 511), 511, [], by decide +kernel, by decide +kernel, by decide +kernel, by decide +kernel, by decide +kernel, by decide +kernel, by decide +kernel, by decide +kernel⟩,
    ⟨st (port 511), 511, frame60, by decide +kernel, by decide +kernel, by decide +kernel, by decide +kernel, by decide +kernel, by decide +kernel, by decide +kernel, by decide +kernel, by decide +kernel, by decide +kernel⟩,
    ⟨st (port 511), 511, frame60, by decide +kernel, by decide +kernel, by decide +kernel, by decide +kernel, by decide +kernel, by decide +kernel, by decide +kernel, by decide +kernel, by decide +kernel, by decide +kernel, by decide +kernel, _, rfl⟩⟩

theorem witness_PauseAndEthernetLanes :
    (∃ s : State, ∃ p : Fin 512, ∃ q : Fin 8, s.dev.forwards = true ∧ ∃ t : BitVec 16, s.dev.fld F.MAC_PORT_CFG_fc_mode p =
      2 ∧ bitOf (s.dev.fld F.MAC_PFC_CTRL_rx_prio_enable p) q = true ∧ t ≠ 0) ∧
    (∃ s : State, ∃ p : Fin 512, s.dev.forwards = true ∧ s.dev.fld F.MAC_PORT_CFG_fc_mode p = 0) ∧
    (∃ s : State, ∃ p : Fin 512, ∃ q : Fin 8, s.dev.forwards = true ∧ s.dev.net.rxPause.num p q ≠ 0 ∧ s.dev.net.rxPause.num
      p q ≤ s.clk.phys + 1) ∧
    (∃ s : State, ∃ p : Fin 512, s.dev.forwards = true ∧ s.dev.fld F.MAC_PORT_STATUS_pfc_tx p ≠ 0 ∧ s.dev.fld
      F.MAC_PORT_STATUS_link_up p = 1 ∧ s.dev.fld F.MAC_PORT_CFG_fc_mode p = 2 ∧ s.dev.net.pfcSent.num p ≠ 0 ∧
      s.dev.net.pfcSent.num p + s.dev.pauseEdges p (s.dev.quanta p / 2) ≤ s.clk.phys + 1) ∧
    (∃ s : State, ∃ n : Fin 512, s.dev.forwards = true ∧ s.dev.pealLane n = false ∧ s.dev.emberUp 0 = false ∧ s.dev.emberUp
      1 = false ∧ s.dev.net.configured.contains n.val = true ∧ s.dev.fld F.MAC_PORT_CFG_enable n = 1 ∧ s.dev.fld
      F.MAC_PORT_STATUS_link_up n = 1) ∧
    (∃ s : State, ∃ n : Fin 512, s.dev.forwards = true ∧ s.dev.pealLane n = false ∧ s.dev.emberUp 0 = false ∧ s.dev.emberUp
      1 = false ∧ s.dev.laneState n = 2) ∧
    (∃ s : State, ∃ n : Fin 512, s.dev.forwards = true ∧ s.dev.pealLane n = false ∧ s.dev.emberUp 0 = false ∧ s.dev.emberUp
      1 = false ∧ s.dev.laneState n = 3 ∧ (s.dev.lane n).recalFrom = 2) ∧
    (∃ s : State, ∃ n : Fin 512, s.dev.forwards = true ∧ s.dev.pealLane n = false ∧ s.dev.emberUp 0 = false ∧ s.dev.emberUp
      1 = false ∧ ∃ sym : BitVec 32, sym.toNat ≤ s.dev.fld F.LANE_DEGRADE_CTRL_symbols n) ∧
    (∃ s : State, ∃ n : Fin 512, s.dev.forwards = true ∧ s.dev.pealLane n = false ∧ s.dev.emberUp 0 = false ∧ s.dev.emberUp
      1 = false ∧ ∃ sym : BitVec 32, s.dev.fld F.LANE_DEGRADE_CTRL_symbols n < sym.toNat ∧ s.dev.fld
      F.LANE_DEGRADE_CTRL_fail_windows n = 0) :=
  ⟨⟨mac1, 511, 7, by decide +kernel, 511, by decide +kernel, by decide +kernel, by decide +kernel⟩,
    ⟨mac1, 7, by decide +kernel, by decide +kernel⟩,
    ⟨mac1, 511, 7, by decide +kernel, by decide +kernel, by decide +kernel⟩,
    ⟨mac1, 511, by decide +kernel, by decide +kernel, by decide +kernel, by decide +kernel, by decide +kernel, by decide +kernel⟩,
    ⟨mac1, 511, by decide +kernel, by decide +kernel, by decide +kernel, by decide +kernel, by decide +kernel, by decide +kernel, by decide +kernel⟩,
    ⟨mac1, 511, by decide +kernel, by decide +kernel, by decide +kernel, by decide +kernel, by decide +kernel⟩,
    ⟨mac2, 511, by decide +kernel, by decide +kernel, by decide +kernel, by decide +kernel, by decide +kernel, by decide +kernel⟩,
    ⟨mac1, 511, by decide +kernel, by decide +kernel, by decide +kernel, by decide +kernel, 511, by decide +kernel⟩,
    ⟨mac4, 511, by decide +kernel, by decide +kernel, by decide +kernel, by decide +kernel, 511, by decide +kernel, by decide +kernel⟩⟩

theorem witness_PealCellsAndRemoteFrames :
    (∃ s : State, ∃ g : Fin 64, s.dev.forwards = true ∧ s.dev.emberUp 0 = false ∧ s.dev.emberUp 1 = false ∧ s.dev.linkState
      g ≠ 0) ∧
    (∃ s : State, ∃ g : Fin 64, s.dev.forwards = true ∧ s.dev.emberUp 0 = false ∧ s.dev.emberUp 1 = false ∧ ∃ lane : Fin 8,
      ∃ cell : Cell, ∃ m : PealMsg, s.dev.linkState g ≠ 0 ∧ (s.dev.link g).laneSet = none ∧ (s.dev.link g).newEpoch = none ∧
      (s.dev.link g).waiting = [] ∧ nextLane (s.dev.link g).rxMask (s.dev.link g).nextRx = lane ∧ cell.seq = (s.dev.link
      g).rxSeq.num lane ∧ cell.msgs = [m] ∧ m.reserved = false ∧ m.part = 0) ∧
    (∃ s : State, ∃ g : Fin 64, s.dev.forwards = true ∧ s.dev.emberUp 0 = false ∧ s.dev.emberUp 1 = false ∧ ∃ r, (s.dev.link
      g).retained = [r] ∧ s.dev.linkState g ≠ 6 ∧ r.endedAt + edgesUs 2 ≤ s.clk.phys) ∧
    (∃ s : State, ∃ g : Fin 64, s.dev.forwards = true ∧ s.dev.emberUp 0 = false ∧ s.dev.emberUp 1 = false ∧ s.dev.linkUp g =
      true) ∧
    (∃ s : State, ∃ g : Fin 64, s.dev.forwards = true ∧ s.dev.emberUp 0 = false ∧ s.dev.emberUp 1 = false ∧ ∃ mask : BitVec
      8, ∃ seq : BitVec 11, (s.dev.link g).passed (nextLane mask.toNat 0) seq.toNat = true) ∧
    (∃ s : State, ∃ g : Fin 64, s.dev.forwards = true ∧ s.dev.emberUp 0 = false ∧ s.dev.emberUp 1 = false ∧ ∃ mask : BitVec
      8, ∃ seq : BitVec 11, (s.dev.link g).passed (nextLane mask.toNat 0) seq.toNat = false) ∧
    (∃ s : State, ∃ g : Fin 64, s.dev.forwards = true ∧ s.dev.emberUp 0 = false ∧ s.dev.emberUp 1 = false ∧ ∃ seq : BitVec
      11,
      let low := nextLane (s.dev.fld F.PEL_GROUP_CFG_lane_mask g) 0
      (s.dev.link g).passed low seq.toNat = true) ∧
    (∃ s : State, ∃ g : Fin 64, s.dev.forwards = true ∧ s.dev.emberUp 0 = false ∧ s.dev.emberUp 1 = false ∧ ∃ seq : BitVec
      11,
      let low := nextLane (s.dev.fld F.PEL_GROUP_CFG_lane_mask g) 0
      (s.dev.link g).passed low seq.toNat = false) ∧
    (∃ s : State, ∃ g : Fin 64, ∃ port : Fin 512, ∃ tc : Fin 8, ∃ bs : List Byte, s.dev.forwards = true ∧
      let d0 := s.dev.takeInbox g 0
      let die := dieOf (8 * g)
      let i := pipeOf (8 * g) % 16
      let k := poolOf (bs.length + 4)
      let q := d0.ingressPrio die i bs
      let r := d0.segRequest s.clk die i k (some (i, q))
      let leaf := r.1.leafOf port tc 0
      d0.chargeOf die i q + poolUnits k ≤ d0.fld F.BPM_PRIO_CFG_max (prioIx die i q) ∧ ∃ h, r.2 = .granted h ∧ (r.1.leafPath
      (dieOf port) leaf).2.2 = port % 256 ∧ r.1.profile (dieOf port) leaf 1 7 1 = 1 ∧ r.1.profile (dieOf port) leaf 1 6 1 ≠
      1) :=
  ⟨⟨peal4, 63, by decide +kernel, by decide +kernel, by decide +kernel, by decide +kernel⟩,
    ⟨peal4, 63, by decide +kernel, by decide +kernel, by decide +kernel, 0, cell1, _, by decide +kernel, by decide +kernel, by decide +kernel, by decide +kernel, by decide +kernel, by decide +kernel, rfl, by decide +kernel, by decide +kernel⟩,
    ⟨peal4r, 63, by decide +kernel, by decide +kernel, by decide +kernel, _, rfl, by decide +kernel, by decide +kernel⟩,
    ⟨peal4, 63, by decide +kernel, by decide +kernel, by decide +kernel, by decide +kernel⟩,
    ⟨peal4, 63, by decide +kernel, by decide +kernel, by decide +kernel, 63, 2047, by decide +kernel⟩,
    ⟨peal4, 63, by decide +kernel, by decide +kernel, by decide +kernel, 63, 63, by decide +kernel⟩,
    ⟨peal4, 63, by decide +kernel, by decide +kernel, by decide +kernel, 2047, by decide +kernel⟩,
    ⟨peal4, 63, by decide +kernel, by decide +kernel, by decide +kernel, 63, by decide +kernel⟩,
    ⟨remote, 63, 0, 0, frame60, by decide +kernel, by decide +kernel, _, rfl, by decide +kernel, by decide +kernel, by decide +kernel⟩⟩

theorem witness_LinkKeying :
    (∃ s : State, ∃ g : Fin 64, s.dev.forwards = true ∧ s.dev.emberUp 0 = false ∧ s.dev.emberUp 1 = false ∧ ∃ peer : BitVec
      64, ∃ m : List Byte, s.dev.keyable g = true ∧ (s.dev.link g).keying = none ∧ peer.toNat ≤ s.dev.fuse.serial.toNat ∧
      m.length = 1060) ∧
    (∃ s : State, ∃ g : Fin 64, s.dev.forwards = true ∧ s.dev.emberUp 0 = false ∧ s.dev.emberUp 1 = false ∧ ∃ m : List Byte,
      ∃ k, (s.dev.link g).keying = some k ∧ s.dev.keyable g = true ∧ k.initiator = true ∧ k.failedAt = none ∧ m.length =
      2084) ∧
    (∃ s : State, ∃ g : Fin 64, s.dev.forwards = true ∧ s.dev.emberUp 0 = false ∧ s.dev.emberUp 1 = false ∧ ∃ m : List Byte,
      ∃ k, (s.dev.link g).keying = some k ∧ s.dev.keyable g = true ∧ k.initiator = false ∧ k.failedAt = none ∧ m.length =
      1024) ∧
    (∃ s : State, ∃ g : Fin 64, s.dev.forwards = true ∧ s.dev.emberUp 0 = false ∧ s.dev.emberUp 1 = false ∧ ∃ k, (s.dev.link
      g).keying = some k ∧ ∃ t, k.failedAt = some t ∧ t + edgesMs 100 ≤ s.clk.phys) ∧
    (∃ s : State, ∃ g : Fin 64, s.dev.forwards = true ∧ s.dev.emberUp 0 = false ∧ s.dev.emberUp 1 = false ∧ ∃ m : List Byte,
      s.dev.keyable g = true ∧ (s.dev.link g).keying = none ∧ m.length ≠ 1060) :=
  ⟨⟨peal3, 63, by decide +kernel, by decide +kernel, by decide +kernel, 0, List.replicate 1060 0, by decide +kernel, by decide +kernel, Nat.zero_le _, by decide +kernel⟩,
    ⟨keyI, 63, by decide +kernel, by decide +kernel, by decide +kernel, List.replicate 2084 0, _, rfl, by decide +kernel, by decide +kernel, by decide +kernel, by decide +kernel⟩,
    ⟨keyR, 63, by decide +kernel, by decide +kernel, by decide +kernel, List.replicate 1024 0, _, rfl, by decide +kernel, by decide +kernel, by decide +kernel, by decide +kernel⟩,
    ⟨keyF, 63, by decide +kernel, by decide +kernel, by decide +kernel, _, rfl, _, rfl, by decide +kernel⟩,
    ⟨peal3, 63, by decide +kernel, by decide +kernel, by decide +kernel, List.replicate 2084 0, by decide +kernel, by decide +kernel, by decide +kernel⟩⟩

theorem witness_IntakeParseAndReorder :
    (∃ s : State, ∃ p : Fin 32, s.dev.forwards = true ∧ ∃ x, ∃ s1, s.dev.nextFrame p = (some x, s1) ∧ ∃ g, ∃ sl,
      s.dev.cls.live.getLast? = some (g, sl) ∧ s.dev.net.shut = false ∧ (s.dev.pipe p).side = [] ∧ x.arrival ≠ .recirc ∧
      x.arrival ≠ .heldRelease ∧ x.txRing = none ∧ (s.dev.pipe p).intake.length < 4096) ∧
    (∃ s : State, ∃ p : Fin 32, s.dev.forwards = true ∧ ∃ id, ∃ rest, (s.dev.pipe p).intake = id :: rest ∧ ∃ e,
      s.dev.nextEngine p none = some e ∧ ∃ x, s.dev.pkt id = some x ∧ s.dev.fld F.PRS_HOLD_ack p = 0) ∧
    (∃ s : State, ∃ p : Fin 32, ∃ e : Fin 12, s.dev.forwards = true ∧ ∃ id, ∃ rest, (s.dev.pipe p).queue e = id :: rest ∧ ∃
      x, s.dev.pkt id = some x ∧ x.id = id ∧ bitOf (s.dev.fld F.PRS_ENGINE_CTRL_retire p) e = false ∧
      let r := s.dev.parseWindow x.slot x.startState x.port x.bytes
      r.has .depth = false ∧ r.has .lenConflict = false) ∧
    (∃ s : State, ∃ p : Fin 32, s.dev.forwards = true ∧ ∃ x, s.dev.pkts.vals.find? (fun x => x.pipe == p.val && x.loc ==
      .reorder && x.seq == (s.dev.pipe p).releaseSeq) = some x ∧ (s.dev.pipe p).gone = [] ∧ (s.dev.pipe p).clsIn.length <
      32) ∧
    (∃ s : State, ∃ p : Fin 32, ∃ e : Fin 12, s.dev.forwards = true ∧ bitOf (s.dev.fld F.PRS_ENGINE_CTRL_retired p) e =
      false) ∧
    (∃ s : State, ∃ p : Fin 32, ∃ e : Fin 12, s.dev.forwards = true ∧ s.dev.fld F.PRS_ENGINE_CTRL_retired p = 0 ∧ s.dev.fld
      F.PRS_ENGINE_CTRL_retire p = 0 ∧ (s.dev.pipe p).queue e ≠ []) ∧
    (∃ s : State, ∃ p : Fin 32, ∃ e : Fin 12, s.dev.forwards = true ∧ s.dev.fld F.PRS_ENGINE_CTRL_retired p = 0 ∧ s.dev.fld
      F.PRS_ENGINE_CTRL_retire p = 0 ∧ (s.dev.pipe p).queue e = []) :=
  ⟨⟨waiting, 0, by decide +kernel, _, _, rfl, _, _, rfl, by decide +kernel, by decide +kernel, by decide +kernel, by decide +kernel, by decide +kernel, by decide +kernel⟩,
    ⟨intake, 0, by decide +kernel, _, _, rfl, _, rfl, _, rfl, by decide +kernel⟩,
    ⟨parsing, 0, 0, by decide +kernel, _, _, rfl, _, rfl, by decide +kernel, by decide +kernel, by decide +kernel, by decide +kernel⟩,
    ⟨reorder, 0, by decide +kernel, _, rfl, by decide +kernel, by decide +kernel⟩,
    ⟨waiting, 0, 0, by decide +kernel, by decide +kernel⟩,
    ⟨parsing, 0, 0, by decide +kernel, by decide +kernel, by decide +kernel, by decide +kernel⟩,
    ⟨waiting, 0, 0, by decide +kernel, by decide +kernel, by decide +kernel, by decide +kernel⟩⟩

theorem witness_TableOperations :
    (∃ s : State, ∃ index : BitVec 32, s.dev.forwards = true ∧ s.dev.fld F.CLS_GEN_STATUS_stage_open = 1 ∧ index.toNat <
      0xFFFFF ∧ s.dev.cls.rules.find? ⟨index.toNat, 0, 0⟩ = none) ∧
    (∃ s : State, ∃ index : BitVec 32, s.dev.forwards = true ∧ ∃ r, s.dev.fld F.CLS_GEN_STATUS_stage_open = 1 ∧ index.toNat
      < 0xFFFFF ∧ s.dev.ruleAt index.toNat s.dev.stagedGen = some r ∧ r.birth ≠ s.dev.stagedGen) ∧
    (∃ s : State, ∃ index : BitVec 32, s.dev.forwards = true ∧ ∃ t ∈ [TableId.TCAM, .CLS_RULE_TBL, .CLS_ACTION_TBL,
      .LBL_NH_TBL], ∃ i ∈ [Instr.tblAdd t index, .tblDelete t index], s.dev.fld F.CLS_GEN_STATUS_stage_open = 0) ∧
    (∃ s : State, ∃ index : BitVec 32, s.dev.forwards = true ∧ index.toNat < 16384) ∧
    (∃ s : State, ∃ index : BitVec 32, s.dev.forwards = true ∧ ∃ p, ∃ e, s.dev.tblSlices = [p] ∧ s.dev.tcam p index.toNat =
      some e ∧
      let b := leAt s.dev.tblData 0 2
      s.dev.moveOk p index.toNat b = true) ∧
    (∃ s : State, ∃ index : BitVec 32, s.dev.forwards = true ∧ ∃ p, ∃ x, s.dev.tblSlices = [p] ∧ (s.dev.slice p).find? (fun
      x => x.2.rule == index.toNat % 2 ^ 20) = some x) :=
  ⟨⟨stage, 1, by decide +kernel, by decide +kernel, by decide +kernel, by decide +kernel⟩,
    ⟨stage, 0, by decide +kernel, rule0, by decide +kernel, by decide +kernel, by decide +kernel, by decide +kernel⟩,
    ⟨closed, 0, by decide +kernel, _, List.mem_cons_self, _, List.mem_cons_self, by decide +kernel⟩,
    ⟨stage, 0, by decide +kernel, by decide +kernel⟩,
    ⟨tcamMove, 39, by decide +kernel, _, _, rfl, rfl, by decide +kernel⟩,
    ⟨tcam, 0, by decide +kernel, _, _, rfl, rfl⟩⟩

theorem witness_ClassificationAndLifetime :
    (∃ s : State, ∃ p : Fin 32, s.dev.forwards = true ∧ s.dev.fld F.CLS_HOLD_ack p = 0 ∧ ∃ id, ∃ rest, (s.dev.pipe p).clsIn
      = id :: rest ∧ ∃ x, s.dev.pkt id = some x ∧ x.id = id ∧ s.dev.fld F.CLS_PORT_CFG_tcam_en x.port = 0 ∧
      let ranges := s.dev.rangeVector x
      let prof := s.dev.profileOf x
      let res := s.dev.resolveRule (s.dev.fld F.TCM_SLICE_CFG_miss_rule p) x.gen (s.dev.lpmResult x) (s.dev.exactLookup x ranges prof 0) (s.dev.exactLookup x ranges prof 1)
      ∃ h, ∃ action, res = (.forward h, action) ∧ bitOf (action.getD 0 0) 8 = false) ∧
    (∃ s : State, ∃ p : Fin 32, s.dev.forwards = true ∧ s.dev.fld F.CLS_HOLD_ack p = 0 ∧ ∃ id, ∃ rest, (s.dev.pipe p).clsIn
      = id :: rest ∧ ∃ x, s.dev.pkt id = some x ∧ x.id = id ∧ s.dev.fld F.CLS_PORT_CFG_tcam_en x.port = 0 ∧
      let ranges := s.dev.rangeVector x
      let prof := s.dev.profileOf x
      let res := s.dev.resolveRule (s.dev.fld F.TCM_SLICE_CFG_miss_rule p) x.gen (s.dev.lpmResult x) (s.dev.exactLookup x ranges prof 0) (s.dev.exactLookup x ranges prof 1)
      ∃ k, ∃ action, res = (.drop k, action)) ∧
    (∃ s : State, ∃ id : Nat, ∃ x : Pkt, s.dev.forwards = true ∧ s.dev.pkt id = some x ∧ x.expired s.clk = true) ∧
    (∃ s : State, ∃ id : Nat, ∃ x : Pkt, s.dev.forwards = true ∧ s.dev.pkt id = some x ∧ ∃ f, x.loc = .egress ∧ x.frames =
      [f] ∧ f.ioam = none ∧ (∀ y ∈ s.dev.pkts.vals, s.dev.holdsBack x y (s.dev.queueOf f x.hash) = false) ∧
      let leaf := s.dev.leafOf f.port f.tc x.hash.toNat
      (s.dev.leafPath (dieOf f.port) leaf).2.2 = f.port % 256 ∧ s.dev.profile (dieOf f.port) leaf 1 7 1 = 1 ∧ s.dev.profile
      (dieOf f.port) leaf 1 6 1 = 0) :=
  ⟨⟨classify 0x500010000, 0, by decide +kernel, by decide +kernel, _, _, rfl, _, rfl, by decide +kernel, by decide +kernel, _, _, rfl, by decide +kernel⟩,
    ⟨classify 0x4000, 0, by decide +kernel, by decide +kernel, _, _, rfl, _, rfl, by decide +kernel, by decide +kernel, _, _, rfl⟩,
    ⟨late, 0, _, by decide +kernel, rfl, by decide +kernel⟩,
    ⟨late, 0, _, by decide +kernel, rfl, _, by decide +kernel, rfl, by decide +kernel, by decide +kernel, by decide +kernel, by decide +kernel, by decide +kernel⟩⟩

theorem witness_TcamUpkeep :
    ∃ s : State, ∃ p : Fin 32, s.dev.forwards = true ∧ ∃ i : Nat, ∃ u : Nat, s.dev.fld F.TCM_SLICE_CFG_hw_holes p = 1 ∧
      s.dev.fld F.TCM_HOLE_STATUS_spacing_lost p = 0 ∧ s.dev.fullWindow p (s.dev.holeN p) tcamSize (s.dev.cls.restoreAt.num
      p) = some i ∧
      let top := i + s.dev.holeN p - 1
      s.dev.freeAbove p tcamSize (top + 1) = some u ∧ s.dev.defective p top = false :=
  ⟨tcam, 0, by decide +kernel, _, _, by decide +kernel, by decide +kernel, rfl, rfl, by decide +kernel⟩

theorem witness_GenerationLifecycle :
    (∃ s : State, s.dev.forwards = true ∧ ∃ g, ∃ sl, s.dev.cls.staged = some (g, sl) ∧ s.dev.fld F.CLS_GEN_STATUS_stage_open
      = 1 ∧ s.dev.fld F.CLS_GEN_STATUS_commit_pending = 0) ∧
    (∃ s : State, s.dev.forwards = true ∧ s.dev.fld F.CLS_GEN_STATUS_stage_open = 0 ∧ s.dev.fld
      F.CLS_GEN_STATUS_commit_pending = 0) ∧
    (∃ s : State, s.dev.forwards = true ∧ ∃ x, s.dev.cls.staged = some x ∧ s.dev.fld F.CLS_GEN_STATUS_stage_open = 1) ∧
    (∃ s : State, s.dev.forwards = true ∧ ∃ x, s.dev.cls.staged = some x ∧ s.dev.fld F.CLS_GEN_STATUS_preparing = 1 ∧
      s.dev.fld F.CLS_GEN_STATUS_commit_pending = 0) ∧
    (∃ s : State, s.dev.forwards = true ∧ ∃ x, ∃ y, ∃ rest, s.dev.cls.live = x :: y :: rest ∧ s.dev.fld
      F.CLS_GEN_INFLIGHT_packets x.2 = 0) :=
  ⟨⟨stage, by decide +kernel, _, _, rfl, by decide +kernel, by decide +kernel⟩,
    ⟨closed, by decide +kernel, by decide +kernel, by decide +kernel⟩,
    ⟨stage, by decide +kernel, _, rfl, by decide +kernel⟩,
    ⟨preparing, by decide +kernel, _, rfl, by decide +kernel, by decide +kernel⟩,
    ⟨twoLive, by decide +kernel, _, _, _, rfl, by decide +kernel⟩⟩

theorem witness_FlowRecordRequests :
    (∃ s : State, s.dev.forwards = true ∧ ∃ id, ∃ x, s.dev.pkt id = some x ∧ x.id = id ∧
      let key := x.parse.key
      let b := s.dev.bankOf key
      let die := b / 128
      ∃ h, ∃ e, x.loc = .hearth ∧ s.dev.keyAhead x = false ∧ s.dev.fld F.FLW_HOLD_ack die = 0 ∧ (s.dev.pipe
      x.pipe).dispatchQ.length < 64 ∧ s.dev.counterMode x = false ∧ (∀ y ∈ s.dev.pkts.vals, y.loc = .bankWait → s.dev.bankOf
      y.parse.key ≠ b) ∧ s.dev.fld F.HRT_BANK_STATUS_state b ≠ 1 ∧ s.dev.hearthFind b (s.dev.setOf key) (s.dev.fpOf key) =
      some h ∧ s.dev.entry b h.set h.way = some e ∧ e.kind = .record ∧ e.lock = false ∧ e.waiters = [] ∧ s.dev.revokedFor
      e.img.rule x.gen = false ∧
      let i := e.img.access { x with counter := false } h.rev
      i.topBit = false) ∧
    (∃ s : State, s.dev.forwards = true ∧ ∃ id, ∃ x, s.dev.pkt id = some x ∧ x.id = id ∧
      let key := x.parse.key
      let b := s.dev.bankOf key
      let die := b / 128
      x.loc = .hearth ∧ s.dev.keyAhead x = false ∧ s.dev.fld F.FLW_HOLD_ack die = 0 ∧ (s.dev.pipe x.pipe).dispatchQ.length <
      64 ∧ s.dev.admission die x.actionClass (s.dev.pkts.vals.countP (fun y => y.loc == .bankWait && y.parse.key == key))
      false = none) ∧
    (∃ s : State, s.dev.forwards = true ∧ ∃ id, ∃ x, s.dev.pkt id = some x ∧ x.id = id ∧
      let key := x.parse.key
      let b := s.dev.bankOf key
      let die := b / 128
      ∃ bank : Fin 256, s.dev.pkts.vals.filter (fun y => y.loc == .bankWait && s.dev.bankOf y.parse.key == bank) = [x] ∧
      s.dev.fld F.HRT_BANK_STATUS_state bank ≠ 1 ∧ x.hold.isSome = true ∧ b = bank ∧ s.dev.hearthFind b (s.dev.setOf key)
      (s.dev.fpOf key) = none ∧ s.dev.missOf die key = none) ∧
    (∃ s : State, s.dev.forwards = true ∧ ∃ id, ∃ x, s.dev.pkt id = some x ∧ x.id = id ∧
      let key := x.parse.key
      let b := s.dev.bankOf key
      let die := b / 128
      ∃ m, s.dev.flw.misses.find? (fun m => m.waiters.contains id) = some m ∧ m.waiters = [id] ∧ m.key = key ∧ m.die = die ∧
      (∀ ix, s.dev.fld F.FLW_HBM_CH_STATUS_ue_window ix = 0 ∧ s.dev.fld F.FLW_HBM_CH_STATUS_ce_window ix = 0) ∧
      let l := s.dev.lookup die key
      l.2 = .none ∧ s.dev.fld F.FLW_CTRL_ins_host die = 0 ∧ 1250 ≤ s.dev.insertTokens s.clk die ∧ m.retry = false ∧ ∃ w,
      (l.1.takeWay s.clk b (s.dev.setOf key)).2 = some w) ∧
    (∃ s : State, s.dev.forwards = true ∧ ∃ id, ∃ x, s.dev.pkt id = some x ∧ x.id = id ∧
      let key := x.parse.key
      let b := s.dev.bankOf key
      let die := b / 128
      ∃ m, s.dev.flw.misses.find? (fun m => m.waiters.contains id) = some m ∧ m.waiters = [id] ∧ m.key = key ∧ m.die = die ∧
      (∀ ix, s.dev.fld F.FLW_HBM_CH_STATUS_ue_window ix = 0 ∧ s.dev.fld F.FLW_HBM_CH_STATUS_ce_window ix = 0) ∧
      let l := s.dev.lookup die key
      l.2 = .none ∧ s.dev.fld F.FLW_CTRL_ins_host die = 0 ∧ 1250 ≤ s.dev.insertTokens s.clk die ∧ m.retry = true ∧ ∃ w,
      (s.dev.takeWay s.clk b (s.dev.setOf key)).2 = some w) ∧
    (∃ s : State, ∃ die : Fin 2, s.dev.forwards = true ∧ ∃ n : BitVec 28, ∃ b, ∃ st, ∃ w, s.dev.resident die n.toNat = some
      (b, st, w) ∧ ∃ e, s.dev.entry b st w = some e ∧ s.dev.bypass b = false) ∧
    (∃ s : State, ∃ die : Fin 2, s.dev.forwards = true ∧ ∃ b : Fin 256, ∃ st, ∃ w, ∃ e, s.dev.flw.hearth.cells = [(⟨b, st,
      w⟩, .entry e)] ∧ ∃ t, e.kind = .pending t ∧ b.val / 128 = die.val ∧ t ≤ s.clk.phys ∧ e.waiters = []) :=
  ⟨⟨hearthHit, by decide +kernel, 0, _, rfl, rfl, (by dsimp only; rw [bank130 _ _ (by decide +kernel)]; exact ⟨⟨3823, 0, false, false⟩, _, by decide +kernel, by decide +kernel, by decide +kernel, by decide +kernel, by decide +kernel, (by intro y hy h; revert y; decide +kernel), by decide +kernel, rfl, rfl, by decide +kernel, by decide +kernel, by decide +kernel, by decide +kernel, by decide +kernel⟩)⟩,
    ⟨hearthFree, by decide +kernel, 0, _, rfl, rfl, (by dsimp only; rw [bank130 _ _ (by decide +kernel)]; exact ⟨by decide +kernel, by decide +kernel, by decide +kernel, by decide +kernel, by decide +kernel⟩)⟩,
    ⟨bankWait, by decide +kernel, 0, _, rfl, rfl, (by dsimp only; rw [bank130 _ (pkt0 .bankWait).parse.key (by decide +kernel)]; exact ⟨130, (by refine (List.filter_cons_of_pos (l := []) ?_).trans rfl; rw [bank130 _ _ (by decide +kernel)]; rfl), by decide +kernel, rfl, rfl, by decide +kernel, by decide +kernel⟩)⟩,
    ⟨(miss false), by decide +kernel, 0, _, rfl, rfl, (by dsimp only; rw [bank130 _ _ (by decide +kernel)]; exact ⟨⟨1, key0, [0], false⟩, by decide +kernel, by decide +kernel, by decide +kernel, by decide +kernel, windows0 _ rfl, by decide +kernel, by decide +kernel, by decide +kernel, by decide +kernel, 0, by decide +kernel⟩)⟩,
    ⟨(miss true), by decide +kernel, 0, _, rfl, rfl, (by dsimp only; rw [bank130 _ _ (by decide +kernel)]; exact ⟨⟨1, key0, [0], true⟩, by decide +kernel, by decide +kernel, by decide +kernel, by decide +kernel, windows0 _ rfl, by decide +kernel, by decide +kernel, by decide +kernel, by decide +kernel, 0, by decide +kernel⟩)⟩,
    ⟨hearthHit, 1, by decide +kernel, 0, _, _, _, rfl, _, rfl, by decide +kernel⟩,
    ⟨pending, 1, by decide +kernel, 130, 3823, 0, _, rfl, 0, by decide +kernel⟩⟩

theorem witness_HostFlowCommands :
    (∃ s : State, ∃ die : Fin 2, s.dev.forwards = true ∧ s.dev.cmdReady die = true ∧
      let head := s.dev.fld F.FLW_CMD_PTR_head die
      ∃ key, badKey key = false ∧ ∃ n, ∃ dir, (s.dev.lookup (s.dev.bankOf key / 128) key).2 = .found n dir ∧ ∃ r, s.dev.frec
      (s.dev.bankOf key / 128) n = some r ∧ ∃ i, s.dev.imgNow (s.dev.bankOf key / 128) n = some i) ∧
    (∃ s : State, ∃ die : Fin 2, s.dev.forwards = true ∧ s.dev.cmdReady die = true ∧
      let head := s.dev.fld F.FLW_CMD_PTR_head die
      ∃ key, badKey key = false ∧ ∃ hd, ∃ n, ∃ dir, s.dev.cmdFlow key = some (.ok (hd, n, dir)) ∧ (s.dev.frec hd n).isSome =
      true ∧ (s.dev.imgNow hd n).isSome = true) ∧
    (∃ s : State, ∃ die : Fin 2, s.dev.forwards = true ∧ s.dev.cmdReady die = true ∧
      let head := s.dev.fld F.FLW_CMD_PTR_head die
      ∃ body, badKey (recOf body).fwd = false ∧ badKey (recOf body).rev = false ∧ ∃ hd, ∃ n, s.dev.cmdFlow (recOf body).fwd
      = some (.ok (hd, n, false)) ∧ (s.dev.frec hd n).isSome = true ∧ (s.dev.imgNow hd n).isSome = true) ∧
    (∃ s : State, ∃ die : Fin 2, s.dev.forwards = true ∧ s.dev.cmdReady die = true ∧
      let head := s.dev.fld F.FLW_CMD_PTR_head die
      ∃ body,
      let r := recOf body
      s.dev.insertRefusal s.clk r = none ∧ r.img.snatValid = false ∧ r.img.lbValid = false) ∧
    (∃ s : State, ∃ die : Fin 2, s.dev.forwards = true ∧ s.dev.cmdReady die = true ∧
      let head := s.dev.fld F.FLW_CMD_PTR_head die
      ∃ body, ∃ st, s.dev.insertRefusal s.clk (recOf body) = some st) :=
  ⟨⟨flows, 1, by decide +kernel, by decide +kernel, key0, by decide +kernel, 0, false, (by rw [bank130 _ _ (by decide +kernel)]; decide +kernel), (by rw [bank130 _ _ (by decide +kernel)]; exact ⟨_, rfl, _, rfl⟩)⟩,
    ⟨flows, 1, by decide +kernel, by decide +kernel, key0, by decide +kernel, 1, 0, false, (by unfold Dev.cmdFlow; dsimp only; rw [bank130 _ _ (by decide +kernel)]; rw [show (Dev.lookup _ (130 / 128) _).2 = .found 0 false by decide +kernel]; exact if_pos (by decide +kernel)), by decide +kernel, by decide +kernel⟩,
    ⟨flows, 1, by decide +kernel, by decide +kernel, img192, by decide +kernel, by decide +kernel, 1, 0, (by unfold Dev.cmdFlow; dsimp only; rw [bank130 _ _ (by decide +kernel)]; rw [show (Dev.lookup _ (130 / 128) _).2 = .found 0 false by decide +kernel]; exact if_pos (by decide +kernel)), by decide +kernel, by decide +kernel⟩,
    ⟨hearthFree, 1, by decide +kernel, by decide +kernel, img192, (by dsimp only; unfold Dev.insertRefusal Dev.oneBank Dev.earlier; dsimp only; rw [bank130 _ (recOf img192).fwd (by decide +kernel), bank130 _ (recOf img192).rev (by decide +kernel)]; decide +kernel)⟩,
    ⟨flows, 1, by decide +kernel, by decide +kernel, key0, _, rfl⟩⟩

theorem witness_EvacuationAndSpareBanks :
    (∃ s : State, ∃ die : Fin 2, s.dev.forwards = true ∧ ∃ ch : Fin 32, s.dev.fld F.FLW_HBM_EVAC_state die = 0 ∧
      s.dev.flw.noReserve.num die = 0 ∧ ch.val < s.dev.channels ∧ s.dev.fld F.FLW_HBM_CH_STATUS_state (chIx die ch) = 0) ∧
    (∃ s : State, ∃ die : Fin 2, s.dev.forwards = true ∧ (∀ ix, s.dev.fld F.FLW_HBM_CH_STATUS_ue_window ix = 0 ∧ s.dev.fld
      F.FLW_HBM_CH_STATUS_ce_window ix = 0) ∧ s.dev.fld F.FLW_HBM_EVAC_state die = 1) ∧
    (∃ s : State, ∃ die : Fin 2, s.dev.forwards = true ∧ (∀ ix, s.dev.fld F.FLW_HBM_CH_STATUS_ue_window ix = 0 ∧ s.dev.fld
      F.FLW_HBM_CH_STATUS_ce_window ix = 0) ∧ s.dev.fld F.FLW_HBM_EVAC_state die = 2) ∧
    (∃ s : State, ∃ die : Fin 2, s.dev.forwards = true ∧
      let b := 128 * die.val + s.dev.fld F.HRT_SPARE_CTRL_retire die
      s.dev.fld F.HRT_BANK_STATUS_state b = 0 ∧ s.dev.fld F.HRT_SPARE_CTRL_spares_free (b / 128) ≠ 0) ∧
    (∃ s : State, s.dev.forwards = true ∧ ∃ b : Fin 256, s.dev.fld F.HRT_BANK_STATUS_state b = 0 ∧ s.dev.fld
      F.HRT_SPARE_CTRL_spares_free (b.val / 128) ≠ 0) ∧
    (∃ s : State, s.dev.forwards = true ∧ ∃ b : Fin 256, ∃ since, s.dev.flw.copying.find? (fun x => x.1 == b.val) = some
      (b.val, since) ∧ since + edgesNs 8192 ≤ s.clk.phys ∧ (∀ y ∈ s.dev.pkts.vals, y.loc ≠ .bankWait)) :=
  ⟨⟨evac 0 0, 0, by decide +kernel, 0, by decide +kernel, by decide +kernel, by decide +kernel, by decide +kernel⟩,
    ⟨evac 1 1, 0, by decide +kernel, windows0 _ rfl, by decide +kernel⟩,
    ⟨evac 2 2, 0, by decide +kernel, windows0 _ rfl, by decide +kernel⟩,
    ⟨evac 0 0, 0, by decide +kernel, by decide +kernel, by decide +kernel⟩,
    ⟨evac 0 0, by decide +kernel, 0, by decide +kernel, by decide +kernel⟩,
    ⟨banks, by decide +kernel, 255, _, rfl, by decide +kernel, by decide +kernel⟩⟩

theorem witness_SweeperScan :
    (∃ s : State, ∃ die : Fin 2, ∃ n : Fin 32, s.dev.forwards = true ∧ ∃ rec, s.dev.nextRecord die (s.dev.sweep die n) =
      some rec ∧ ∃ i, s.dev.imgNow die rec = some i ∧ (∀ ix, s.dev.fld F.FLW_HBM_CH_STATUS_ue_window ix = 0 ∧ s.dev.fld
      F.FLW_HBM_CH_STATUS_ce_window ix = 0) ∧ s.dev.swp.scanning.num die ≠ 0 ∧ s.dev.swpState die n = 0 ∧ (s.dev.sweep die
      n).visit = none ∧ (s.dev.sweep die n).waiting = none ∧ s.dev.resident die rec = none ∧ s.dev.deadRule i = none ∧
      i.hasDeltas = false) ∧
    (∃ s : State, ∃ die : Fin 2, s.dev.forwards = true ∧ s.dev.swp.scanning.num die ≠ 0 ∧ (∀ k ∈ s.dev.swpServing die,
      (s.dev.sweep die k).visit = none ∧ (s.dev.sweep die k).waiting = none ∧ s.dev.nextRecord die (s.dev.sweep die k) =
      none)) ∧
    (∃ s : State, ∃ die : Fin 2, ∃ n : Fin 32, s.dev.forwards = true ∧ ∃ v, (s.dev.sweep die n).visit = some v ∧
      (s.dev.sweep die n).slow = false ∧ (s.dev.sweep die n).since + edgesUs 10 < s.clk.phys) :=
  ⟨⟨scan, 1, 0, by decide +kernel, _, rfl, _, rfl, windows0 _ rfl, by decide +kernel, by decide +kernel, by decide +kernel, by decide +kernel, by decide +kernel, by decide +kernel, by decide +kernel⟩,
    ⟨scanned, 1, by decide +kernel, by decide +kernel, by decide +kernel⟩,
    ⟨swpWord 0, 1, 0, by decide +kernel, _, rfl, by decide +kernel, by decide +kernel⟩⟩

theorem witness_EngineDispatchAndSequencer :
    (∃ s : State, ∃ p : Fin 32, s.dev.forwards = true ∧ s.dev.fld F.ENG_HOLD_ack p = 0 ∧ ∃ id, ∃ rest, (s.dev.pipe
      p).dispatchQ = id :: rest ∧ ∃ x, s.dev.pkt id = some x ∧ x.id = id ∧
      let opcode := bitsOf (x.cls.action.getD 0 0) 0 8
      ∃ k, ∃ inst, (s.dev.rotation p).filterMap
      (fun k => match s.dev.clusterStore p k with | some inst => if s.dev.hasRoutine inst opcode then some (k, inst) else none | none => none)
      = [(k, inst)] ∧ ∃ e, s.dev.freeEngine inst = some e) ∧
    (∃ s : State, ∃ inst : Fin 256, ∃ e : Fin 8, s.dev.forwards = true ∧ ∃ r, ∃ w, s.dev.current s.clk inst e = some (r, w)
      ∧ ∃ x, s.dev.pkt r.pkt = some x ∧ x.id = r.pkt ∧ r.slots.complete w.alu w.mem = true ∧ w.seq = 0) ∧
    (∃ s : State, ∃ inst : Fin 256, ∃ e : Fin 8, s.dev.forwards = true ∧ ∃ r, ∃ w, s.dev.current s.clk inst e = some (r, w)
      ∧ ∃ x, s.dev.pkt r.pkt = some x ∧ x.id = r.pkt ∧ r.slots.complete w.alu w.mem = true ∧ w.seq = 1 ∧ (r.customer = false
      ∨ 0x1800 ≤ w.target)) ∧
    (∃ s : State, ∃ inst : Fin 256, ∃ e : Fin 8, s.dev.forwards = true ∧ ∃ r, ∃ w, s.dev.current s.clk inst e = some (r, w)
      ∧ ∃ x, s.dev.pkt r.pkt = some x ∧ x.id = r.pkt ∧ r.slots.complete w.alu w.mem = true ∧ w.seq = 2 ∧ (r.customer = false
      ∨ 0x1800 ≤ w.target)) ∧
    (∃ s : State, ∃ inst : Fin 256, ∃ e : Fin 8, s.dev.forwards = true ∧ ∃ r, ∃ w, s.dev.current s.clk inst e = some (r, w)
      ∧ ∃ x, s.dev.pkt r.pkt = some x ∧ x.id = r.pkt ∧ r.slots.complete w.alu w.mem = true ∧ w.seq = 3 ∧ (r.customer = false
      ∨ 0x1800 ≤ w.target)) ∧
    (∃ s : State, ∃ inst : Fin 256, ∃ e : Fin 8, s.dev.forwards = true ∧ ∃ r, ∃ w, s.dev.current s.clk inst e = some (r, w)
      ∧ ∃ x, s.dev.pkt r.pkt = some x ∧ x.id = r.pkt ∧ r.slots.complete w.alu w.mem = true ∧ w.seq = 4 ∧ r.exhausted = none) ∧
    (∃ s : State, ∃ inst : Fin 256, ∃ e : Fin 8, s.dev.forwards = true ∧ ∃ r, ∃ w, s.dev.current s.clk inst e = some (r, w)
      ∧ ∃ x, s.dev.pkt r.pkt = some x ∧ x.id = r.pkt ∧ r.slots.complete w.alu w.mem = true ∧ w.seq = 5) ∧
    (∃ s : State, ∃ inst : Fin 256, ∃ e : Fin 8, s.dev.forwards = true ∧ ∃ r, ∃ w, s.dev.current s.clk inst e = some (r, w)
      ∧ ∃ x, s.dev.pkt r.pkt = some x ∧ x.id = r.pkt ∧ r.slots.complete w.alu w.mem = true ∧ (w.seq = 6 ∨ w.seq = 7)) :=
  ⟨⟨dispatch, 0, by decide +kernel, by decide +kernel, _, _, rfl, _, rfl, by decide +kernel, _, _, rfl, _, rfl⟩,
    ⟨ended 0, 0, 0, by decide +kernel, _, _, rfl, _, rfl, by decide +kernel, by decide +kernel, by decide +kernel⟩,
    ⟨ended 1, 0, 0, by decide +kernel, _, _, rfl, _, rfl, by decide +kernel, by decide +kernel, by decide +kernel, by decide +kernel⟩,
    ⟨ended 2, 0, 0, by decide +kernel, _, _, rfl, _, rfl, by decide +kernel, by decide +kernel, by decide +kernel, by decide +kernel⟩,
    ⟨ended 3, 0, 0, by decide +kernel, _, _, rfl, _, rfl, by decide +kernel, by decide +kernel, by decide +kernel, by decide +kernel⟩,
    ⟨ended 4, 0, 0, by decide +kernel, _, _, rfl, _, rfl, by decide +kernel, by decide +kernel, by decide +kernel, by decide +kernel⟩,
    ⟨ended 5, 0, 0, by decide +kernel, _, _, rfl, _, rfl, by decide +kernel, by decide +kernel, by decide +kernel⟩,
    ⟨ended 6, 0, 0, by decide +kernel, _, _, rfl, _, rfl, by decide +kernel, by decide +kernel, by decide +kernel⟩⟩

theorem witness_AluResults :
    (∃ s : State, ∃ inst : Fin 256, ∃ e : Fin 8, s.dev.forwards = true ∧ ∃ r, ∃ w, s.dev.current s.clk inst e = some (r, w)
      ∧ r.slots.aluDone = false ∧
      let p := Issuer.engine inst e
      let n := if w.alu.w32 then 32 else 64
      let x := (gReg r.regs w.alu.a).toNat % 2 ^ n
      let y := (if w.alu.useImm then immOf w.imm w.alu.w32 else (gReg r.regs w.alu.b).toNat) % 2 ^ n
      ∃ t ∈ [(Instr.add p, 1, (x + y) % 2 ^ n, decide (2 ^ n ≤ x + y)), (.sub p, 2, (x + 2 ^ n - y) % 2 ^ n, decide (x <
      y)), (.and p, 3, x &&& y, false), (.or p, 4, x ||| y, false), (.xor p, 5, x ^^^ y, false), (.shl p, 6, x * 2 ^ (y %
      64) % 2 ^ n, false), (.shr p, 7, x / 2 ^ (y % 64), false), (.sar p, 8, unsigned n (signed n x / ((2 ^ (y % 64) : Nat)
      : Int)), false), (.mov p, 9, y, false), (.min p, 11, if x ≤ y then x else y, false), (.max p, 12, if x ≤ y then y else
      x, false), (.csum p, 13, onesSum (Machine.beBytes 8 x ++ Machine.beBytes 8 y) % 2 ^ n, false), (.bswap p, 14,
      ofBeBytes (leBytes (n / 8) x), false), (.tsdiff p, 15, unsigned n (tsDiff x y), false)], w.alu.op = t.2.1) ∧
    (∃ s : State, ∃ inst : Fin 256, ∃ e : Fin 8, s.dev.forwards = true ∧ ∃ r, ∃ w, s.dev.current s.clk inst e = some (r, w)
      ∧ r.slots.aluDone = false ∧
      let n := if w.alu.w32 then 32 else 64
      w.alu.op = 10) ∧
    (∃ s : State, ∃ inst : Fin 256, ∃ e : Fin 8, s.dev.forwards = true ∧ ∃ r, ∃ w, s.dev.current s.clk inst e = some (r, w)
      ∧ r.slots.aluDone = false ∧
      let n := if w.alu.w32 then 32 else 64
      w.alu.op = 0) ∧
    (∃ s : State, ∃ die : Fin 2, ∃ n : Fin 32, s.dev.forwards = true ∧ ∃ v, ∃ w, s.dev.swpCurrent die n = some (s.dev.sweep
      die n, v, w) ∧ (s.dev.sweep die n).slots.aluDone = false ∧ ∃ t ∈ [(Instr.nop (.sweeper die n), 0), (.add (.sweeper die
      n), 1), (.sub (.sweeper die n), 2), (.and (.sweeper die n), 3), (.or (.sweeper die n), 4), (.xor (.sweeper die n), 5),
      (.shl (.sweeper die n), 6), (.shr (.sweeper die n), 7), (.sar (.sweeper die n), 8), (.mov (.sweeper die n), 9), (.cmp
      (.sweeper die n), 10), (.min (.sweeper die n), 11), (.max (.sweeper die n), 12), (.csum (.sweeper die n), 13), (.bswap
      (.sweeper die n), 14), (.tsdiff (.sweeper die n), 15)], w.alu.op = t.2) ∧
    (∃ s : State, ∃ die : Fin 2, ∃ n : Fin 32, s.dev.forwards = true ∧ ∃ v, ∃ w, s.dev.swpCurrent die n = some (s.dev.sweep
      die n, v, w) ∧ (s.dev.sweep die n).slots.aluDone = false ∧ ∃ t ∈ [(Instr.nop (.sweeper die n), 0), (.add (.sweeper die
      n), 1), (.sub (.sweeper die n), 2), (.and (.sweeper die n), 3), (.or (.sweeper die n), 4), (.xor (.sweeper die n), 5),
      (.shl (.sweeper die n), 6), (.shr (.sweeper die n), 7), (.sar (.sweeper die n), 8), (.mov (.sweeper die n), 9), (.cmp
      (.sweeper die n), 10), (.min (.sweeper die n), 11), (.max (.sweeper die n), 12), (.csum (.sweeper die n), 13), (.bswap
      (.sweeper die n), 14), (.tsdiff (.sweeper die n), 15)], w.alu.op ≠ t.2) :=
  ⟨⟨alu 1, 0, 0, by decide +kernel, _, _, rfl, by decide +kernel, _, List.mem_cons_self, by decide +kernel⟩,
    ⟨alu 10, 0, 0, by decide +kernel, _, _, rfl, by decide +kernel, by decide +kernel⟩,
    ⟨alu 0, 0, 0, by decide +kernel, _, _, rfl, by decide +kernel, by decide +kernel⟩,
    ⟨swpWord 0, 1, 0, by decide +kernel, _, _, rfl, by decide +kernel, _, List.mem_cons_self, by decide +kernel⟩,
    ⟨swpWord (2 ^ 37), 1, 0, by decide +kernel, _, _, rfl, by decide +kernel, _, List.mem_cons_self, by decide +kernel⟩⟩

theorem witness_MemorySlotOperations :
    (∃ s : State, ∃ inst : Fin 256, ∃ e : Fin 8, s.dev.forwards = true ∧ ∃ r, ∃ w, s.dev.current s.clk inst e = some (r, w)
      ∧ ∃ x, s.dev.pkt r.pkt = some x ∧ x.id = r.pkt ∧ r.slots.memDone = false ∧
      let does := fun (i : Instr) (r' : Run) => Does i s [.eng] [] (fun d => d.run inst e = some { r' with slots := { r'.slots with memDone := true } })
      w.mem.op = 1) ∧
    (∃ s : State, ∃ inst : Fin 256, ∃ e : Fin 8, s.dev.forwards = true ∧ ∃ r, ∃ w, s.dev.current s.clk inst e = some (r, w)
      ∧ ∃ x, s.dev.pkt r.pkt = some x ∧ x.id = r.pkt ∧ r.slots.memDone = false ∧
      let does := fun (i : Instr) (r' : Run) => Does i s [.eng] [] (fun d => d.run inst e = some { r' with slots := { r'.slots with memDone := true } })
      w.mem.op = 2) ∧
    (∃ s : State, ∃ inst : Fin 256, ∃ e : Fin 8, s.dev.forwards = true ∧ ∃ r, ∃ w, s.dev.current s.clk inst e = some (r, w)
      ∧ ∃ x, s.dev.pkt r.pkt = some x ∧ x.id = r.pkt ∧ r.slots.memDone = false ∧
      let does := fun (i : Instr) (r' : Run) => Does i s [.eng] [] (fun d => d.run inst e = some { r' with slots := { r'.slots with memDone := true } })
      w.mem.op = 8) ∧
    (∃ s : State, ∃ inst : Fin 256, ∃ e : Fin 8, s.dev.forwards = true ∧ ∃ r, ∃ w, s.dev.current s.clk inst e = some (r, w)
      ∧ ∃ x, s.dev.pkt r.pkt = some x ∧ x.id = r.pkt ∧ r.slots.memDone = false ∧
      let off := w.mem.at r.regs
      let does := fun (i : Instr) (r' : Run) => Does i s [.eng] [] (fun d => d.run inst e = some { r' with slots := { r'.slots with memDone := true } })
      w.mem.op = 3 ∧ w.mem.space = 4 ∧ 29 ≤ off ∧ off + w.mem.bytes ≤ 36) ∧
    (∃ s : State, ∃ inst : Fin 256, ∃ e : Fin 8, s.dev.forwards = true ∧ ∃ r, ∃ w, s.dev.current s.clk inst e = some (r, w)
      ∧ ∃ x, s.dev.pkt r.pkt = some x ∧ x.id = r.pkt ∧ r.slots.memDone = false ∧
      let off := w.mem.at r.regs
      let does := fun (i : Instr) (r' : Run) => Does i s [.eng] [] (fun d => d.run inst e = some { r' with slots := { r'.slots with memDone := true } })
      w.mem.op = 3 ∧ w.mem.space = 5 ∧ off + w.mem.bytes ≤ 256) ∧
    (∃ s : State, ∃ inst : Fin 256, ∃ e : Fin 8, s.dev.forwards = true ∧ ∃ r, ∃ w, s.dev.current s.clk inst e = some (r, w)
      ∧ ∃ x, s.dev.pkt r.pkt = some x ∧ x.id = r.pkt ∧ r.slots.memDone = false ∧
      let off := w.mem.at r.regs
      let does := fun (i : Instr) (r' : Run) => Does i s [.eng] [] (fun d => d.run inst e = some { r' with slots := { r'.slots with memDone := true } })
      w.mem.op = 3 ∧ w.mem.space = 6 ∧ 38 ≤ off ∧ off + w.mem.bytes ≤ 52 ∧ boundStore x off w.mem.bytes = false) ∧
    (∃ s : State, ∃ inst : Fin 256, ∃ e : Fin 8, s.dev.forwards = true ∧ ∃ r, ∃ w, s.dev.current s.clk inst e = some (r, w)
      ∧ ∃ x, s.dev.pkt r.pkt = some x ∧ x.id = r.pkt ∧ r.slots.memDone = false ∧
      let off := w.mem.at r.regs
      let does := fun (i : Instr) (r' : Run) => Does i s [.eng] [] (fun d => d.run inst e = some { r' with slots := { r'.slots with memDone := true } })
      w.mem.op = 3 ∧ w.mem.space = 5 ∧ 256 < off + w.mem.bytes) ∧
    (∃ s : State, ∃ inst : Fin 256, ∃ e : Fin 8, s.dev.forwards = true ∧ ∃ r, ∃ w, s.dev.current s.clk inst e = some (r, w)
      ∧ ∃ x, s.dev.pkt r.pkt = some x ∧ x.id = r.pkt ∧ r.slots.memDone = false ∧
      let does := fun (i : Instr) (r' : Run) => Does i s [.eng] [] (fun d => d.run inst e = some { r' with slots := { r'.slots with memDone := true } })
      w.mem.op = 4 ∧ r.edits.length < 24) ∧
    (∃ s : State, ∃ inst : Fin 256, ∃ e : Fin 8, s.dev.forwards = true ∧ ∃ r, ∃ w, s.dev.current s.clk inst e = some (r, w)
      ∧ ∃ x, s.dev.pkt r.pkt = some x ∧ x.id = r.pkt ∧ r.slots.memDone = false ∧
      let does := fun (i : Instr) (r' : Run) => Does i s [.eng] [] (fun d => d.run inst e = some { r' with slots := { r'.slots with memDone := true } })
      w.mem.op = 5 ∧ r.edits.length < 24) ∧
    (∃ s : State, ∃ inst : Fin 256, ∃ e : Fin 8, s.dev.forwards = true ∧ ∃ r, ∃ w, s.dev.current s.clk inst e = some (r, w)
      ∧ ∃ x, s.dev.pkt r.pkt = some x ∧ x.id = r.pkt ∧ r.slots.memDone = false ∧
      let does := fun (i : Instr) (r' : Run) => Does i s [.eng] [] (fun d => d.run inst e = some { r' with slots := { r'.slots with memDone := true } })
      w.mem.op = 6 ∧ r.counters.length < 8) ∧
    (∃ s : State, ∃ inst : Fin 256, ∃ e : Fin 8, s.dev.forwards = true ∧ ∃ r, ∃ w, s.dev.current s.clk inst e = some (r, w)
      ∧ ∃ x, s.dev.pkt r.pkt = some x ∧ x.id = r.pkt ∧ r.slots.memDone = false ∧
      let does := fun (i : Instr) (r' : Run) => Does i s [.eng] [] (fun d => d.run inst e = some { r' with slots := { r'.slots with memDone := true } })
      w.mem.op = 7) ∧
    (∃ s : State, ∃ inst : Fin 256, ∃ e : Fin 8, s.dev.forwards = true ∧ ∃ r, ∃ w, s.dev.current s.clk inst e = some (r, w)
      ∧ ∃ x, s.dev.pkt r.pkt = some x ∧ x.id = r.pkt ∧ r.slots.memDone = false ∧
      let does := fun (i : Instr) (r' : Run) => Does i s [.eng] [] (fun d => d.run inst e = some { r' with slots := { r'.slots with memDone := true } })
      9 ≤ w.mem.op) :=
  ⟨⟨mem 1 1 0 1, 0, 0, by decide +kernel, _, _, rfl, _, rfl, by decide +kernel, by decide +kernel, by decide +kernel⟩,
    ⟨mem 2 1 0 1, 0, 0, by decide +kernel, _, _, rfl, _, rfl, by decide +kernel, by decide +kernel, by decide +kernel⟩,
    ⟨mem 8 1 0 1, 0, 0, by decide +kernel, _, _, rfl, _, rfl, by decide +kernel, by decide +kernel, by decide +kernel⟩,
    ⟨mem 3 4 29 7, 0, 0, by decide +kernel, _, _, rfl, _, rfl, by decide +kernel, by decide +kernel, by decide +kernel, by decide +kernel, by decide +kernel, by decide +kernel⟩,
    ⟨mem 3 5 255 1, 0, 0, by decide +kernel, _, _, rfl, _, rfl, by decide +kernel, by decide +kernel, by decide +kernel, by decide +kernel, by decide +kernel⟩,
    ⟨mem 3 6 38 8, 0, 0, by decide +kernel, _, _, rfl, _, rfl, by decide +kernel, by decide +kernel, by decide +kernel, by decide +kernel, by decide +kernel, by decide +kernel, by decide +kernel⟩,
    ⟨mem 3 5 255 8, 0, 0, by decide +kernel, _, _, rfl, _, rfl, by decide +kernel, by decide +kernel, by decide +kernel, by decide +kernel, by decide +kernel⟩,
    ⟨mem 4 1 0 1, 0, 0, by decide +kernel, _, _, rfl, _, rfl, by decide +kernel, by decide +kernel, by decide +kernel, by decide +kernel⟩,
    ⟨mem 5 1 0 1, 0, 0, by decide +kernel, _, _, rfl, _, rfl, by decide +kernel, by decide +kernel, by decide +kernel, by decide +kernel⟩,
    ⟨mem 6 1 0 1, 0, 0, by decide +kernel, _, _, rfl, _, rfl, by decide +kernel, by decide +kernel, by decide +kernel, by decide +kernel⟩,
    ⟨mem 7 1 0 1, 0, 0, by decide +kernel, _, _, rfl, _, rfl, by decide +kernel, by decide +kernel, by decide +kernel⟩,
    ⟨mem 15 1 0 1, 0, 0, by decide +kernel, _, _, rfl, _, rfl, by decide +kernel, by decide +kernel, by decide +kernel⟩⟩

theorem witness_ReadingUnitCalls :
    (∃ s : State, s.dev.forwards = true ∧
      let calls := fun (p : Issuer) => [(Instr.hash64 p, 0, 1, 0), (.pi p, 0, 2, 1), (.piInv p, 0, 3, 2), (.subRead p, 1, 3, 3), (.backendRead p, 2, 2, 4), (.lookup p, 6, 1, 5), (.nhRead p, 7, 1, 6)]
      ∃ inst : Fin 256, ∃ e : Fin 8, ∃ r, s.dev.run inst e = some r ∧ ∃ x, s.dev.pkt r.pkt = some x ∧ ∃ t ∈ calls (.engine
      inst e), ∃ k, ∃ i, callIdx r.calls t.2.1 t.2.2.1 = some (k, i)) ∧
    (∃ s : State, s.dev.forwards = true ∧
      let calls := fun (p : Issuer) => [(Instr.hash64 p, 0, 1, 0), (.pi p, 0, 2, 1), (.piInv p, 0, 3, 2), (.subRead p, 1, 3, 3), (.backendRead p, 2, 2, 4), (.lookup p, 6, 1, 5), (.nhRead p, 7, 1, 6)]
      ∃ die : Fin 2, ∃ n : Fin 32, ∃ t ∈ calls (.sweeper die n), ∃ k, ∃ i, callIdx (s.dev.sweep die n).calls t.2.1 t.2.2.1 =
      some (k, i)) ∧
    (∃ s : State, ∃ die : Fin 2, ∃ n : Fin 32, s.dev.forwards = true ∧ s.dev.fld F.NAT_HOLD_ack die = 0 ∧ s.dev.fld
      F.LBL_HOLD_ack die = 0 ∧
      let p := Issuer.sweeper die n
      ∃ t ∈ [(Instr.snat p, 1, 1), (.xlate p, 1, 2), (.pick p, 2, 1), (.meter p, 3, 1), (.bind p, 4, 1), (.fragXlate p, 4,
      2), (.fragRead p, 4, 3), (.hist p, 5, 1), (.ioam p, 5, 2), (.resolve p, 7, 2)], ∃ k, ∃ i, callIdx (s.dev.sweep die
      n).calls t.2.1 t.2.2 = some (k, i)) :=
  ⟨⟨units1, by decide +kernel, 0, 0, _, rfl, _, rfl, _, List.mem_cons_self, _, _, rfl⟩,
    ⟨swpCalls, by decide +kernel, 1, 0, _, List.mem_cons_self, _, _, rfl⟩,
    ⟨swpCalls, 1, 0, by decide +kernel, by decide +kernel, by decide +kernel, _, List.mem_cons_self, _, _, rfl⟩⟩

theorem witness_TranslationUnitCalls :
    (∃ s : State, ∃ inst : Fin 256, ∃ e : Fin 8, s.dev.forwards = true ∧ ∃ r, s.dev.run inst e = some r ∧ ∃ x, s.dev.pkt
      r.pkt = some x ∧ r.resv.length < 4 ∧ ∃ k, ∃ i, callIdx r.calls 1 1 = some (k, i) ∧ ∃ pc, x.pclass = some pc ∧
      r.edits.length ≤ 24 ∧ s.dev.fld F.NAT_HOLD_ack (inst.val / 128) = 0 ∧ s.dev.fld F.NAT_CTRL_alloc_host = 0 ∧ (∀ v ∈
      r.resv, ∀ a b c d f g h, v ≠ .snat a b c d f g h) ∧
      let pool := k.op 0 % 256
      let fwd := x.parse.key
      let die := s.dev.bankOf fwd / 128
      let count := s.dev.fld F.NAT_POOL_CFG_count pool
      let zone := s.dev.fld F.NAT_POOL_CFG2_rev_zone pool
      let far := match r.picked with | some (_, b) => s.dev.backendEnd b (keyDport fwd) | none => (keyDst fwd, keyDport fwd)
      count ≠ 0 ∧ s.dev.basis zone ≠ 1 ∧ v4Mapped (s.dev.natAddr (s.dev.fld F.NAT_POOL_CFG_first pool)) ≠ keyV6 fwd) ∧
    (∃ s : State, ∃ inst : Fin 256, ∃ e : Fin 8, s.dev.forwards = true ∧ ∃ r, s.dev.run inst e = some r ∧ ∃ x, s.dev.pkt
      r.pkt = some x ∧ r.resv.length < 4 ∧ ∃ k, ∃ i, callIdx r.calls 1 2 = some (k, i) ∧ s.dev.backendNow (r.view x) = .keep
      none ∧
      let es := x.xlateEdits (s.dev.xlateEnds (r.view x) (match x.flow with | some f => f.2.2 | none => false) none) (!x.parse.has .fragLater)
      r.edits.length + es.length ≤ 24) ∧
    (∃ s : State, ∃ inst : Fin 256, ∃ e : Fin 8, s.dev.forwards = true ∧ ∃ r, s.dev.run inst e = some r ∧ ∃ x, s.dev.pkt
      r.pkt = some x ∧ r.resv.length < 4 ∧ ∃ k, ∃ i, callIdx r.calls 1 2 = some (k, i) ∧ s.dev.backendNow (r.view x) = .drop
      ∧ r.edits.length ≤ 24) :=
  ⟨⟨unitsU, 0, 0, by decide +kernel, _, rfl, _, rfl, by decide +kernel, _, _, rfl, _, rfl, by decide +kernel, by decide +kernel, by decide +kernel, (by intro v h; cases h), by decide +kernel, by decide +kernel, by decide +kernel⟩,
    ⟨unitsU, 0, 0, by decide +kernel, _, rfl, _, rfl, by decide +kernel, _, _, rfl, keep_of _ (by decide +kernel), by decide +kernel⟩,
    ⟨unitsD, 0, 0, by decide +kernel, _, rfl, _, rfl, by decide +kernel, _, _, rfl, drop_of _ (by decide +kernel), by decide +kernel⟩⟩

theorem witness_ReservingUnitCalls :
    (∃ s : State, ∃ inst : Fin 256, ∃ e : Fin 8, s.dev.forwards = true ∧ ∃ r, s.dev.run inst e = some r ∧ ∃ x, s.dev.pkt
      r.pkt = some x ∧ r.resv.length < 4 ∧ r.edits.length ≤ 24 ∧ ∃ k, ∃ i, callIdx r.calls 2 1 = some (k, i) ∧ ∃ b, ∃ j,
      s.dev.pickFor (k.op 0 % 2 ^ 14) x.parse.key = some (b, j) ∧ s.dev.fld F.LBL_HOLD_ack (inst.val / 128) = 0 ∧ r.picked =
      none ∧ s.dev.svc (k.op 0 % 2 ^ 14) 2 31 1 ≠ 0) ∧
    (∃ s : State, ∃ inst : Fin 256, ∃ e : Fin 8, s.dev.forwards = true ∧ ∃ r, s.dev.run inst e = some r ∧ ∃ x, s.dev.pkt
      r.pkt = some x ∧ r.resv.length < 4 ∧ r.edits.length ≤ 24 ∧ ∃ k, ∃ i, callIdx r.calls 3 1 = some (k, i) ∧ (∀ v ∈
      r.resv, ∀ a b c d f, v ≠ .meter a b c d f)) ∧
    (∃ s : State, ∃ inst : Fin 256, ∃ e : Fin 8, s.dev.forwards = true ∧ ∃ r, s.dev.run inst e = some r ∧ ∃ x, s.dev.pkt
      r.pkt = some x ∧ r.resv.length < 4 ∧ r.edits.length ≤ 24 ∧
      let die := r.pipe / 16
      ∃ k, ∃ i, callIdx r.calls 4 1 = some (k, i) ∧ s.dev.fld F.NAT_CTRL_frag_host = 0 ∧ (∀ v ∈ r.resv, ∀ a b c, v ≠ .bind a
      b c) ∧ s.dev.binding s.clk die x.fragKey = none ∧ s.dev.nat.binds.countP (fun b => b.die == die && b.live s.clk) <
      65536) ∧
    (∃ s : State, ∃ inst : Fin 256, ∃ e : Fin 8, s.dev.forwards = true ∧ ∃ r, s.dev.run inst e = some r ∧ ∃ x, s.dev.pkt
      r.pkt = some x ∧ r.resv.length < 4 ∧ r.edits.length ≤ 24 ∧
      let die := r.pipe / 16
      ∃ b, s.dev.binding s.clk die x.fragKey = some b ∧ s.dev.fld F.NAT_CTRL_frag_host = 0 ∧ ∃ k, ∃ i, callIdx r.calls 4 3 =
      some (k, i)) ∧
    (∃ s : State, ∃ inst : Fin 256, ∃ e : Fin 8, s.dev.forwards = true ∧ ∃ r, s.dev.run inst e = some r ∧ ∃ x, s.dev.pkt
      r.pkt = some x ∧ r.resv.length < 4 ∧ r.edits.length ≤ 24 ∧
      let die := r.pipe / 16
      ∃ b, s.dev.binding s.clk die x.fragKey = some b ∧ s.dev.fld F.NAT_CTRL_frag_host = 0 ∧
      let img := (s.dev.imgNow b.recDie b.record).getD Img.empty
      let es := x.xlateEdits (s.dev.xlateEnds img b.dir (if img.lbValid then some img.backend else none)) false
      ∃ k, ∃ i, callIdx r.calls 4 2 = some (k, i) ∧ r.edits.length + es.length ≤ 24) ∧
    (∃ s : State, ∃ inst : Fin 256, ∃ e : Fin 8, s.dev.forwards = true ∧ ∃ r, s.dev.run inst e = some r ∧ ∃ x, s.dev.pkt
      r.pkt = some x ∧ r.resv.length < 4 ∧ r.edits.length ≤ 24 ∧ ∃ k, ∃ i, callIdx r.calls 5 1 = some (k, i) ∧ (∀ v ∈
      r.resv, ∀ h, v ≠ .hist h)) ∧
    (∃ s : State, ∃ inst : Fin 256, ∃ e : Fin 8, s.dev.forwards = true ∧ ∃ r, s.dev.run inst e = some r ∧ ∃ x, s.dev.pkt
      r.pkt = some x ∧ r.resv.length < 4 ∧ r.edits.length ≤ 24 ∧ ∃ k, ∃ i, callIdx r.calls 5 2 = some (k, i) ∧ (∀ v ∈
      r.resv, ∀ h, v ≠ .ioam h)) ∧
    (∃ s : State, ∃ inst : Fin 256, ∃ e : Fin 8, s.dev.forwards = true ∧ ∃ r, s.dev.run inst e = some r ∧ ∃ x, s.dev.pkt
      r.pkt = some x ∧ r.resv.length < 4 ∧ r.edits.length ≤ 24 ∧ ∃ k, ∃ i, callIdx r.calls 7 2 = some (k, i) ∧ ∃ h,
      s.dev.nhResolve (k.op 0 % 2 ^ 20) x.gen x.hash = some h) ∧
    (∃ s : State, ∃ inst : Fin 256, ∃ e : Fin 8, s.dev.forwards = true ∧ ∃ r, s.dev.run inst e = some r ∧ ∃ x, s.dev.pkt
      r.pkt = some x ∧ r.resv.length < 4 ∧ r.edits.length ≤ 24 ∧ ∃ j : Nat, ∃ c : Call, r.calls[j]? = some c ∧ 8 ≤ c.unit ∧
      c.res = none) :=
  ⟨⟨units1, 0, 0, by decide +kernel, _, rfl, _, rfl, by decide +kernel, by decide +kernel, _, _, rfl, 5, 0, by decide +kernel, by decide +kernel, by decide +kernel, by decide +kernel⟩,
    ⟨units1, 0, 0, by decide +kernel, _, rfl, _, rfl, by decide +kernel, by decide +kernel, _, _, rfl, (by intro v h; cases h)⟩,
    ⟨units1, 0, 0, by decide +kernel, _, rfl, _, rfl, by decide +kernel, by decide +kernel, _, _, rfl, by decide +kernel, (by intro v h; cases h), by decide +kernel, by decide +kernel⟩,
    ⟨unitsB, 0, 0, by decide +kernel, _, rfl, _, rfl, by decide +kernel, by decide +kernel, _, rfl, by decide +kernel, _, _, rfl⟩,
    ⟨unitsB, 0, 0, by decide +kernel, _, rfl, _, rfl, by decide +kernel, by decide +kernel, _, rfl, by decide +kernel, _, _, rfl, by decide +kernel⟩,
    ⟨units1, 0, 0, by decide +kernel, _, rfl, _, rfl, by decide +kernel, by decide +kernel, _, _, rfl, (by intro v h; cases h)⟩,
    ⟨units1, 0, 0, by decide +kernel, _, rfl, _, rfl, by decide +kernel, by decide +kernel, _, _, rfl, (by intro v h; cases h)⟩,
    ⟨units1, 0, 0, by decide +kernel, _, rfl, _, rfl, by decide +kernel, by decide +kernel, _, _, rfl, _, rfl⟩,
    ⟨units1, 0, 0, by decide +kernel, _, rfl, _, rfl, by decide +kernel, by decide +kernel, 17, _, rfl, by decide +kernel, by decide +kernel⟩⟩

theorem witness_EngineFaultsAndUnitResults :
    (∃ s : State, ∃ call : Fin 8, s.dev.forwards = true ∧ ∃ inst : Fin 256, ∃ e : Fin 8, ∃ r, s.dev.run inst e = some r ∧ ∃
      k, r.calls[call.val]? = some k ∧ ∃ v, k.res = some v) ∧
    (∃ s : State, ∃ call : Fin 8, s.dev.forwards = true ∧ ∃ die : Fin 2, ∃ n : Fin 32, ∃ k, (s.dev.sweep die
      n).calls[call.val]? = some k ∧ ∃ v, k.res = some v) ∧
    (∃ s : State, ∃ inst : Fin 256, s.dev.forwards = true ∧ ∃ e : Fin 8, ∃ r, s.dev.run inst e = some r ∧ ∃ x, s.dev.pkt
      r.pkt = some x ∧ x.id = r.pkt ∧ r.limit ≤ r.cycles s.clk) ∧
    (∃ s : State, ∃ inst : Fin 256, s.dev.forwards = true ∧ ∃ e : Fin 8, ∃ r, s.dev.run inst e = some r ∧ ∃ x, s.dev.pkt
      r.pkt = some x ∧ x.id = r.pkt ∧ x.mchecks < 2) ∧
    (∃ s : State, ∃ inst : Fin 256, s.dev.forwards = true ∧ ∃ e : Fin 8, ∃ r, s.dev.run inst e = some r ∧ ∃ x, s.dev.pkt
      r.pkt = some x ∧ x.id = r.pkt ∧ 2 ≤ x.mchecks) ∧
    (∃ s : State, s.dev.forwards = true ∧ ∃ p : Fin 32, ∃ b : Fin 48, bitOf (s.dev.fld F.ENG_ENGINE_RETIRED_retired p) b =
      true) ∧
    (∃ s : State, ∃ inst : Fin 256, s.dev.forwards = true ∧ isSpare inst = false ∧
      let ix := 6 * instPipe inst + inst.val % 8
      s.dev.fld F.ENG_CLUSTER_STATUS_state ix = 0 ∧ s.dev.eng.parityAt.num inst = 0) ∧
    (∃ s : State, ∃ inst : Fin 256, s.dev.forwards = true ∧ isSpare inst = false ∧
      let ix := 6 * instPipe inst + inst.val % 8
      s.dev.fld F.ENG_CLUSTER_STATUS_state ix = 1 ∧ s.dev.roll.begun = false ∧ s.dev.fld F.GLB_CORE_STATUS_in_service ≠ 0 ∧
      (∀ e < 8, s.dev.run inst e = none)) :=
  ⟨⟨answered, 0, by decide +kernel, 0, 0, _, rfl, _, rfl, _, rfl⟩,
    ⟨swpAnswered, 0, by decide +kernel, 1, 0, _, rfl, _, rfl⟩,
    ⟨overrun, 0, by decide +kernel, 0, _, rfl, _, rfl, by decide +kernel, by decide +kernel⟩,
    ⟨answered, 0, by decide +kernel, 0, _, rfl, _, rfl, by decide +kernel, by decide +kernel⟩,
    ⟨checked, 0, by decide +kernel, 0, _, rfl, _, rfl, by decide +kernel, by decide +kernel⟩,
    ⟨retired, by decide +kernel, 31, 47, by decide +kernel⟩,
    ⟨answered, 0, by decide +kernel, by decide +kernel, by decide +kernel, by decide +kernel⟩,
    ⟨retired, 0, by decide +kernel, by decide +kernel, by decide +kernel, by decide +kernel, by decide +kernel, by decide +kernel⟩⟩

theorem witness_SweeperWords :
    (∃ s : State, ∃ die : Fin 2, ∃ n : Fin 32, s.dev.forwards = true ∧ ∃ v, ∃ w, s.dev.swpCurrent die n = some (s.dev.sweep
      die n, v, w) ∧ (s.dev.sweep die n).slots.complete w.alu w.mem = true ∧ w.mem.op < 7 ∧
      let x := s.dev.sweep die n
      w.seq = 0) ∧
    (∃ s : State, ∃ die : Fin 2, ∃ n : Fin 32, s.dev.forwards = true ∧ ∃ v, ∃ w, s.dev.swpCurrent die n = some (s.dev.sweep
      die n, v, w) ∧ (s.dev.sweep die n).slots.complete w.alu w.mem = true ∧ w.mem.op < 7 ∧
      let x := s.dev.sweep die n
      w.seq = 1) ∧
    (∃ s : State, ∃ die : Fin 2, ∃ n : Fin 32, s.dev.forwards = true ∧ ∃ v, ∃ w, s.dev.swpCurrent die n = some (s.dev.sweep
      die n, v, w) ∧ (s.dev.sweep die n).slots.complete w.alu w.mem = true ∧ w.mem.op < 7 ∧
      let x := s.dev.sweep die n
      w.seq = 2 ∧ s.dev.fld F.PRF_SAMPLE_CTRL_enable die = 0) ∧
    (∃ s : State, ∃ die : Fin 2, ∃ n : Fin 32, s.dev.forwards = true ∧ ∃ v, ∃ w, s.dev.swpCurrent die n = some (s.dev.sweep
      die n, v, w) ∧ (s.dev.sweep die n).slots.complete w.alu w.mem = true ∧ w.mem.op < 7 ∧
      let x := s.dev.sweep die n
      w.seq = 3 ∧ s.dev.fld F.PRF_SAMPLE_CTRL_enable die = 0) ∧
    (∃ s : State, ∃ die : Fin 2, ∃ n : Fin 32, s.dev.forwards = true ∧ ∃ v, ∃ w, s.dev.swpCurrent die n = some (s.dev.sweep
      die n, v, w) ∧ (s.dev.sweep die n).slots.complete w.alu w.mem = true ∧ w.mem.op < 7 ∧
      let x := s.dev.sweep die n
      w.seq = 4) ∧
    (∃ s : State, ∃ die : Fin 2, ∃ n : Fin 32, s.dev.forwards = true ∧ ∃ v, ∃ w, s.dev.swpCurrent die n = some (s.dev.sweep
      die n, v, w) ∧ (s.dev.sweep die n).slots.complete w.alu w.mem = true ∧ w.mem.op < 7 ∧
      let x := s.dev.sweep die n
      w.seq = 5 ∧ v.resident = false) ∧
    (∃ s : State, ∃ die : Fin 2, ∃ n : Fin 32, s.dev.forwards = true ∧ ∃ v, ∃ w, s.dev.swpCurrent die n = some (s.dev.sweep
      die n, v, w) ∧ (s.dev.sweep die n).slots.complete w.alu w.mem = true ∧ w.mem.op < 7 ∧
      let x := s.dev.sweep die n
      6 ≤ w.seq) ∧
    (∃ s : State, ∃ die : Fin 2, ∃ n : Fin 32, s.dev.forwards = true ∧ ∃ v, ∃ w, s.dev.swpCurrent die n = some (s.dev.sweep
      die n, v, w) ∧ (s.dev.sweep die n).slots.memDone = false ∧
      let x := s.dev.sweep die n
      let does := fun (i : Instr) (y : Sweep) => Does i s [.swp] [] (fun d => d.sweep die n = { y with slots := { y.slots with memDone := true } })
      w.mem.op = 1 ∧ w.mem.space = 0) ∧
    (∃ s : State, ∃ die : Fin 2, ∃ n : Fin 32, s.dev.forwards = true ∧ ∃ v, ∃ w, s.dev.swpCurrent die n = some (s.dev.sweep
      die n, v, w) ∧ (s.dev.sweep die n).slots.memDone = false ∧
      let x := s.dev.sweep die n
      let does := fun (i : Instr) (y : Sweep) => Does i s [.swp] [] (fun d => d.sweep die n = { y with slots := { y.slots with memDone := true } })
      w.mem.op = 1 ∧ w.mem.space = 1) ∧
    (∃ s : State, ∃ die : Fin 2, ∃ n : Fin 32, s.dev.forwards = true ∧ ∃ v, ∃ w, s.dev.swpCurrent die n = some (s.dev.sweep
      die n, v, w) ∧ (s.dev.sweep die n).slots.memDone = false ∧
      let x := s.dev.sweep die n
      let does := fun (i : Instr) (y : Sweep) => Does i s [.swp] [] (fun d => d.sweep die n = { y with slots := { y.slots with memDone := true } })
      w.mem.op = 1 ∧ w.mem.space = 2) ∧
    (∃ s : State, ∃ die : Fin 2, ∃ n : Fin 32, s.dev.forwards = true ∧ ∃ v, ∃ w, s.dev.swpCurrent die n = some (s.dev.sweep
      die n, v, w) ∧ (s.dev.sweep die n).slots.memDone = false ∧
      let x := s.dev.sweep die n
      let does := fun (i : Instr) (y : Sweep) => Does i s [.swp] [] (fun d => d.sweep die n = { y with slots := { y.slots with memDone := true } })
      w.mem.op = 2 ∧ w.mem.space = 0) ∧
    (∃ s : State, ∃ die : Fin 2, ∃ n : Fin 32, s.dev.forwards = true ∧ ∃ v, ∃ w, s.dev.swpCurrent die n = some (s.dev.sweep
      die n, v, w) ∧ (s.dev.sweep die n).slots.memDone = false ∧
      let x := s.dev.sweep die n
      let does := fun (i : Instr) (y : Sweep) => Does i s [.swp] [] (fun d => d.sweep die n = { y with slots := { y.slots with memDone := true } })
      w.mem.op = 2 ∧ w.mem.space = 2) ∧
    (∃ s : State, ∃ die : Fin 2, ∃ n : Fin 32, s.dev.forwards = true ∧ ∃ v, ∃ w, s.dev.swpCurrent die n = some (s.dev.sweep
      die n, v, w) ∧ (s.dev.sweep die n).slots.memDone = false ∧
      let x := s.dev.sweep die n
      let does := fun (i : Instr) (y : Sweep) => Does i s [.swp] [] (fun d => d.sweep die n = { y with slots := { y.slots with memDone := true } })
      w.mem.op = 3) ∧
    (∃ s : State, ∃ die : Fin 2, ∃ n : Fin 32, s.dev.forwards = true ∧ ∃ v, ∃ w, s.dev.swpCurrent die n = some (s.dev.sweep
      die n, v, w) ∧ (s.dev.sweep die n).slots.memDone = false ∧
      let x := s.dev.sweep die n
      let does := fun (i : Instr) (y : Sweep) => Does i s [.swp] [] (fun d => d.sweep die n = { y with slots := { y.slots with memDone := true } })
      w.mem.op = 4 ∧ w.imm < 2 ^ 18) ∧
    (∃ s : State, ∃ die : Fin 2, ∃ n : Fin 32, s.dev.forwards = true ∧ ∃ v, ∃ w, s.dev.swpCurrent die n = some (s.dev.sweep
      die n, v, w) ∧ (s.dev.sweep die n).slots.memDone = false ∧
      let x := s.dev.sweep die n
      let does := fun (i : Instr) (y : Sweep) => Does i s [.swp] [] (fun d => d.sweep die n = { y with slots := { y.slots with memDone := true } })
      w.mem.op = 5) ∧
    (∃ s : State, ∃ die : Fin 2, ∃ n : Fin 32, s.dev.forwards = true ∧ ∃ v, ∃ w, s.dev.swpCurrent die n = some (s.dev.sweep
      die n, v, w) ∧ (s.dev.sweep die n).slots.memDone = false ∧
      let x := s.dev.sweep die n
      let does := fun (i : Instr) (y : Sweep) => Does i s [.swp] [] (fun d => d.sweep die n = { y with slots := { y.slots with memDone := true } })
      w.mem.op = 6) :=
  ⟨⟨swpEnd 0, 1, 0, by decide +kernel, _, _, rfl, by decide +kernel, by decide +kernel, by decide +kernel⟩,
    ⟨swpEnd 1, 1, 0, by decide +kernel, _, _, rfl, by decide +kernel, by decide +kernel, by decide +kernel⟩,
    ⟨swpEnd 2, 1, 0, by decide +kernel, _, _, rfl, by decide +kernel, by decide +kernel, by decide +kernel, by decide +kernel⟩,
    ⟨swpEnd 3, 1, 0, by decide +kernel, _, _, rfl, by decide +kernel, by decide +kernel, by decide +kernel, by decide +kernel⟩,
    ⟨swpEnd 4, 1, 0, by decide +kernel, _, _, rfl, by decide +kernel, by decide +kernel, by decide +kernel⟩,
    ⟨swpEnd 5, 1, 0, by decide +kernel, _, _, rfl, by decide +kernel, by decide +kernel, by decide +kernel, by decide +kernel⟩,
    ⟨swpEnd 6, 1, 0, by decide +kernel, _, _, rfl, by decide +kernel, by decide +kernel, by decide +kernel⟩,
    ⟨swpMem 1 0, 1, 0, by decide +kernel, _, _, rfl, by decide +kernel, by decide +kernel, by decide +kernel⟩,
    ⟨swpMem 1 1, 1, 0, by decide +kernel, _, _, rfl, by decide +kernel, by decide +kernel, by decide +kernel⟩,
    ⟨swpMem 1 2, 1, 0, by decide +kernel, _, _, rfl, by decide +kernel, by decide +kernel, by decide +kernel⟩,
    ⟨swpMem 2 0, 1, 0, by decide +kernel, _, _, rfl, by decide +kernel, by decide +kernel, by decide +kernel⟩,
    ⟨swpMem 2 2, 1, 0, by decide +kernel, _, _, rfl, by decide +kernel, by decide +kernel, by decide +kernel⟩,
    ⟨swpMem 3 0, 1, 0, by decide +kernel, _, _, rfl, by decide +kernel, by decide +kernel⟩,
    ⟨swpMem 4 0, 1, 0, by decide +kernel, _, _, rfl, by decide +kernel, by decide +kernel, by decide +kernel⟩,
    ⟨swpMem 5 0, 1, 0, by decide +kernel, _, _, rfl, by decide +kernel, by decide +kernel⟩,
    ⟨swpMem 6 0, 1, 0, by decide +kernel, _, _, rfl, by decide +kernel, by decide +kernel⟩⟩

theorem witness_SweeperFaultsAndPause :
    (∃ s : State, ∃ die : Fin 2, ∃ n : Fin 32, s.dev.forwards = true ∧ s.dev.swpState die n = 0 ∧ (s.dev.sweep die n).mchkAt
      = 0) ∧
    (∃ s : State, ∃ die : Fin 2, ∃ n : Fin 32, s.dev.forwards = true ∧ s.dev.swpState die n = 2 ∧ s.dev.fld
      F.GLB_CORE_STATUS_in_service ≠ 0 ∧ (s.dev.sweep die n).waiting = none) ∧
    (∃ s : State, ∃ die : Fin 2, ∃ n : Fin 32, s.dev.forwards = true ∧ ∃ mask : BitVec 32, bitOf mask.toNat n = true ∧
      s.dev.swpState die n = 0 ∧ (s.dev.sweep die n).slots = Slots.none ∧ (s.dev.sweep die n).calls = []) ∧
    (∃ s : State, ∃ die : Fin 2, ∃ n : Fin 32, s.dev.forwards = true ∧ ∃ mask : BitVec 32, bitOf mask.toNat n = false ∧
      s.dev.swpState die n = 1 ∧ (s.dev.sweep die n).waiting = none) ∧
    (∃ s : State, ∃ die : Fin 2, ∃ n : Fin 32, s.dev.forwards = true ∧ ∃ t, ∃ v, (s.dev.sweep die n).pausedAt = some t ∧
      s.dev.swpState die n = 1 ∧ t + edgesUs 10 < s.clk.phys ∧ (s.dev.sweep die n).visit = some v ∧ v.resident = false) :=
  ⟨⟨swpWord 0, 1, 1, by decide +kernel, by decide +kernel, by decide +kernel⟩,
    ⟨swpDead, 1, 0, by decide +kernel, by decide +kernel, by decide +kernel, by decide +kernel⟩,
    ⟨swpWord 0, 1, 0, by decide +kernel, 1, by decide +kernel, by decide +kernel, by decide +kernel, by decide +kernel⟩,
    ⟨swpPaused, 1, 0, by decide +kernel, 0, by decide +kernel, by decide +kernel, by decide +kernel⟩,
    ⟨swpPaused, 1, 0, by decide +kernel, _, _, rfl, by decide +kernel, by decide +kernel, rfl, by decide +kernel⟩⟩

theorem witness_RolloutLifecycle :
    (∃ s : State, s.dev.forwards = true ∧ s.dev.rollBusy = false ∧ s.dev.swapBusy = false ∧ s.dev.coresUp = true ∧ 1 ≤
      s.dev.fld F.ENG_ROLL_CTRL_extents ∧ s.dev.fld F.ENG_ROLL_CTRL_extents ≤ 1024) ∧
    (∃ s : State, s.dev.forwards = true ∧ s.dev.rollBusy = false ∧ s.dev.swapBusy = false ∧ s.dev.coresUp = true ∧ s.dev.fld
      F.ENG_ROLL_CTRL_extents = 0) ∧
    (∃ s : State, s.dev.forwards = true ∧ ∃ i, ∃ rest, s.dev.roll.left = (1, i) :: rest ∧ s.dev.coresUp = true ∧
      s.dev.roll.begun = true ∧ (∀ e < 8, s.dev.run i e = none) ∧ rest = [] ∧ s.dev.roll.aborting = false) ∧
    (∃ s : State, s.dev.forwards = true ∧ s.dev.rollBusy = true ∧ s.dev.roll.begun = true) ∧
    (∃ s : State, s.dev.forwards = true ∧ s.dev.rollBusy = true ∧ s.dev.roll.begun = false ∧ s.dev.fld
      F.ENG_ROLL_STATUS_state ≠ 1) :=
  ⟨⟨roll0, by decide +kernel, by decide +kernel, by decide +kernel, by decide +kernel, by decide +kernel, by decide +kernel⟩,
    ⟨roll0x, by decide +kernel, by decide +kernel, by decide +kernel, by decide +kernel, by decide +kernel⟩,
    ⟨roll4, by decide +kernel, _, _, rfl, by decide +kernel, by decide +kernel, by decide +kernel, by decide +kernel, by decide +kernel⟩,
    ⟨roll4, by decide +kernel, by decide +kernel, by decide +kernel⟩,
    ⟨roll4n, by decide +kernel, by decide +kernel, by decide +kernel, by decide +kernel⟩⟩

theorem witness_ServicesAndHealth :
    (∃ s : State, s.dev.forwards = true) ∧
    (∃ s : State, s.dev.forwards = true ∧ s.dev.fld F.LBL_SVC_CMD_busy = 0) ∧
    (∃ s : State, s.dev.forwards = true ∧ ∃ service, s.dev.nat.rebuild = some service) ∧
    (∃ s : State, ∃ b : Fin 1048576, s.dev.forwards = true ∧ s.dev.coresUp = true ∧
      let p := s.dev.probe b
      s.dev.probeKind b ≠ 0 ∧ p.open_ = false ∧ p.sentAt = 0) ∧
    (∃ s : State, ∃ b : Fin 1048576, s.dev.forwards = true ∧ s.dev.coresUp = true ∧
      let p := s.dev.probe b
      p.open_ = true ∧ s.clk.phys + 1 - p.sentAt < s.dev.probeLimit b) ∧
    (∃ s : State, ∃ b : Fin 1048576, s.dev.forwards = true ∧ s.dev.coresUp = true ∧
      let p := s.dev.probe b
      p.open_ = true ∧ s.dev.probeLimit b ≤ s.clk.phys + 1 - p.sentAt) :=
  ⟨⟨svc1, by decide +kernel⟩,
    ⟨svc1, by decide +kernel, by decide +kernel⟩,
    ⟨svc2, by decide +kernel, _, rfl⟩,
    ⟨svc1, 0, by decide +kernel, by decide +kernel, by decide +kernel, by decide +kernel, by decide +kernel⟩,
    ⟨svc3, 0, by decide +kernel, by decide +kernel, by decide +kernel, by decide +kernel⟩,
    ⟨svc2, 0, by decide +kernel, by decide +kernel, by decide +kernel, by decide +kernel⟩⟩

theorem witness_TelemetryPeriods :
    (∃ s : State, s.dev.forwards = true ∧ ∃ die : Fin 2, edgesMs 1 ≤ s.clk.phys - (s.dev.expMsg die).since ∧ ((s.dev.expMsg
      die).recs4 ≠ [] ∨ (s.dev.expMsg die).recs6 ≠ [])) ∧
    (∃ s : State, s.dev.forwards = true ∧ ∃ die : Fin 2, s.dev.templateDue s.clk die = true) ∧
    (∃ s : State, s.dev.forwards = true ∧ ∃ p : Fin 512, (s.dev.bw p).ends ≤ s.clk.stamp.units) :=
  ⟨⟨svc2, by decide +kernel, 1, by decide +kernel, by decide +kernel⟩,
    ⟨svc2, by decide +kernel, 0, by decide +kernel⟩,
    ⟨svc4, by decide +kernel, 1, by decide +kernel⟩⟩

theorem witness_SegmentRequestsAndFrees :
    (∃ s : State, s.dev.forwards = true ∧ ∃ die : Fin 2, ∃ r : Fin 256, ∃ k : Fin 3, s.dev.fld F.BPM_HOLD_ack die = 0 ∧
      s.dev.quotaOk die r k = true ∧ s.dev.inUse die k < s.dev.segments die k) ∧
    (∃ s : State, s.dev.forwards = true ∧ ∃ die : Fin 2, s.dev.fld F.BPM_HOLD_ack die = 1) ∧
    (∃ s : State, s.dev.forwards = true ∧ ∃ n : Nat, ∃ w, s.dev.bpm.retries[n]? = some w ∧ s.dev.fld F.BPM_HOLD_ack w.die =
      0 ∧ w.tries ≠ 0 ∧ w.pkt = none ∧ s.dev.inUse w.die w.pool < s.dev.segments w.die w.pool) ∧
    (∃ s : State, s.dev.forwards = true ∧ ∃ n : Nat, ∃ w, s.dev.bpm.retries[n]? = some w ∧ s.dev.fld F.BPM_HOLD_ack w.die =
      0 ∧ w.tries ≠ 0 ∧ s.dev.segments w.die w.pool ≤ s.dev.inUse w.die w.pool ∧ w.tries + 1 < 64) ∧
    (∃ s : State, ∃ h : BitVec 24, s.dev.forwards = true ∧ s.dev.badHandle h.toNat = true) ∧
    (∃ s : State, ∃ h : BitVec 24, s.dev.forwards = true ∧ s.dev.badHandle h.toNat = false ∧ s.dev.seg h.toNat = none) ∧
    (∃ s : State, ∃ h : BitVec 24, s.dev.forwards = true ∧ s.dev.badHandle h.toNat = false ∧ ∃ g, s.dev.seg h.toNat = some g
      ∧ g.retired = false ∧ 2 ≤ g.refs) ∧
    (∃ s : State, ∃ h : BitVec 24, ∃ r : Fin 256, s.dev.forwards = true ∧ s.dev.badHandle h.toNat = false ∧ ∃ g, s.dev.seg
      h.toNat = some g ∧ g.retired = false ∧ g.refs < 2 ∧ g.owner ≠ r.val) ∧
    (∃ s : State, ∃ h : BitVec 24, ∃ r : Fin 256, s.dev.forwards = true ∧ s.dev.badHandle h.toNat = false ∧ ∃ g, s.dev.seg
      h.toNat = some g ∧ g.retired = false ∧ g.refs < 2 ∧ g.owner = r.val ∧ g.condemned = false) ∧
    (∃ s : State, ∃ h : BitVec 24, ∃ r : Fin 256, s.dev.forwards = true ∧ s.dev.badHandle h.toNat = false ∧ ∃ g, s.dev.seg
      h.toNat = some g ∧ g.retired = false ∧ g.refs < 2 ∧ g.owner = r.val ∧ g.condemned = true) :=
  ⟨⟨up, by decide +kernel, 0, 0, 0, by decide +kernel, by decide +kernel, by decide +kernel⟩,
    ⟨held, by decide +kernel, 1, by decide +kernel⟩,
    ⟨retry 5, by decide +kernel, 0, _, rfl, by decide +kernel, by decide +kernel, by decide +kernel, by decide +kernel⟩,
    ⟨retry 0, by decide +kernel, 0, _, rfl, by decide +kernel, by decide +kernel, by decide +kernel, by decide +kernel⟩,
    ⟨up, 16777215, by decide +kernel, by decide +kernel⟩,
    ⟨up, 0, by decide +kernel, by decide +kernel, by decide +kernel⟩,
    ⟨segs 2 false, 0, by decide +kernel, by decide +kernel, _, rfl, by decide +kernel, by decide +kernel⟩,
    ⟨segs 1 false, 0, 0, by decide +kernel, by decide +kernel, _, rfl, by decide +kernel, by decide +kernel, by decide +kernel⟩,
    ⟨segs 1 false, 0, 255, by decide +kernel, by decide +kernel, _, rfl, by decide +kernel, by decide +kernel, by decide +kernel, by decide +kernel⟩,
    ⟨segs 1 true, 0, 255, by decide +kernel, by decide +kernel, _, rfl, by decide +kernel, by decide +kernel, by decide +kernel, by decide +kernel⟩⟩

theorem witness_FifoOperations :
    (∃ s : State, ∃ f : Fin 1024, s.dev.forwards = true ∧
      let x := s.dev.fifo f
      ∃ slot : Fin 4, s.dev.fld F.FIF_CFG_enable f = 1 ∧ s.dev.fld F.FIF_PROD_valid (4 * f.val + slot) = 1 ∧ x.tail = none ∧
      x.partialItem = none ∧ s.dev.fld F.FIF_CFG_mode f = 0 ∧ 1 ≤ s.dev.credits f slot ∧ s.dev.fld F.FIF_CFG_consumer f ≠ 2) ∧
    (∃ s : State, ∃ f : Fin 1024, s.dev.forwards = true ∧
      let x := s.dev.fifo f
      ∃ i, ∃ rest, f.val ≠ exportFifo (f.val / 512) ∧ x.whole = i :: rest ∧ s.dev.fld F.FIF_CFG_mode f = 0 ∧ i.words.length
      = x.reading.length + 1) ∧
    (∃ s : State, ∃ f : Fin 1024, s.dev.forwards = true ∧
      let x := s.dev.fifo f
      s.dev.fld F.FIF_TIMER_idle f ≠ 0 ∧ s.dev.fld F.FIF_CFG_consumer f ≠ 2 ∧ x.whole ≠ [] ∧ min (s.dev.fld F.FIF_TIMER_idle
      f) 15625 * 80 ≤ s.clk.phys - x.lastRead) ∧
    (∃ s : State, ∃ f : Fin 1024, s.dev.forwards = true ∧ s.dev.fld F.FIF_STATUS_flush_busy f = 0) ∧
    (∃ s : State, ∃ f : Fin 1024, s.dev.forwards = true ∧
      let x := s.dev.fifo f
      s.dev.fld F.FIF_STATUS_flush_busy f = 1 ∧ x.tail = none) ∧
    (∃ s : State, ∃ f : Fin 1024, s.dev.forwards = true ∧
      let x := s.dev.fifo f
      ∃ i, x.partialItem = some i ∧ edgesUs 1 ≤ s.clk.phys - x.lastWrite) :=
  ⟨⟨fifo1, 1023, by decide +kernel, 3, by decide +kernel, by decide +kernel, by decide +kernel, by decide +kernel, by decide +kernel, by decide +kernel, by decide +kernel⟩,
    ⟨fifo2, 1023, by decide +kernel, _, _, by decide +kernel, rfl, by decide +kernel, by decide +kernel⟩,
    ⟨fifo2, 1023, by decide +kernel, by decide +kernel, by decide +kernel, by decide +kernel, by decide +kernel⟩,
    ⟨fifo1, 1023, by decide +kernel, by decide +kernel⟩,
    ⟨fifo2, 1023, by decide +kernel, by decide +kernel, by decide +kernel⟩,
    ⟨fifo3, 1023, by decide +kernel, _, rfl, by decide +kernel⟩⟩

theorem witness_FramesLeavePorts :
    (∃ s : State, ∃ p : Fin 512, s.dev.forwards = true ∧ s.dev.fld F.SCH_HOLD_ack (dieOf p) = 0 ∧ s.dev.pealPort p = false ∧
      s.dev.fld F.MAC_PORT_CFG_enable p = 1 ∧ s.dev.fld F.MAC_PORT_STATUS_link_up p = 1 ∧
      let d1 := (s.dev.portLeaves p).foldl (fun d l => d.discardHead s.clk p l (d.leafQ (dieOf p) l)) s.dev
      let d2 := d1.gateWaits s.clk p
      let k := d2.pick s.clk p (d2.eligible s.clk p)
      d2.eligible s.clk p ≠ [] ∧ ∃ f, ∃ rest, k.1.leafQ (dieOf p) k.2 = f :: rest ∧ f.ptpOff = none) ∧
    (∃ s : State, ∃ p : Fin 512, s.dev.forwards = true ∧ ∃ w, ∃ rest, s.dev.sch.wire.get (fun _ => []) ⟨p, 0, 0⟩ = w :: rest
      ∧ s.dev.pealPort p = false ∧ w.frame.ioam = none ∧ w.frame.hist = none ∧ w.frame.compat = none ∧ w.frame.txRing =
      none) :=
  ⟨⟨queued, 0, by decide +kernel, by decide +kernel, by decide +kernel, by decide +kernel, by decide +kernel, by decide +kernel, _, _, rfl, by decide +kernel⟩,
    ⟨onWire, 0, by decide +kernel, _, _, rfl, by decide +kernel, by decide +kernel, by decide +kernel, by decide +kernel, by decide +kernel⟩⟩

theorem witness_GateLists :
    (∃ s : State, ∃ p : Fin 512, s.dev.forwards = true ∧ s.dev.fld F.SCH_GATE_STATUS_pending p = 0) ∧
    (∃ s : State, ∃ p : Fin 512, s.dev.forwards = true ∧ ∃ l, ∃ t, (s.dev.gate p).pend = some (l, t) ∧ t ≤
      s.clk.stamp.units) :=
  ⟨⟨up, 511, by decide +kernel, by decide +kernel⟩,
    ⟨gates, 511, by decide +kernel, _, _, rfl, by decide +kernel⟩⟩

theorem witness_ClockAdjustments :
    (∃ s : State, s.clk.slew = none) ∧
    (∃ s : State, ∃ w, s.clk.slew = some w) ∧
    (∃ s : State, s.clk.slewDue = true) :=
  ⟨⟨up, by decide +kernel⟩,
    ⟨clock1, _, rfl⟩,
    ⟨clock1, by decide +kernel⟩⟩

theorem witness_TimePinsServoAndLedger :
    (∃ s : State, s.dev.fld F.TIM_PPS_CFG_in_en = 1 ∧ s.dev.tim.ppsInLost = false ∧ edgesMs 1500 ≤ s.clk.phys -
      s.dev.tim.ppsInAt) ∧
    (∃ s : State, s.dev.fld F.TIM_PPS_CFG_out_en = 1 ∧ s.dev.tim.ppsOut = false ∧ s.dev.ppsSecond s.clk ≠
      s.dev.tim.ppsOutSec) ∧
    (∃ s : State, s.dev.tim.ppsOut = true ∧ edgesUs (min (max (s.dev.fld F.TIM_PPS_CFG_out_width) 1) 1000) ≤ s.clk.phys -
      s.dev.tim.ppsOutAt) ∧
    (∃ s : State, s.dev.forwards = true ∧ s.dev.coresUp = true ∧ s.dev.fld F.TIM_CTRL_servo_host = 0 ∧ s.dev.tim.servo =
      .acquiring) ∧
    (∃ s : State, s.dev.forwards = true ∧ s.dev.coresUp = true ∧ s.dev.fld F.TIM_CTRL_servo_host = 0 ∧ (s.dev.tim.servo =
      .acquiring ∨ s.dev.tim.servo = .locked)) ∧
    (∃ s : State, s.dev.forwards = true ∧ s.dev.coresUp = true ∧ ∃ g, s.dev.fld F.TIM_PEAL_CFG_follow = 1 ∧
      s.dev.followGroup = some g) ∧
    (∃ s : State, s.dev.forwards = true ∧ s.dev.coresUp = true ∧ ∃ g : Fin 64, s.dev.mayTalk g 4 = true ∧ s.dev.windowRoom g
      = false) ∧
    (∃ s : State, s.dev.forwards = true ∧ s.dev.coresUp = true ∧ ∃ x, s.dev.tim.pealReq = some x ∧ ∃ seq : BitVec 16, x.1 =
      seq.toNat) ∧
    (∃ s : State, s.dev.forwards = true ∧ s.dev.coresUp = true ∧ s.dev.tim.pealReq = none) ∧
    (∃ s : State, s.dev.forwards = true ∧ s.dev.coresUp = true ∧ s.dev.fld F.TIM_PEAL_CFG_follow = 1 ∧ s.dev.tim.pealLost =
      false ∧ edgesMs 10 ≤ s.clk.phys - s.dev.tim.pealDoneAt) ∧
    (∃ s : State, s.dev.tim.openRecs.length < 59) ∧
    (∃ s : State, s.dev.tim.openRecs.length = 59 ∧ s.dev.fld F.SEC_STATUS_debug_opened = 0) :=
  ⟨⟨time1, by decide +kernel, by decide +kernel, by decide +kernel⟩,
    ⟨time1, by decide +kernel, by decide +kernel, by decide +kernel⟩,
    ⟨time2, by decide +kernel, by decide +kernel⟩,
    ⟨time1, by decide +kernel, by decide +kernel, by decide +kernel, by decide +kernel⟩,
    ⟨time1, by decide +kernel, by decide +kernel, by decide +kernel, by decide +kernel⟩,
    ⟨time1, by decide +kernel, by decide +kernel, _, by decide +kernel, rfl⟩,
    ⟨time1, by decide +kernel, by decide +kernel, 63, by decide +kernel, by decide +kernel⟩,
    ⟨time2, by decide +kernel, by decide +kernel, _, rfl, 65535, by decide +kernel⟩,
    ⟨time1, by decide +kernel, by decide +kernel, by decide +kernel⟩,
    ⟨time1, by decide +kernel, by decide +kernel, by decide +kernel, by decide +kernel, by decide +kernel⟩,
    ⟨time1, by decide +kernel⟩,
    ⟨time2, by decide +kernel, by decide +kernel⟩⟩

theorem witness_TollsAndKindling :
    (∃ s : State, s.dev.forwards = true ∧ s.dev.fld F.BOOT_STATUS_phase = 7 ∧ s.dev.pwr.tripAt = none) ∧
    (∃ s : State, s.dev.forwards = true ∧ ∃ g : Fin 64, ∃ seq : BitVec 32, ∃ info : TollInfo, s.dev.fld
      F.PEL_GROUP_CFG_cable g = 0 ∧ s.dev.fld F.TWN_STATUS_role = 0 ∧ s.dev.fld F.BOOT_STATUS_phase ≠ 7 ∧ seq.toNat % 100 ≠
      0 ∧ info.serial = s.dev.fld F.BOOT_IMAGE_SERIAL_image_serial) ∧
    (∃ s : State, s.dev.forwards = true ∧ ∃ g : Fin 64, ∃ seq : BitVec 32, ∃ info : TollInfo, s.dev.fld
      F.PEL_GROUP_CFG_cable g = 0 ∧ s.dev.fld F.TWN_STATUS_role = 0 ∧ s.dev.fld F.BOOT_STATUS_phase ≠ 7 ∧ seq.toNat % 100 ≠
      0 ∧ info.serial ≠ s.dev.fld F.BOOT_IMAGE_SERIAL_image_serial) ∧
    (∃ s : State, s.dev.forwards = true ∧ s.dev.fld F.TWN_STATUS_role = 0 ∧ s.dev.others.Nodup ∧ ∃ q ∈ s.dev.others, q < 4 ∧
      (s.dev.peer q).tollIn = true) ∧
    (∃ s : State, s.dev.forwards = true ∧ s.dev.fld F.TWN_STATUS_role = 0 ∧ s.dev.others.Nodup ∧ ∃ q ∈ s.dev.others, q < 4 ∧
      ∃ info, (s.dev.peer q).tollIn = false ∧ (s.dev.peer q).missedRun = 2 ∧ (s.dev.peer q).info = some info ∧ s.dev.fld
      F.PEL_PEER_STATUS_lost q = 0 ∧ s.dev.fld F.PEL_PEER_STATUS_admitted q = 1) ∧
    (∃ s : State, s.dev.forwards = true ∧ s.dev.fld F.TWN_STATUS_role ≠ 0 ∧ s.dev.fld F.TWN_STATUS_state = 2 ∧
      s.dev.twn.keysAgree = true ∧ s.dev.twn.kindleEnd.num 1 = 0) ∧
    (∃ s : State, s.dev.forwards = true ∧ s.dev.fld F.TWN_STATUS_role ≠ 0 ∧ s.dev.fld F.TWN_STATUS_state = 2 ∧
      s.dev.twn.keysAgree = true ∧ s.dev.twn.kindleEnd.num 1 ≠ 0) ∧
    (∃ s : State, s.dev.forwards = true ∧ s.dev.fld F.TWN_STATUS_role ≠ 0 ∧ s.dev.fld F.TWN_STATUS_state = 2 ∧
      s.dev.twn.keysAgree = false ∧ s.dev.flw.recs = ⟨[]⟩) ∧
    (∃ s : State, s.dev.forwards = true ∧ s.dev.fld F.TWN_STATUS_state = 2 ∧ s.dev.fld F.TWN_KINDLE_STATUS_kstate = 4 ∧
      s.dev.lag s.clk 0 ≤ s.dev.lagBound ∧ s.dev.lag s.clk 1 ≤ s.dev.lagBound ∧ s.dev.twn.lagBadAt = 0) ∧
    (∃ s : State, s.dev.forwards = true ∧ s.dev.fld F.TWN_KINDLE_STATUS_kstate = 0 ∧ s.dev.fld F.TWN_CTRL_resync_host = 0 ∧
      s.dev.fld F.TWN_STATUS_state = 3 ∧ s.dev.seesEmber = true) ∧
    (∃ s : State, s.dev.forwards = true ∧ s.dev.fld F.TWN_KINDLE_STATUS_kstate ≠ 4 ∧ s.dev.fld F.TWN_CTRL_resync_host = 1 ∧
      s.dev.fld F.TWN_STATUS_state = 2) :=
  ⟨⟨up, by decide +kernel, by decide +kernel, by decide +kernel⟩,
    ⟨group6, by decide +kernel, 0, 1, toll 7, by decide +kernel, by decide +kernel, by decide +kernel, by decide +kernel, by decide +kernel⟩,
    ⟨group6, by decide +kernel, 0, 1, (⟨1, 0, 0, 0, 0, 7, 3, false, false, true, false, 0, 0, 2⟩), by decide +kernel, by decide +kernel, by decide +kernel, by decide +kernel, by decide +kernel⟩,
    ⟨group6, by decide +kernel, by decide +kernel, by decide +kernel, _, List.mem_cons_self, by decide +kernel, by decide +kernel⟩,
    ⟨group2, by decide +kernel, by decide +kernel, by decide +kernel, _, List.mem_cons_self, by decide +kernel, _, by decide +kernel, by decide +kernel, rfl, by decide +kernel, by decide +kernel⟩,
    ⟨kin1, by decide +kernel, by decide +kernel, by decide +kernel, by decide +kernel, by decide +kernel⟩,
    ⟨kin2, by decide +kernel, by decide +kernel, by decide +kernel, by decide +kernel, by decide +kernel⟩,
    ⟨kin3, by decide +kernel, by decide +kernel, by decide +kernel, by decide +kernel, by decide +kernel⟩,
    ⟨kin2, by decide +kernel, by decide +kernel, by decide +kernel, by decide +kernel, by decide +kernel, by decide +kernel⟩,
    ⟨kin4, by decide +kernel, by decide +kernel, by decide +kernel, by decide +kernel, by decide +kernel⟩,
    ⟨kin3, by decide +kernel, by decide +kernel, by decide +kernel, by decide +kernel⟩⟩

theorem witness_EmberEntriesApplied :
    (∃ s : State, ∃ die : Fin 2, ∃ seq : BitVec 32, s.dev.forwards = true ∧ seqNewer seq.toNat (s.dev.twn.applied.num die) =
      false) ∧
    (∃ s : State, ∃ die : Fin 2, ∃ seq : BitVec 32, ∃ body : List Byte, s.dev.forwards = true ∧ seqNewer seq.toNat
      (s.dev.twn.applied.num die) = true ∧ s.dev.fld F.TWN_STATUS_role ≠ 0 ∧ ∃ st, s.dev.underCreation (recOf body) = false
      ∧ s.dev.cmdFlow (recOf body).fwd = some (.error st)) ∧
    (∃ s : State, ∃ die : Fin 2, ∃ seq : BitVec 32, ∃ body : List Byte, s.dev.forwards = true ∧ seqNewer seq.toNat
      (s.dev.twn.applied.num die) = true ∧ s.dev.fld F.TWN_STATUS_role ≠ 0 ∧ ∃ hd, ∃ n, ∃ dir, s.dev.cmdFlow (bodyKey body)
      = some (.ok (hd, n, dir)) ∧ ∃ r, s.dev.frec hd n = some r ∧ (s.dev.imgNow hd n).isSome = true) ∧
    (∃ s : State, ∃ die : Fin 2, ∃ seq : BitVec 32, ∃ body : List Byte, s.dev.forwards = true ∧ seqNewer seq.toNat
      (s.dev.twn.applied.num die) = true ∧ s.dev.fld F.TWN_STATUS_role ≠ 0 ∧ ∃ hd, ∃ n, ∃ dir, s.dev.cmdFlow (recOf
      body).fwd = some (.ok (hd, n, dir)) ∧ (s.dev.frec hd n).isSome = true ∧ (s.dev.imgNow hd n).isSome = true) :=
  ⟨⟨applied, 1, 1, by decide +kernel, by decide +kernel⟩,
    ⟨journalX, 1, 1, List.replicate 64 0, by decide +kernel, by decide +kernel, by decide +kernel, _, by decide +kernel, rfl⟩,
    ⟨journal, 1, 1, key0, by decide +kernel, by decide +kernel, by decide +kernel, 1, 0, false, (by unfold Dev.cmdFlow; dsimp only; rw [bank130 _ _ (by decide +kernel)]; rw [show (Dev.lookup _ (130 / 128) _).2 = .found 0 false by decide +kernel]; exact if_pos (by decide +kernel)), _, rfl, by decide +kernel⟩,
    ⟨journal, 1, 1, img192, by decide +kernel, by decide +kernel, by decide +kernel, 1, 0, false, (by unfold Dev.cmdFlow; dsimp only; rw [bank130 _ _ (by decide +kernel)]; rw [show (Dev.lookup _ (130 / 128) _).2 = .found 0 false by decide +kernel]; exact if_pos (by decide +kernel)), by decide +kernel, by decide +kernel⟩⟩

theorem witness_EmberFlowControl :
    (∃ s : State, ∃ die : Fin 2, s.dev.forwards = true ∧ ∃ seq : BitVec 32, seqNewer seq.toNat (s.dev.fld
      F.TWN_STREAM_STATUS_acked_seq die) = true) ∧
    (∃ s : State, ∃ die : Fin 2, s.dev.forwards = true ∧ ∃ b : Fin 256, ∃ st, ∃ w, ∃ e, s.dev.flw.hearth.cells = [(⟨b, st,
      w⟩, .entry e)] ∧ b.val / 128 = die.val ∧ e.isRecord = true ∧ e.img.hasDeltas = true ∧ e.lock = false) ∧
    (∃ s : State, ∃ die : Fin 2, s.dev.forwards = true ∧ ∃ t, s.dev.twinInfo = some t ∧ s.dev.emberUp die = false ∧
      s.dev.seesEmber = true ∧ t.seesEmber = true ∧ s.dev.twn.keysAgree = true ∧ s.dev.unacked die = [] ∧ s.dev.backlog die
      = [] ∧ s.dev.twn.overflow.num die = 0) ∧
    (∃ s : State, ∃ die : Fin 2, s.dev.forwards = true ∧ s.dev.emberUp die = true ∧ s.dev.backlog die = [] ∧
      s.dev.twn.holdsOn.num die = 0 ∧ s.dev.lag s.clk die ≤ s.dev.lagBound) :=
  ⟨⟨kin4, 1, by decide +kernel, 1, by decide +kernel⟩,
    ⟨walk, 1, by decide +kernel, 130, 3823, 0, _, rfl, by decide +kernel⟩,
    ⟨kin4, 1, by decide +kernel, _, rfl, by decide +kernel, by decide +kernel, by decide +kernel, by decide +kernel, by decide +kernel, by decide +kernel, by decide +kernel⟩,
    ⟨emberBoth, 1, by decide +kernel, by decide +kernel, by decide +kernel, by decide +kernel, by decide +kernel⟩⟩

theorem witness_GroupDistribution :
    (∃ s : State, ∃ g : Fin 64, s.dev.emberUp 0 = false ∧ s.dev.emberUp 1 = false ∧
      let base := BitVec.ofNat 32 Reg.FLW_TIMEOUT.base
      bitOf (s.dev.fld F.PEL_DIST_CFG_accept) (s.dev.linkPeer g) = true ∧ ∃ v : BitVec 32, (s.dev.takeInbox g
      5).writeRefused s.clk 4 base.toNat v.toNat = false) ∧
    (∃ s : State, ∃ g : Fin 64, s.dev.emberUp 0 = false ∧ s.dev.emberUp 1 = false ∧ bitOf (s.dev.fld F.PEL_DIST_CFG_accept)
      (s.dev.linkPeer g) = true ∧ ∃ v : Word, (s.dev.takeInbox g 5).writeRefused s.clk 8 Reg.LBL_HASH_KEY.base v.toNat =
      false) ∧
    (∃ s : State, ∃ g : Fin 64, s.dev.emberUp 0 = false ∧ s.dev.emberUp 1 = false ∧ bitOf (s.dev.fld F.PEL_DIST_CFG_accept)
      (s.dev.linkPeer g) = true ∧ s.dev.mayTalk g 5 = true ∧ s.dev.windowRoom g = false) ∧
    (∃ s : State, ∃ g : Fin 64, s.dev.emberUp 0 = false ∧ s.dev.emberUp 1 = false ∧ bitOf (s.dev.fld F.PEL_DIST_CFG_accept)
      (s.dev.linkPeer g) = false) ∧
    (∃ s : State, s.dev.emberUp 0 = false ∧ s.dev.emberUp 1 = false ∧ ∃ h, s.dev.dist.held.find? (fun h => h.due ≤
      s.clk.units) = some h ∧ h.offset = Reg.LBL_HASH_KEY.base ∧
      ({ s.dev with dist := { s.dev.dist with held := s.dev.dist.held.erase h } } : Dev).writeRefused s.clk 8 h.offset
      h.value = false ∧ h.value < 2 ^ 64) ∧
    (∃ s : State, ∃ k, s.dev.dist.cur = some k ∧ ∃ g : Fin 64, ∃ tag : BitVec 16, k.tag = tag.toNat ∧ k.waiting.contains
      (s.dev.linkPeer g) = true ∧ k.waiting.filter (fun x => x != s.dev.linkPeer g) ≠ []) ∧
    (∃ s : State, ∃ k, s.dev.dist.cur = some k ∧ ∃ q : Fin 5, k.sentAt + edgesMs 1 ≤ s.clk.phys ∧ k.waiting.contains q.val =
      true ∧ k.waiting.filter (fun x => x != q.val) ≠ [] ∧ k.bytes.length = 32) ∧
    (∃ s : State, ∃ q : Fin 5, ∃ theirs, (s.dev.peer q).differAt ≠ 0 ∧ (s.dev.peer q).diverged = false ∧ edgesMs (max 1
      (s.dev.fld F.TWN_DIGEST_CTRL_grace_ms)) ≤ s.clk.phys + 1 - (s.dev.peer q).differAt ∧ (∀ g < 64, s.dev.linkPeer g ≠ q)
      ∧ (s.dev.firstDiffer q theirs).isSome = true ∧ s.dev.fld F.TWN_DIVERGE_CAPTURE_valid = 0) :=
  ⟨⟨dist1, 63, by decide +kernel, by decide +kernel, by decide +kernel, 63, by decide +kernel⟩,
    ⟨dist1, 63, by decide +kernel, by decide +kernel, by decide +kernel, 63, by decide +kernel⟩,
    ⟨dist1, 63, by decide +kernel, by decide +kernel, by decide +kernel, by decide +kernel, by decide +kernel⟩,
    ⟨up, 63, by decide +kernel, by decide +kernel, by decide +kernel⟩,
    ⟨dist3, by decide +kernel, by decide +kernel, ⟨0, 3, 0, Reg.LBL_HASH_KEY.base, 2 ^ 63, 0⟩, by decide +kernel, by decide +kernel, by decide +kernel, by decide +kernel⟩,
    ⟨dist2, _, rfl, 63, 65535, by decide +kernel, by decide +kernel, by decide +kernel⟩,
    ⟨dist2, _, rfl, 0, by decide +kernel, by decide +kernel, by decide +kernel, by decide +kernel⟩,
    ⟨diverged, 1, [], by decide +kernel, by decide +kernel, by decide +kernel, by decide +kernel, by decide +kernel, by decide +kernel⟩⟩

theorem witness_DebugOpening :
    (∃ s : State, s.dev.fld F.SEC_CMD_STATUS_busy = 0) ∧
    (∃ s : State, ∃ scope, s.dev.sec.clearing = some scope) :=
  ⟨⟨up, by decide +kernel⟩,
    ⟨sec1, _, rfl⟩⟩

theorem witness_FusesQuotesAndKeys :
    (∃ s : State, s.dev.fld F.SEC_CMD_STATUS_busy = 0) ∧
    (∃ s : State, ∃ op, s.dev.sec.burning = some op) ∧
    (∃ s : State, s.dev.fld F.SEC_CMD_STATUS_busy = 0 ∧ 4 ≤ s.dev.fld F.BOOT_STATUS_phase ∧ s.dev.fld F.BOOT_STATUS_phase ≠
      9 ∧ s.dev.fld F.SEC_STATUS_ladder_ready = 1) ∧
    (∃ s : State, s.dev.fld F.SEC_CMD_STATUS_busy = 0 ∧ s.dev.fld F.BOOT_STATUS_phase < 4) ∧
    (∃ s : State, s.dev.fld F.SEC_CMD_STATUS_busy = 0 ∧ s.dev.fld F.BOOT_STATUS_phase = 7 ∧ s.dev.fld
      F.SEC_STATUS_debug_opened = 0) ∧
    (∃ s : State, s.dev.fld F.SEC_CMD_STATUS_busy = 0 ∧ s.dev.fld F.BOOT_STATUS_phase ≠ 7) ∧
    (∃ s : State, s.dev.fld F.SEC_STATUS_chal_valid = 1 ∧ edgesS 600 ≤ s.clk.phys - s.dev.sec.chalAt) ∧
    (∃ s : State, s.dev.fld F.BOOT_STATUS_phase ≠ 0 ∧ s.dev.fld F.BOOT_STATUS_phase ≠ 9 ∧ s.dev.fld
      F.SEC_STATUS_ladder_blocked = 0) :=
  ⟨⟨State.reset, by decide +kernel⟩,
    ⟨sec1, _, rfl⟩,
    ⟨sec1, by decide +kernel, by decide +kernel, by decide +kernel, by decide +kernel⟩,
    ⟨State.reset, by decide +kernel, by decide +kernel⟩,
    ⟨up, by decide +kernel, by decide +kernel, by decide +kernel⟩,
    ⟨State.reset, by decide +kernel, by decide +kernel⟩,
    ⟨sec0, by decide +kernel, by decide +kernel⟩,
    ⟨up, by decide +kernel, by decide +kernel, by decide +kernel⟩⟩

theorem witness_TestAccessPort :
    ∃ addr : BitVec 27, secReach addr.toNat = false :=
  ⟨0, by decide +kernel⟩

theorem witness_ScrubbingAndChannelLoss :
    (∃ s : State, s.dev.forwards = true ∧ (∀ ix, s.dev.fld F.FLW_HBM_CH_STATUS_ue_window ix = 0 ∧ s.dev.fld
      F.FLW_HBM_CH_STATUS_ce_window ix = 0) ∧ ∃ die : Fin 2, ∃ ch : Fin 32, ch.val < s.dev.channels ∧ s.dev.windowDue die ch
      ≤ s.clk.phys) ∧
    (∃ s : State, s.dev.forwards = true ∧ (∀ ix, s.dev.fld F.FLW_HBM_CH_STATUS_ue_window ix = 0 ∧ s.dev.fld
      F.FLW_HBM_CH_STATUS_ce_window ix = 0) ∧ ∃ die : Fin 2, ∃ ch : Fin 32, ch.val < s.dev.channels ∧ s.dev.fld
      F.FLW_HBM_CH_STATUS_state (chIx die ch) = 0 ∧ s.dev.fld F.FLW_HBM_EVAC_state die = 0) ∧
    (∃ s : State, s.dev.forwards = true ∧ (∀ ix, s.dev.fld F.FLW_HBM_CH_STATUS_ue_window ix = 0 ∧ s.dev.fld
      F.FLW_HBM_CH_STATUS_ce_window ix = 0) ∧ ∃ die : Fin 2, ∃ n : BitVec 28, s.dev.flw.quar.num die n.toNat = 1) :=
  ⟨⟨up, by decide +kernel, windows0 _ rfl, 0, 0, by decide +kernel, by decide +kernel⟩,
    ⟨up, by decide +kernel, windows0 _ rfl, 0, 0, by decide +kernel, by decide +kernel, by decide +kernel⟩,
    ⟨rel4, by decide +kernel, windows0 _ rfl, 1, 0, by decide +kernel⟩⟩

theorem witness_ControlCores :
    (∃ s : State, ∃ core : Fin 8, bitOf (s.dev.fld F.GLB_CORE_STATUS_in_service) core = true ∧ s.dev.fld
      F.BOOT_SWAP_STATUS_state ≠ 3 ∧ s.dev.rel.handoverAt = none) ∧
    (∃ s : State, ∃ core : Fin 8, bitOf (s.dev.fld F.GLB_CORE_STATUS_failed) core = true ∧ s.dev.rel.returning = some
      core.val ∧ (s.dev.slot (s.dev.fld F.BOOT_SWAP_STATUS_running_slot)).sound = true) :=
  ⟨⟨rel2, 7, by decide +kernel, by decide +kernel, by decide +kernel⟩,
    ⟨rel2, 7, by decide +kernel, by decide +kernel, by decide +kernel⟩⟩

theorem witness_FirmwareSwapAndRolloutImage :
    (∃ s : State, s.dev.coresUp = true ∧ s.dev.swapBusy = false ∧ s.dev.rollBusy = false ∧ s.dev.fld F.HST_MODE_STATUS_busy
      = 0 ∧ s.dev.fld F.BOOT_STATUS_phase = 7 ∧ 1 ≤ s.dev.fld F.BOOT_SWAP_CTRL_extents ∧ s.dev.fld F.BOOT_SWAP_CTRL_extents
      ≤ 1024) ∧
    (∃ s : State, s.dev.coresUp = true ∧ s.dev.fld F.BOOT_SWAP_STATUS_state = 1) ∧
    (∃ s : State, s.dev.coresUp = true ∧ s.dev.fld F.BOOT_SWAP_STATUS_state = 3) ∧
    (∃ s : State, s.dev.coresUp = true ∧ ∃ t, s.dev.rel.handoverAt = some t ∧ t + edgesMs 100 ≤ s.clk.phys ∧
      s.dev.fuse.epoch ≤ leAt (s.dev.slot s.dev.standbySlot).image 23 1 ∧ (s.dev.slot s.dev.standbySlot).sound = true) ∧
    (∃ s : State, s.dev.coresUp = true ∧ s.dev.forwards = true ∧ s.dev.fld F.ENG_ROLL_STATUS_state = 1) :=
  ⟨⟨rel1, by decide +kernel, by decide +kernel, by decide +kernel, by decide +kernel, by decide +kernel, by decide +kernel, by decide +kernel⟩,
    ⟨rel2, by decide +kernel, by decide +kernel⟩,
    ⟨rel3, by decide +kernel, by decide +kernel⟩,
    ⟨rel1, by decide +kernel, _, rfl, by decide +kernel, by decide +kernel, by decide +kernel⟩,
    ⟨rel2, by decide +kernel, by decide +kernel, by decide +kernel⟩⟩

theorem witness_VoltageDamperAndSideband :
    (∃ s : State, ∃ rail : Fin 3, ∃ want : BitVec 12, s.dev.fld F.BOOT_STATUS_phase ≠ 0 ∧ s.dev.pwr.avsAt.num rail = 0 ∧
      let now := s.dev.fld F.PWR_RAIL_STATUS_setpoint_mv rail
      let goal := min 780 (max 620 want.toNat)
      let target := if now ≤ goal then min goal (now + 5) else max goal (now - 5)
      target ≠ now) ∧
    (∃ s : State, ∃ rail : Fin 3, ∃ want : BitVec 12, s.dev.fld F.BOOT_STATUS_phase ≠ 0 ∧ s.dev.pwr.avsAt.num rail = 0 ∧
      let now := s.dev.fld F.PWR_RAIL_STATUS_setpoint_mv rail
      let goal := min 780 (max 620 want.toNat)
      780 < want.toNat) ∧
    (∃ s : State, s.dev.pwr.tripAt = none) ∧
    (∃ s : State, ∃ rail : Fin 3, ∃ amps : BitVec 32, ∃ ballast : BitVec 32, ∃ q, s.dev.pwr.waiting.find? (fun q => q.rail
      == rail.val) = some q ∧ (s.dev.damper s.clk rail amps.toNat ballast.toNat false).pwr.estimate.num rail + q.step ≤
      (s.dev.damper s.clk rail amps.toNat ballast.toNat false).pwr.ceiling.num rail) ∧
    (∃ s : State, ∃ rail : Fin 3, ∃ q, s.dev.pwr.waiting.find? (fun q => q.rail == rail.val && !q.deferred && edgesUs 100 <
      s.clk.phys - q.at_) = some q) ∧
    (∃ s : State, s.dev.pwr.smbAlert = false) ∧
    (∃ s : State, s.dev.pwr.smbAlert = true) ∧
    (∃ addr : BitVec 27, sbWritable addr.toNat = false) :=
  ⟨⟨pwr1, 2, 2, by decide +kernel, by decide +kernel, by decide +kernel⟩,
    ⟨pwr1, 2, 781, by decide +kernel, by decide +kernel, by decide +kernel⟩,
    ⟨pwr1, by decide +kernel⟩,
    ⟨pwr5, 2, 2, 2, _, rfl, by decide +kernel⟩,
    ⟨pwr5, 2, _, rfl⟩,
    ⟨pwr1, by decide +kernel⟩,
    ⟨pwr2, by decide +kernel⟩,
    ⟨2, by decide +kernel⟩⟩

theorem witness_PowerTrips :
    (∃ s : State, s.dev.pwr.tripAt = none ∧ s.dev.fld F.PWR_TRIP_CAPTURE_valid = 0 ∧ s.dev.liveFld F.PWR_TRIP_CFG_coolant_en
      = 1) ∧
    (∃ s : State, s.dev.pwr.tripAt = none ∧ s.dev.fld F.PWR_TRIP_CAPTURE_valid = 0 ∧ ∃ rail : Fin 3, s.dev.fld
      F.PWR_RAIL_STATUS_setpoint_mv rail = 780) ∧
    (∃ s : State, s.dev.pwr.tripAt = none ∧ s.dev.fld F.PWR_TRIP_CAPTURE_valid = 0 ∧ ∃ n : Fin 36, ∃ v : BitVec 12, n.val =
      32 ∧ 105 ≤ v.toNat % 256) ∧
    (∃ n : Fin 36, n.val < 32) ∧
    (∃ s : State, ∃ t, s.dev.pwr.tripAt = some t ∧ s.dev.pwr.stopped = false ∧ s.dev.pwr.tripRamp ≤ s.clk.phys - t) :=
  ⟨⟨pwr4, by decide +kernel, by decide +kernel, by decide +kernel⟩,
    ⟨pwr2, by decide +kernel, by decide +kernel, 2, by decide +kernel⟩,
    ⟨pwr4, by decide +kernel, by decide +kernel, 32, 105, by decide +kernel, by decide +kernel⟩,
    ⟨2, by decide +kernel⟩,
    ⟨pwr3, _, rfl, by decide +kernel, by decide +kernel⟩⟩

end Sys2Proof.Tests
end

/-! The SDT is read-only (R33): accesses to it in the model's access functions, and what remains of a device after a
discarded write. -/
namespace Sys2Proof.Machine

/-! ### The addresses of the SDT -/

/-- A BAR0 address of the SDT header or of its body (R33). -/
def InSdt (addr : Nat) : Prop := addr < 0x80 ∨ 0x4000000 ≤ addr ∧ addr < 0x4400000

theorem placeOf_sdt {addr : Nat} (h : InSdt addr) : placeOf addr = .sdt := by
  unfold InSdt at h
  simp [placeOf, h]

/-- Header and body end at multiples of 8, so an aligned 64-bit access lies in the SDT with both of its halves. -/
theorem InSdt.add_four {addr : Nat} (h : InSdt addr) (aligned : addr % 8 = 0) : InSdt (addr + 4) := by
  unfold InSdt at *
  omega

theorem InSdt.ne_adjCtrl {addr : Nat} (h : InSdt addr) : addr ≠ adjCtrl := by
  have base : adjCtrl = 0x100148 := rfl
  unfold InSdt at h
  omega

theorem InSdt.accessOk_four {addr : Nat} (h : InSdt addr) (aligned : addr % 4 = 0) : accessOk addr 4 = true := by
  unfold InSdt at h
  simp only [accessOk, beq_self_eq_true, Bool.true_or, Bool.true_and, Bool.and_eq_true, beq_iff_eq, decide_eq_true_eq]
  omega

/-- The accesses the fabric serves (R37). -/
theorem size_of_accessOk {addr size : Nat} (h : accessOk addr size = true) : size = 4 ∨ size = 8 ∧ addr % 8 = 0 := by
  simp only [accessOk, Bool.and_eq_true, Bool.or_eq_true, beq_iff_eq, decide_eq_true_eq] at h
  obtain ⟨⟨rfl | rfl, aligned⟩, -⟩ := h
  · exact .inl rfl
  · exact .inr ⟨rfl, aligned⟩

/-! ### Reads -/

theorem Dev.read32_sdt (d : Dev) (c : Clock) (req : Nat) {addr : Nat} (h : InSdt addr) :
    d.read32 c req addr = (d, d.sdtRead addr) := by
  simp [Dev.read32, placeOf_sdt h]

theorem Dev.read_sdt_four (d : Dev) (c : Clock) (req : Nat) {addr : Nat} (h : InSdt addr)
    (ok : accessOk addr 4 = true) : d.read c req addr 4 = (d, some (d.sdtRead addr)) := by
  simp [Dev.read, ok, d.read32_sdt c req h]

theorem Dev.read_sdt_eight (d : Dev) (c : Clock) (req : Nat) {addr : Nat} (h : InSdt addr) (aligned : addr % 8 = 0)
    (ok : accessOk addr 8 = true) :
    d.read c req addr 8 = (d, some (d.sdtRead addr + d.sdtRead (addr + 4) * 2 ^ 32)) := by
  simp [Dev.read, ok, placeOf_sdt h, d.read32_sdt c req h, d.read32_sdt c req (h.add_four aligned)]

/-- A read of the SDT answers and has no side effect. -/
theorem Dev.read_sdt (d : Dev) (c : Clock) (req : Nat) {addr size : Nat} (h : InSdt addr)
    (ok : accessOk addr size = true) : ∃ v, d.read c req addr size = (d, some v) := by
  obtain rfl | ⟨rfl, aligned⟩ := size_of_accessOk ok
  · exact ⟨_, d.read_sdt_four c req h ok⟩
  · exact ⟨_, d.read_sdt_eight c req h aligned ok⟩

theorem Dev.readOut_sdt_four (d : Dev) (c : Clock) (req : Nat) {addr : Nat} (h : InSdt addr) (aligned : addr % 4 = 0) :
    d.readOut c req addr 4 = d.emit (.readData req (d.sdtRead addr)) := by
  simp [Dev.readOut, d.read_sdt_four c req h (h.accessOk_four aligned)]

/-! ### Writes -/

/-- What a write to the SDT leaves of the device `d`: everything but what the event it raised changes (R431, R433). -/
structure Dev.SdtWriteDiscarded (d e : Dev) : Prop where
  parts : d.KeepsParts e evtParts
  fields : d.KeepsFields e true []
  pending : e.evtPending Ev.SDT_WRITE.code = true

/-- One 32-bit write more to the SDT after any number of discarded ones. -/
theorem Dev.write32_sdt {d e : Dev} (parts : d.KeepsParts e evtParts) (fields : d.KeepsFields e true []) (c : Clock)
    (req : Nat) {addr : Nat} (h : InSdt addr) (v : Nat) : d.SdtWriteDiscarded (e.write32 c req addr v) := by
  have raised : e.write32 c req addr v = e.raise c .SDT_WRITE 0 0 [(27, addr)] := by
    simp [Dev.write32, placeOf_sdt h]
  rw [raised]
  exact ⟨parts.raise (List.Subset.refl _) _ _ _ _ _ _, fields.raise _ _ _ _ _ _, e.raise_pends _ _ _ _ _ _⟩

/-- A write of 64 bits is two writes of 32 bits, each discarded with its event. -/
theorem Dev.write_sdt (d : Dev) (c : Clock) (req : Nat) {addr size : Nat} (h : InSdt addr)
    (ok : accessOk addr size = true) (v : Nat) : d.SdtWriteDiscarded (d.write c req addr size v) := by
  have first (w : Nat) := Dev.write32_sdt (.refl d _) (.refl d _ _) c req h w
  obtain rfl | ⟨rfl, aligned⟩ := size_of_accessOk ok
  · have one : d.write c req addr 4 v = d.write32 c req addr v := by simp [Dev.write, ok]
    rw [one]
    exact first v
  · have two : d.write c req addr 8 v =
        (d.write32 c req addr (v % 2 ^ 32)).write32 c req (addr + 4) (v / 2 ^ 32 % 2 ^ 32) := by
      simp [Dev.write, ok, placeOf_sdt h]
    rw [two]
    exact Dev.write32_sdt (first _).parts (first _).fields c req (h.add_four aligned) _

/-- Only TIM_ADJ_CTRL acts on the clock (R370). -/
theorem writeState_of_ne_adjCtrl (s : State) (req size v : Nat) {addr : Nat} (h : addr ≠ adjCtrl) :
    writeState s req addr size v = { s with dev := s.dev.write s.clk req addr size v } := by
  simp [writeState, h]

theorem exec_registerWrite_sdt (s : State) (req : Fin 13) (addr : BitVec 27) (size : Fin 16) (value : Word)
    (h : InSdt addr.toNat) :
    exec (.registerWrite req addr size value) s = .next { s with
      dev := (s.dev.write s.clk req addr.toNat size value.toNat).emberReroute s.dev s.clk } := by
  simp [execRegisterWrite, relink, writeState_of_ne_adjCtrl s _ _ _ h.ne_adjCtrl]

theorem exec_halfReadCapture_sdt (s : State) (req : Fin 13) (addr : BitVec 27) (h : InSdt addr.toNat)
    (aligned : addr.toNat % 4 = 0) :
    exec (.halfReadCapture req addr) s = .next { s with
      dev := s.dev.emit (.readData req (s.dev.sdtRead addr.toNat)) } := by
  simp [execHalfReadCapture, s.dev.readOut_sdt_four s.clk req h aligned]

end Sys2Proof.Machine

namespace Sys2Proof.Proofs
open Sys2Proof Sys2Proof.Machine

/-- Settles O8: every address of the SDT leads to the same place, where a write of either size does nothing but raise
EV_SDT_WRITE and a read answers with the device unchanged. -/
theorem sdtIsReadOnly : Obligations.SdtIsReadOnly := by
  unfold Obligations.SdtIsReadOnly
  intro s addr (h : InSdt addr.toNat)
  refine ⟨fun req size ok => ⟨fun value => ?_, s.dev.read_sdt s.clk req h ok⟩,
    fun req aligned => ⟨_, exec_halfReadCapture_sdt s req addr h aligned⟩⟩
  have discarded := s.dev.write_sdt s.clk req h ok value.toNat
  exact ⟨_, exec_registerWrite_sdt s req addr size value h, discarded.parts, discarded.fields, discarded.pending⟩

end Sys2Proof.Proofs

/-! Ethernet lanes and their ports (R98, R114): what the failure and the training of a lane do to the lane, its port's
link and the events, and when training is retried. -/
namespace Sys2Proof.Machine

/-! ### What a re-evaluation of links and squelch leaves of the lanes and events -/

/-- The lanes' state beside the registers stays, and no pending event is withdrawn. -/
structure Dev.KeepsLanes (d e : Dev) : Prop where
  lanes : e.net.lanes = d.net.lanes
  pending : ∀ x, d.evtPending x = true → e.evtPending x = true

namespace Dev.KeepsLanes
variable {d e : Dev}

theorem refl (d : Dev) : d.KeepsLanes d := ⟨rfl, fun _ hx => hx⟩

theorem trans {f : Dev} (h : d.KeepsLanes e) (k : e.KeepsLanes f) : d.KeepsLanes f :=
  ⟨k.lanes.trans h.lanes, fun x hx => k.pending x (h.pending x hx)⟩

theorem put (h : d.KeepsLanes e) (f : Fld) (ix v : Nat) (hf : (f.reg == .EVT_PEND) = false) :
    d.KeepsLanes (e.put f ix v) :=
  ⟨h.lanes, fun x hx => (e.put_evtPending f ix v x hf).trans (h.pending x hx)⟩

theorem emit (h : d.KeepsLanes e) (o : Out) : d.KeepsLanes (e.emit o) :=
  ⟨h.lanes, fun x hx => (e.emit_evtPending o x).trans (h.pending x hx)⟩

theorem raise (h : d.KeepsLanes e) (c : Clock) (v : Ev) (k i : Nat) : d.KeepsLanes (e.raise c v k i) :=
  ⟨by rw [Dev.raise_net, h.lanes], fun x hx => e.raise_keeps _ _ _ _ _ _ x (h.pending x hx)⟩

theorem lane (h : d.KeepsLanes e) (n : Nat) : e.lane n = d.lane n := by
  unfold Dev.lane
  rw [h.lanes]

end Dev.KeepsLanes

theorem Dev.clearPause_keepsLanes (d : Dev) (p : Nat) : d.KeepsLanes (d.clearPause p) := by
  have h := ((KeepsLanes.refl d).put F.MAC_PORT_STATUS_pfc_tx p 0 rfl).put F.MAC_PORT_STATUS_pfc_rx p 0 rfl
  unfold Dev.clearPause
  refine ⟨h.lanes, fun x hx => ?_⟩
  simp only [Dev.evtPending_mk, Dev.pendingAt_regs]
  exact h.pending x hx

theorem Dev.linkEval_keepsLanes (d : Dev) (c : Clock) (p : Nat) (rf : Bool) : d.KeepsLanes (d.linkEval c p rf) := by
  unfold Dev.linkEval Dev.putB
  extract_lets en d1 al rf2 up was d2
  have h1 : d.KeepsLanes d1 := by
    unfold d1
    split
    · exact .refl d
    · exact d.clearPause_keepsLanes p
  have h2 : d.KeepsLanes d2 := ((h1.put _ _ _ rfl).put _ _ _ rfl).put _ _ _ rfl
  split
  · exact h2
  · split <;> exact h2.raise _ _ _ _

theorem Dev.lanePort_keepsLanes (d : Dev) (c : Clock) (n : Nat) : d.KeepsLanes (d.lanePort c n) := by
  unfold Dev.lanePort
  split
  · exact .refl d
  · exact d.linkEval_keepsLanes c _ _

theorem Dev.rclkEval_keepsLanes (d : Dev) (c : Clock) : d.KeepsLanes (d.rclkEval c) := by
  unfold Dev.rclkEval
  refine List.foldlRecOn _ _ (.refl d) fun e he k _ => ?_
  dsimp only
  split
  · exact he
  · exact ((he.put _ _ _ rfl).emit _).raise _ _ _ _

/-- No lane changes state when a port's link and the squelch are re-evaluated. -/
theorem Dev.rclkEval_lanePort_laneState (d : Dev) (c : Clock) (n m : Nat) :
    ((d.lanePort c n).rclkEval c).laneState m = d.laneState m :=
  (((d.lanePort c n).rclkEval_keeps c).fld _ _ (by decide)).trans ((d.lanePort_keeps c n).fld _ _ (by decide))

/-! ### The port of a lane and its alignment -/

section
variable {d e : Dev} {rs : List Reg} (h : d.KeepsRegs e rs) (group : rs.contains .PEL_GROUP_CFG = false)
  (port : rs.contains .MAC_PORT_CFG = false)
include h group

theorem Dev.KeepsRegs.pealLane (n : Nat) : e.pealLane n = d.pealLane n := by
  simp only [Dev.pealLane, Dev.flag_eq, h.fld F.PEL_GROUP_CFG_peal_en _ group]

include port

theorem Dev.KeepsRegs.portLanes (p : Nat) : e.portLanes p = d.portLanes p := by
  simp only [Dev.portLanes, Dev.pealPort, Dev.flag_eq, h.fld F.PEL_GROUP_CFG_peal_en _ group,
    h.fld F.PEL_GROUP_CFG_lane_mask _ group, h.fld F.MAC_PORT_CFG_lanes _ port]

theorem Dev.KeepsRegs.portOfLane (configured : e.net.configured = d.net.configured) (n : Nat) :
    e.portOfLane n = d.portOfLane n := by
  simp only [Dev.portOfLane, configured, h.portLanes group port]

theorem Dev.KeepsRegs.portAligned (lane : rs.contains .LANE_STATUS = false) (p : Nat) :
    e.portAligned p = d.portAligned p := by
  simp only [Dev.portAligned, h.portLanes group port, h.fld F.LANE_STATUS_state _ lane]

end

theorem Dev.lanePort_of_portOfLane {d : Dev} {n p : Nat} (c : Clock) (port : d.portOfLane n = some p) :
    d.lanePort c n = d.linkEval c p (d.flag F.MAC_PORT_STATUS_remote_fault p) := by
  simp [Dev.lanePort, port]

/-- A port with a lane that is not up is not aligned (R98). -/
theorem Dev.portAligned_of_lane_not_up {d : Dev} {n p : Nat} (port : d.portOfLane n = some p)
    (down : d.laneState n ≠ 2) : d.portAligned p = false := by
  obtain ⟨first, last⟩ : p ≤ n ∧ n < p + d.portLanes p := by simpa using List.find?_some port
  refine List.all_eq_false.mpr ⟨n - p, List.mem_range.mpr (by omega), ?_⟩
  rw [Nat.add_sub_cancel' first]
  simpa [Dev.laneState] using down

@[simp] theorem Dev.clearPause_link_up (d : Dev) (p q : Nat) :
    (d.clearPause p).fld F.MAC_PORT_STATUS_link_up q = d.fld F.MAC_PORT_STATUS_link_up q := by
  unfold Dev.clearPause
  simp only [Dev.fld_mk, Dev.fldAt_regs]
  rw [Dev.fld_put_apart, Dev.fld_put_apart] <;> decide

/-- A port that is not aligned has no link, and the loss of a link is an event (R98). -/
theorem Dev.linkEval_of_not_aligned (d : Dev) (c : Clock) (p : Nat) (rf : Bool) (apart : d.portAligned p = false)
    (up : d.fld F.MAC_PORT_STATUS_link_up p = 1) :
    (d.linkEval c p rf).fld F.MAC_PORT_STATUS_link_up p = 0 ∧
      (d.linkEval c p rf).evtPending Ev.MAC_LINK_DOWN.code = true := by
  unfold Dev.linkEval Dev.putB
  extract_lets en d1 al rf2 now was d2
  have before : al = false ∧ was = true := by
    unfold al was d1
    split
    · exact ⟨apart, by simp [Dev.flag_eq, up]⟩
    · exact ⟨((d.clearPause_keeps p).portAligned (by decide) (by decide) (by decide) p).trans apart,
        by simp [Dev.flag_eq, up]⟩
  have lost : now = false := by simp [now, before.1]
  have event : (if (now == was) = true then d2 else if now = true then d2.raise c .MAC_LINK_UP 8 p
      else d2.raise c .MAC_LINK_DOWN 8 p) = d2.raise c .MAC_LINK_DOWN 8 p := by
    simp [lost, before.2]
  have down : d2.fld F.MAC_PORT_STATUS_link_up p = 0 := by
    unfold d2
    rw [lost]
    exact Dev.fld_put_small _ _ _ _ (by decide) (by decide)
  rw [event]
  exact ⟨(d2.raise_fld _ _ _ _ _ _ _ _ (by decide)).trans down, d2.raise_pends _ _ _ _ _ _⟩

/-! ### The failure of a lane (R113, R114) -/

/-- What the cause of a failure takes from a lane: its signal, its PLL lock or its FEC alignment. -/
def Dev.laneLost (d : Dev) (n cause : Nat) : Dev :=
  match cause with
  | 0 => d.put F.LANE_STATUS_rx_signal n 0
  | 1 => d.put F.LANE_STATUS_pll_lock n 0
  | 2 => d.put F.LANE_STATUS_fec_lock n 0
  | _ => d

/-- The device when a lane has failed and nothing has followed the lane yet. -/
def Dev.laneFailed (d : Dev) (c : Clock) (n cause : Nat) : Dev :=
  let d := d.laneLost n cause
  ((d.setLane n { d.lane n with failedAt := c.phys, badWindows := 0 }).put F.LANE_STATUS_state n 4).raise c
    .LANE_FAILED 4 n

theorem Dev.laneLost_keeps (d : Dev) (n cause : Nat) : d.KeepsRegs (d.laneLost n cause) [.LANE_STATUS] := by
  unfold Dev.laneLost
  split
  · exact (KeepsRegs.refl d _).put _ _ _ (by decide)
  · exact (KeepsRegs.refl d _).put _ _ _ (by decide)
  · exact (KeepsRegs.refl d _).put _ _ _ (by decide)
  · exact .refl d _

@[simp] theorem Dev.laneLost_net (d : Dev) (n cause : Nat) : (d.laneLost n cause).net = d.net := by
  unfold Dev.laneLost
  split <;> rfl

@[simp] theorem Dev.lane_setLane (d : Dev) (n : Nat) (l : LaneSt) : (d.setLane n l).lane n = l :=
  Tbl.get_set_same ..

theorem Dev.laneFailed_keeps (d : Dev) (c : Clock) (n cause : Nat) :
    d.KeepsRegs (d.laneFailed c n cause) ([.LANE_STATUS] ++ evtRegs) :=
  have lost : d.KeepsRegs (d.laneLost n cause) ([.LANE_STATUS] ++ evtRegs) :=
    (d.laneLost_keeps n cause).mono (by decide)
  ((lost.of_regs (f := Dev.setLane _ _ _) rfl).put _ _ _ (by decide)).raise (by decide) _ _ _ _ _ _

theorem Dev.laneFailed_configured (d : Dev) (c : Clock) (n cause : Nat) :
    (d.laneFailed c n cause).net.configured = d.net.configured := by
  simp [Dev.laneFailed, Dev.setLane]

@[simp] theorem Dev.laneFailed_laneState (d : Dev) (c : Clock) (n cause : Nat) :
    (d.laneFailed c n cause).laneState n = 4 :=
  (Dev.raise_fld _ _ _ _ _ _ _ _ _ (by decide)).trans (Dev.fld_put_small _ _ _ _ (by decide) (by decide))

theorem Dev.laneFailed_failedAt (d : Dev) (c : Clock) (n cause : Nat) :
    ((d.laneFailed c n cause).lane n).failedAt = c.phys := by
  simp [Dev.laneFailed, Dev.lane, Dev.setLane]

theorem Dev.laneFailed_pends (d : Dev) (c : Clock) (n cause : Nat) :
    (d.laneFailed c n cause).evtPending Ev.LANE_FAILED.code = true :=
  Dev.raise_pends _ _ _ _ _ _ _

/-- The failure of an Ethernet lane in operation fails the lane, then its port's link and the squelch follow. -/
theorem Dev.laneFail_ethernet {d : Dev} {n : Nat} (c : Clock) (cause : Nat) (ethernet : d.pealLane n = false)
    (up : d.laneState n = 2) :
    d.laneFail c n cause = ((d.laneFailed c n cause).lanePort c n).rclkEval c := by
  have still : (d.laneFailed c n cause).pealLane n = false :=
    ((d.laneFailed_keeps c n cause).pealLane (by decide) n).trans ethernet
  unfold Dev.laneFail
  extract_lets s lost before stamped failed g marked followed
  have branch : followed = failed.lanePort c n := if_neg (Bool.eq_false_iff.mp still)
  rw [if_neg (by simp [s, up]), branch]
  rfl

theorem exec_laneFail_ethernet {s : State} {n : Fin 512} (forwards : s.dev.forwards = true)
    (ethernet : s.dev.pealLane n = false) (up : s.dev.laneState n = 2) (cause : Fin 4) :
    exec (.laneFail n cause) s = .next { s with
      dev := (((s.dev.laneFailed s.clk n cause).lanePort s.clk n).rclkEval s.clk).emberReroute s.dev s.clk } := by
  rw [exec_laneFail, execLaneFail, onLink_next _ _ forwards, Dev.laneFail_ethernet s.clk cause ethernet up]

/-- A lane that fails while its port has a link takes the link down (R98, R114). -/
theorem Dev.laneFailed_takes_link_down {d : Dev} {n p : Nat} (c : Clock) (cause : Nat)
    (port : d.portOfLane n = some p) (up : d.fld F.MAC_PORT_STATUS_link_up p = 1) :
    ((d.laneFailed c n cause).lanePort c n).fld F.MAC_PORT_STATUS_link_up p = 0 ∧
      ((d.laneFailed c n cause).lanePort c n).evtPending Ev.MAC_LINK_DOWN.code = true := by
  have kept := d.laneFailed_keeps c n cause
  have samePort : (d.laneFailed c n cause).portOfLane n = some p :=
    (kept.portOfLane (by decide) (by decide) (d.laneFailed_configured c n cause) n).trans port
  rw [Dev.lanePort_of_portOfLane c samePort]
  exact Dev.linkEval_of_not_aligned _ c p _ (portAligned_of_lane_not_up samePort (by simp))
    ((kept.fld _ _ (by decide)).trans up)

/-! ### Training again (R114) -/

/-- A lane that trained is up, with signal, PLL lock and FEC alignment. -/
def Dev.laneRegained (d : Dev) (n : Nat) : Dev :=
  (((d.put F.LANE_STATUS_state n 2).put F.LANE_STATUS_rx_signal n 1).put F.LANE_STATUS_pll_lock n 1).put
    F.LANE_STATUS_fec_lock n 1

theorem Dev.laneRegained_keeps (d : Dev) (n : Nat) : d.KeepsRegs (d.laneRegained n) [.LANE_STATUS] :=
  ((((KeepsRegs.refl d _).put _ _ _ (by decide)).put _ _ _ (by decide)).put _ _ _ (by decide)).put _ _ _ (by decide)

theorem Dev.laneRegained_laneState (d : Dev) (n : Nat) : (d.laneRegained n).laneState n = 2 := by
  unfold Dev.laneRegained Dev.laneState
  rw [Dev.fld_put_apart, Dev.fld_put_apart, Dev.fld_put_apart, Dev.fld_put_small] <;> decide

/-- When an Ethernet lane has trained, its port's link and the squelch follow it. -/
theorem Dev.laneUp_ethernet {d : Dev} {n : Nat} (c : Clock) (ethernet : d.pealLane n = false) :
    d.laneUp c n = ((d.laneRegained n).lanePort c n).rclkEval c := by
  have still : (d.laneRegained n).pealLane n = false :=
    ((d.laneRegained_keeps n).pealLane (by decide) n).trans ethernet
  unfold Dev.laneUp
  extract_lets trained g marked want ready mask followed
  have branch : followed = trained.lanePort c n := if_neg (Bool.eq_false_iff.mp still)
  rw [branch]
  rfl

/-- When a lane of an Ethernet port is due for training: it is failed, its port is enabled and 1,000 ms have passed
since the failure or the last failed retry. -/
def Dev.RetryDue (d : Dev) (c : Clock) (n p : Nat) : Prop :=
  d.laneState n = 4 ∧ d.fld F.MAC_PORT_CFG_enable p = 1 ∧ (d.lane n).failedAt + edgesMs 1000 ≤ c.phys

theorem exec_laneRetryTraining_forwards {s : State} {n : Fin 512} (forwards : s.dev.forwards = true) (trained : Bool) :
    exec (.laneRetryTraining n trained) s = .next { s with
      dev := (s.dev.laneRetry s.clk n trained).emberReroute s.dev s.clk } := by
  rw [exec_laneRetryTraining, execLaneRetryTraining, onLink_next _ _ forwards]

theorem Dev.laneRetry_due {d : Dev} {c : Clock} {n p : Nat} (port : d.portOfLane n = some p)
    (due : d.RetryDue c n p) (trained : Bool) :
    d.laneRetry c n trained =
      if trained then d.laneUp c n else d.setLane n { d.lane n with failedAt := c.phys } := by
  obtain ⟨failed, enabled, passed⟩ := due
  have late : ¬ c.phys - (d.lane n).failedAt < edgesMs 1000 := by omega
  simp [Dev.laneRetry, port, Dev.flag_eq, failed, enabled, late]

theorem Dev.laneRetry_not_due {d : Dev} {c : Clock} {n p : Nat} (ethernet : d.pealLane n = false)
    (port : d.portOfLane n = some p) (early : ¬ d.RetryDue c n p) (trained : Bool) :
    d.laneRetry c n trained = d := by
  have second : 0 < edgesMs 1000 := by decide
  have skipped : ¬ (d.laneState n = 4 ∧ d.fld F.MAC_PORT_CFG_enable p = 1 ∧
      ¬ c.phys - (d.lane n).failedAt < edgesMs 1000) := by
    rintro ⟨failed, enabled, passed⟩
    exact early ⟨failed, enabled, by omega⟩
  simp only [not_and_or, not_not] at skipped
  unfold Dev.laneRetry
  rw [if_pos (by simpa [ethernet, port, Dev.flag_eq, or_assoc] using skipped)]

end Sys2Proof.Machine

namespace Sys2Proof.Proofs
open Sys2Proof Sys2Proof.Machine

/-- Settles O7: after the lane's own change its port's link is evaluated again, and what is evaluated after the lane
changes no lane and withdraws no event. -/
theorem failedLaneTakesItsPortDown : Obligations.FailedLaneTakesItsPortDown := by
  unfold Obligations.FailedLaneTakesItsPortDown
  intro s n p forwards ethernet port
  refine ⟨fun cause up linked => ?_, fun failed enabled passed => ?_, fun trained early => ?_⟩
  · obtain ⟨link, event⟩ := Dev.laneFailed_takes_link_down s.clk cause port linked
    have squelch := Dev.rclkEval_keepsLanes ((s.dev.laneFailed s.clk n cause).lanePort s.clk n) s.clk
    have after := (Dev.lanePort_keepsLanes (s.dev.laneFailed s.clk n cause) s.clk n).trans squelch
    refine ⟨_, exec_laneFail_ethernet forwards ethernet up cause, ?_, ?_, ?_, squelch.pending _ event, ?_⟩
    · rw [Dev.rclkEval_lanePort_laneState, Dev.laneFailed_laneState]
    · exact ((Dev.rclkEval_keeps _ _).fld _ _ (by decide)).trans link
    · exact after.pending _ (Dev.laneFailed_pends _ _ _ _)
    · rw [after.lane, Dev.laneFailed_failedAt]
  · have due : s.dev.RetryDue s.clk n p := ⟨failed, enabled, passed⟩
    refine ⟨⟨_, exec_laneRetryTraining_forwards forwards true, ?_⟩,
      _, exec_laneRetryTraining_forwards forwards false, ?_⟩
    · rw [Dev.laneRetry_due port due, if_pos rfl, Dev.laneUp_ethernet s.clk ethernet,
        Dev.rclkEval_lanePort_laneState, Dev.laneRegained_laneState]
    · rw [Dev.laneRetry_due port due]
      exact ⟨failed, by simp⟩
  · have notDue : ¬ s.dev.RetryDue s.clk n p := by
      rintro ⟨failed, enabled, passed⟩
      omega
    rw [exec_laneRetryTraining_forwards forwards, Dev.laneRetry_not_due ethernet port notDue]

end Sys2Proof.Proofs

/-! Ember holds (R395, R396, R399): what the fate of a held packet leaves of the streams, the holds and the events, and
what a stream that goes down makes of its die's hold. -/
namespace Sys2Proof.Machine

/-! ### Operations that leave the streams alone -/

/-- No stream comes up or goes down, no packet joins a hold, and no pending event is withdrawn. -/
structure Dev.KeepsStreams (d e : Dev) : Prop where
  up : e.twn.up = d.twn.up
  held : e.twn.held ⊆ d.twn.held
  pending : ∀ x, d.evtPending x = true → e.evtPending x = true

namespace Dev.KeepsStreams

theorem refl (d : Dev) : d.KeepsStreams d := ⟨rfl, List.Subset.refl _, fun _ hx => hx⟩

theorem trans {d e f : Dev} (h : d.KeepsStreams e) (k : e.KeepsStreams f) : d.KeepsStreams f :=
  ⟨k.up.trans h.up, List.Subset.trans k.held h.held, fun x hx => k.pending x (h.pending x hx)⟩

variable {d e : Dev}

/-- The streams, the holds and the pending bits depend on two parts of the device. -/
theorem of_same {f : Dev} (h : d.KeepsStreams e) (twn : f.twn = e.twn) (regs : f.regs = e.regs) : d.KeepsStreams f := by
  refine h.trans ⟨by rw [twn], by rw [twn]; exact List.Subset.refl _, fun x hx => ?_⟩
  rw [← Dev.pendingAt_regs, regs]
  exact hx

theorem msix (h : d.KeepsStreams e) (x : MsixSt) : d.KeepsStreams { e with msix := x } := h.of_same rfl rfl
theorem net (h : d.KeepsStreams e) (x : NetSt) : d.KeepsStreams { e with net := x } := h.of_same rfl rfl
theorem bpm (h : d.KeepsStreams e) (x : BpmSt) : d.KeepsStreams { e with bpm := x } := h.of_same rfl rfl
theorem pkts (h : d.KeepsStreams e) (x : Tbl Pkt) : d.KeepsStreams { e with pkts := x } := h.of_same rfl rfl
theorem flw (h : d.KeepsStreams e) (x : FlwSt) : d.KeepsStreams { e with flw := x } := h.of_same rfl rfl
theorem swp (h : d.KeepsStreams e) (x : SwpSt) : d.KeepsStreams { e with swp := x } := h.of_same rfl rfl
theorem nat (h : d.KeepsStreams e) (x : NatSt) : d.KeepsStreams { e with nat := x } := h.of_same rfl rfl

theorem twn (h : d.KeepsStreams e) (x : TwnSt) (up : x.up = e.twn.up := by rfl) (held : x.held = e.twn.held := by rfl) :
    d.KeepsStreams { e with twn := x } :=
  ⟨up.trans h.up, by rw [held]; exact h.held, h.pending⟩

theorem setPkt (h : d.KeepsStreams e) (x : Pkt) : d.KeepsStreams (e.setPkt x) := h.of_same rfl rfl
theorem modPkt (h : d.KeepsStreams e) (id : Nat) (f : Pkt → Pkt) : d.KeepsStreams (e.modPkt id f) := h.of_same rfl rfl
theorem setPipe (h : d.KeepsStreams e) (p : Nat) (x : PipeSt) : d.KeepsStreams (e.setPipe p x) := h.of_same rfl rfl
theorem setLink (h : d.KeepsStreams e) (g : Nat) (l : Link) : d.KeepsStreams (e.setLink g l) := h.of_same rfl rfl
theorem setFifo (h : d.KeepsStreams e) (f : Nat) (x : Fifo) : d.KeepsStreams (e.setFifo f x) := h.of_same rfl rfl
theorem setWay (h : d.KeepsStreams e) (b s w : Nat) (x : Option Way) : d.KeepsStreams (e.setWay b s w x) :=
  h.of_same rfl rfl
theorem setConns (h : d.KeepsStreams e) (b n : Nat) : d.KeepsStreams (e.setConns b n) :=
  h.of_same (Dev.setTw_twn ..) (Dev.setTw_regs ..)

theorem foldl {α : Type} {f : Dev → α → Dev} (h : d.KeepsStreams e) (l : List α)
    (step : ∀ e a, d.KeepsStreams e → d.KeepsStreams (f e a)) : d.KeepsStreams (l.foldl f e) :=
  List.foldlRecOn l f h fun e he a _ => step e a he

/-! ### Registers, events and the outbox -/

theorem put (h : d.KeepsStreams e) (f : Fld) (ix v : Nat) (hf : (f.reg == .EVT_PEND) = false := by rfl) :
    d.KeepsStreams (e.put f ix v) :=
  h.trans ⟨by rw [Dev.put_twn], by rw [Dev.put_twn]; exact List.Subset.refl _,
    fun x hx => (e.put_evtPending f ix v x hf).trans hx⟩

theorem putB (h : d.KeepsStreams e) (f : Fld) (ix : Nat) (b : Bool) (hf : (f.reg == .EVT_PEND) = false := by rfl) :
    d.KeepsStreams (e.putB f ix b) := h.put _ _ _ hf

theorem bump (h : d.KeepsStreams e) (f : Fld) (ix n : Nat) (hf : (f.reg == .EVT_PEND) = false := by rfl) :
    d.KeepsStreams (e.bump f ix n) := h.put _ _ _ hf

theorem bumpSat (h : d.KeepsStreams e) (f : Fld) (ix : Nat) (hf : (f.reg == .EVT_PEND) = false := by rfl) :
    d.KeepsStreams (e.bumpSat f ix) := h.put _ _ _ hf

theorem peak (h : d.KeepsStreams e) (f : Fld) (ix v : Nat) (hf : (f.reg == .EVT_PEND) = false := by rfl) :
    d.KeepsStreams (e.peak f ix v) := h.put _ _ _ hf

theorem emit (h : d.KeepsStreams e) (o : Out) : d.KeepsStreams (e.emit o) := h.of_same rfl rfl

theorem raise (h : d.KeepsStreams e) (c : Clock) (v : Ev) (k i : Nat) (data : List (Nat × Nat) := [])
    (sev : Option Nat := none) : d.KeepsStreams (e.raise c v k i data sev) :=
  h.trans ⟨by rw [Dev.raise_twn], by rw [Dev.raise_twn]; exact List.Subset.refl _,
    fun x hx => e.raise_keeps c v k i data sev x hx⟩

theorem raiseLim (h : d.KeepsStreams e) (c : Clock) (v : Ev) (k i : Nat) (data : List (Nat × Nat) := [])
    (ms : Nat := 1) (sev : Option Nat := none) (sub : Nat := 0) :
    d.KeepsStreams (e.raiseLim c v k i data ms sev sub) :=
  h.trans ⟨by rw [Dev.raiseLim_twn], by rw [Dev.raiseLim_twn]; exact List.Subset.refl _,
    fun x hx => e.raiseLim_keeps c v k i data ms sev sub x hx⟩

theorem perf (h : d.KeepsStreams e) (die sel : Nat) (inst opc : Option Nat) (n : Nat := 1) :
    d.KeepsStreams (e.perf die sel inst opc n) := by
  unfold Dev.perf
  split
  · exact h
  · refine h.foldl _ fun e ix he => ?_
    split
    · exact he
    · split
      · split
        · exact he.bump _ _ _
        · exact he
      · exact he.bump _ _ _

theorem fire (h : d.KeepsStreams e) (v : Nat) : d.KeepsStreams (e.fire v) := by
  unfold Dev.fire
  split
  · exact h.put _ _ _
  · exact h.emit _

theorem signal (h : d.KeepsStreams e) (c : Clock) (kind n : Nat) : d.KeepsStreams (e.signal c kind n) := by
  unfold Dev.signal Dev.fireRing
  split
  · exact (h.fire _).msix _
  · split
    · exact h
    · exact h.msix _

/-! ### Delivery to the host (R421, R423) -/

theorem rxRing (h : d.KeepsStreams e) (c : Clock) (r : Nat) (i : RxInfo) (data : List Byte) :
    d.KeepsStreams (e.rxRing c r i data).1 := by
  unfold Dev.rxRing
  extract_lets withMeta off head buf withData written headMoved counted
  split
  · split
    · exact h
    · exact (h.bump _ _ _).raiseLim _ _ _ _ _ _
  · split
    · exact h.bump _ _ _
    · have wrote : d.KeepsStreams withData := by
        unfold withData
        split <;> exact h.emit _
      exact ((((wrote.emit _).put _ _ _).bump _ _ _).bump _ _ _).signal _ _ _

theorem rxDeliver (h : d.KeepsStreams e) (c : Clock) (g : Nat) (i : RxInfo) (data : List Byte) :
    d.KeepsStreams (e.rxDeliver c g i data).1 := by
  unfold Dev.rxDeliver
  split
  · split
    · exact h
    · exact (h.bump _ _ _).raiseLim _ _ _ _ _ _
  · exact h.rxRing _ _ _ _

/-! ### Peal links -/

theorem sendCell (h : d.KeepsStreams e) (c : Clock) (g : Nat) (m : PealMsg) : d.KeepsStreams (e.sendCell c g m) :=
  ((h.setLink _ _).bump _ _ _).emit _

theorem drainLink (h : d.KeepsStreams e) (c : Clock) (g n : Nat) : d.KeepsStreams (e.drainLink c g n) := by
  induction n generalizing e with
  | zero => exact h
  | succ n ih =>
    unfold Dev.drainLink
    split
    · exact h
    · split
      · exact h
      · exact ih ((h.setLink _ _).sendCell _ _ _)

theorem pealSend (h : d.KeepsStreams e) (c : Clock) (g : Nat) (m : PealMsg) : d.KeepsStreams (e.pealSend c g m) := by
  unfold Dev.pealSend
  split
  · exact h
  · exact (h.setLink _ _).drainLink _ _ _

/-! ### Segments and the flow control that follows their use -/

theorem pfcEmit (h : d.KeepsStreams e) (c : Clock) (p : Nat) (pfc : Bool) (timers : List (Nat × Nat)) :
    d.KeepsStreams (e.pfcEmit c p pfc timers) := by
  unfold Dev.pfcEmit
  extract_lets mask masked sent
  have put : d.KeepsStreams masked := h.put _ _ _
  split
  · exact (put.emit _).net _
  · exact put.net _

theorem pfcCross (h : d.KeepsStreams e) (c : Clock) (p : Nat) (was now : List Bool) :
    d.KeepsStreams (e.pfcCross c p was now) := by
  unfold Dev.pfcCross
  split
  · exact h
  · split
    · extract_lets gen ch
      split
      · exact h
      · exact h.pfcEmit _ _ _ _
    · extract_lets w n
      split
      · exact h
      · exact h.pfcEmit _ _ _ _
    · exact h

theorem pealPauses (h : d.KeepsStreams e) (c : Clock) (die i : Nat) (before after : List Bool) :
    d.KeepsStreams (e.pealPauses c die i before after) := by
  unfold Dev.pealPauses
  refine h.foldl _ fun e p he => ?_
  dsimp only
  split
  · exact he
  · exact he.pealSend _ _ _

theorem evalPool (h : d.KeepsStreams e) (die k : Nat) : d.KeepsStreams (e.evalPool die k) :=
  ((h.putB _ _ _).put _ _ _).peak _ _ _

theorem evalReq (h : d.KeepsStreams e) (die r : Nat) : d.KeepsStreams (e.evalReq die r) := by
  unfold Dev.evalReq
  extract_lets warn set clear w st marked
  have same : d.KeepsStreams marked := h.bpm _
  exact same.foldl _ fun e k he => (he.put _ _ _).peak _ _ _

theorem evalPrio (h : d.KeepsStreams e) (die i q : Nat) : d.KeepsStreams (e.evalPrio die i q) :=
  ((h.putB _ _ _).put _ _ _).peak _ _ _

theorem warnChanged (h : d.KeepsStreams e) (c : Clock) (d0 : Dev) (die : Nat) :
    d.KeepsStreams (e.warnChanged c d0 die) := by
  unfold Dev.warnChanged
  extract_lets warned changed signals after paused
  have pauses : d.KeepsStreams paused :=
    (h.putB _ _ _).foldl _ fun e i he => (he.pealPauses _ _ _ _ _).foldl _ fun e p he => he.pfcCross _ _ _ _
  split
  · exact pauses
  · exact pauses.raiseLim _ _ _ _

theorem warnEval (h : d.KeepsStreams e) (c : Clock) (die k : Nat) (owners : List Nat) (prios : List (Nat × Nat)) :
    d.KeepsStreams (e.warnEval c die k owners prios) :=
  (((h.evalPool _ _).foldl _ fun _ _ he => he.evalReq _ _).foldl _ fun _ _ he => he.evalPrio _ _ _).warnChanged _ _ _

theorem freeCapture (h : d.KeepsStreams e) (die kind r hd : Nat) : d.KeepsStreams (e.freeCapture die kind r hd) := by
  unfold Dev.freeCapture
  split
  · exact h.bumpSat _ _
  · exact ((((h.put _ _ _).put _ _ _).put _ _ _).put _ _ _).put _ _ _

/-- A free that is refused is counted, captured and evented. -/
theorem freeRefused (h : d.KeepsStreams e) (c : Clock) (die n kind r hd : Nat) (v : Ev) (data : List (Nat × Nat)) :
    d.KeepsStreams (((e.bpmCnt die n).freeCapture die kind r hd).raise c v 1 die data) :=
  ((h.bump _ _ _).freeCapture _ _ _ _).raise _ _ _ _ _

theorem segFree (h : d.KeepsStreams e) (c : Clock) (hd r : Nat) : d.KeepsStreams (e.segFree c hd r) := by
  unfold Dev.segFree
  extract_lets key die
  split
  · exact h.freeRefused _ _ _ _ _ _ _ _
  · split
    · exact h.freeRefused _ _ _ _ _ _ _ _
    · split
      · exact h.freeRefused _ _ _ _ _ _ _ _
      · split
        · exact h.bpm _
        · split
          · exact h.freeRefused _ _ _ _ _ _ _ _
          · split
            · exact (((h.bpm _).bump _ _ _).raise _ _ _ _ _).warnEval _ _ _ _ _
            · exact (h.bpm _).warnEval _ _ _ _ _

theorem segRelease (h : d.KeepsStreams e) (c : Clock) (seg : Option (Nat × Nat)) :
    d.KeepsStreams (e.segRelease c seg) := by
  unfold Dev.segRelease
  split
  · exact h.segFree _ _ _
  · exact h

/-! ### Packets that leave (R170, R172, R205) -/

theorem leaveDomain (h : d.KeepsStreams e) (id : Nat) : d.KeepsStreams (e.leaveDomain id) := by
  unfold Dev.leaveDomain
  split
  · exact h
  · split
    · exact h
    · exact (h.put _ _ _).setPkt _

theorem pktGone (h : d.KeepsStreams e) (c : Clock) (id : Nat) : d.KeepsStreams (e.pktGone c id) := by
  unfold Dev.pktGone
  split
  · exact h
  · exact (((h.leaveDomain _).setPipe _ _).segRelease _ _).pkts _

theorem punt (h : d.KeepsStreams e) (c : Clock) (id group reason : Nat) (shed : Nat) (bytes : Option (List Byte)) :
    d.KeepsStreams (e.punt c id group reason shed bytes) := by
  unfold Dev.punt
  split
  · exact h
  · exact (h.rxDeliver _ _ _ _).pktGone _ _

theorem holdEval (h : d.KeepsStreams e) (c : Clock) (die before : Nat) : d.KeepsStreams (e.holdEval c die before) := by
  unfold Dev.holdEval
  extract_lets n occupied w
  have put : d.KeepsStreams occupied := (h.put _ _ _).peak _ _ _
  split
  · exact put.raise _ _ _ _
  · exact put

theorem freeHold (h : d.KeepsStreams e) (c : Clock) (id : Nat) : d.KeepsStreams (e.freeHold c id) := by
  unfold Dev.freeHold
  split
  · exact h
  · split
    · exact h
    · exact (h.setPkt _).holdEval _ _ _

theorem flowDrop (h : d.KeepsStreams e) (c : Clock) (id : Nat) : d.KeepsStreams (e.flowDrop c id) :=
  (h.freeHold _ _).pktGone _ _

theorem recirculate (h : d.KeepsStreams e) (c : Clock) (id : Nat) (bytes : List Byte) :
    d.KeepsStreams (e.recirculate c id bytes) := by
  unfold Dev.recirculate
  split
  · exact h
  · extract_lets p pass s
    split
    · exact ((h.bump _ _ _).raiseLim _ _ _ _).pktGone _ _
    · exact (((h.bump _ _ _).perf _ _ _ _).setPkt _).setPipe _ _

theorem toDispatch (h : d.KeepsStreams e) (c : Clock) (id : Nat) : d.KeepsStreams (e.toDispatch c id) := by
  unfold Dev.toDispatch
  split
  · exact h
  · exact ((h.freeHold _ _).modPkt _ _).setPipe _ _

theorem shedPolicy (h : d.KeepsStreams e) (c : Clock) (id die cls reason : Nat) (stop0 : Bool) :
    d.KeepsStreams (e.shedPolicy c id die cls reason stop0) := by
  unfold Dev.shedPolicy
  extract_lets freed
  have free : d.KeepsStreams freed := h.freeHold _ _
  split
  · split
    · exact free.pktGone _ _
    · exact (free.modPkt _ _).toDispatch _ _
  · have token : d.KeepsStreams (freed.takePunt c die cls).1 := free.flw _
    dsimp only
    split
    · exact (token.bump _ _ _).punt _ _ _ _ _ _
    · exact (token.bump _ _ _).pktGone _ _
  · exact free.pktGone _ _

theorem shedCount (h : d.KeepsStreams e) (c : Clock) (die cls reason : Nat) :
    d.KeepsStreams (e.shedCount c die cls reason) := by
  unfold Dev.shedCount
  extract_lets counted evented
  have shed : d.KeepsStreams evented := (h.bump _ _ _).raiseLim _ _ _ _ _ _ _ _
  split
  · exact shed.raiseLim _ _ _ _ _ _
  · split
    · exact shed.raiseLim _ _ _ _ _ _
    · exact shed

/-! ### FIFOs and the record of a flow that ends -/

theorem fifStatus (h : d.KeepsStreams e) (f : Nat) : d.KeepsStreams (e.fifStatus f) := by
  unfold Dev.fifStatus
  extract_lets x part words counted midway
  have put : d.KeepsStreams midway := ((h.put _ _ _).put _ _ _).putB _ _ _
  split
  · exact put.put _ _ _
  · exact put

theorem fifDeliver (h : d.KeepsStreams e) (c : Clock) (f n : Nat) : d.KeepsStreams (e.fifDeliver c f n) := by
  induction n generalizing e with
  | zero => exact h
  | succ n ih =>
    unfold Dev.fifDeliver
    split
    · exact h
    · extract_lets info
      dsimp only
      split
      · exact h.rxDeliver _ _ _ _
      · exact ih ((((h.rxDeliver _ _ _ _).setFifo _ _).put _ _ _).bump _ _ _)

theorem fifWake (h : d.KeepsStreams e) (c : Clock) (f : Nat) : d.KeepsStreams (e.fifWake c f) := by
  unfold Dev.fifWake
  extract_lets x woken
  have wake : d.KeepsStreams woken := h.setFifo _ _
  split
  · exact (wake.fifDeliver _ _ _).fifStatus _
  · exact wake.fifStatus _

theorem fifWhole (h : d.KeepsStreams e) (c : Clock) (f : Nat) (i : FItem) : d.KeepsStreams (e.fifWhole c f i) := by
  unfold Dev.fifWhole
  extract_lets x queued
  have queue : d.KeepsStreams queued := h.setFifo _ _
  split
  · exact queue.fifWake _ _
  · exact queue.fifStatus _

theorem fifPush (h : d.KeepsStreams e) (c : Clock) (f p : Nat) (words : List Word) :
    d.KeepsStreams (e.fifPush c f p words).1 := by
  unfold Dev.fifPush
  split
  · exact h
  · extract_lets cost taken len
    split
    · exact h
    · split
      · exact h.bump _ _ _
      · exact (h.put _ _ _).fifWhole _ _ _

theorem exportEnd (h : d.KeepsStreams e) (c : Clock) (die : Nat) (r : FlowRec) (i : Img) (reason : Nat) :
    d.KeepsStreams (e.exportEnd c die r i reason) := by
  have pushed : d.KeepsStreams (e.exportPush c die (4096 + die) r i reason).1 := h.fifPush _ _ _ _
  unfold Dev.exportEnd
  split
  · exact h
  · dsimp only
    split
    · exact pushed
    · exact (pushed.bump _ _ _).raiseLim _ _ _ _ _ _

/-! ### Flow records, their bindings and their waiters -/

theorem indexDrop (h : d.KeepsStreams e) (die record : Nat) : d.KeepsStreams (e.indexDrop die record) := by
  unfold Dev.indexDrop Dev.hbmAccess
  dsimp only
  split
  · exact h.flw _
  · exact (h.flw _).foldl _ fun e ch he => he.perf _ _ _ _

theorem dropAlias (h : d.KeepsStreams e) (b : Nat) (x : HEntry) : d.KeepsStreams (e.dropAlias b x) := by
  unfold Dev.dropAlias
  split
  · split
    · exact h.setWay _ _ _ _
    · exact h
  · exact h

theorem dropEntry (h : d.KeepsStreams e) (b s w : Nat) : d.KeepsStreams (e.dropEntry b s w) := by
  unfold Dev.dropEntry
  split
  · exact (h.dropAlias _ _).setWay _ _ _ _
  · exact h

theorem natStatus (h : d.KeepsStreams e) : d.KeepsStreams e.natStatus :=
  h.foldl _ fun _ _ he => (he.put _ _ _).put _ _ _

theorem subCount (h : d.KeepsStreams e) (n : Nat) (a : List Byte) (up : Bool) : d.KeepsStreams (e.subCount n a up) := by
  unfold Dev.subCount Dev.subSet
  exact (h.nat _).natStatus

theorem quarantine (h : d.KeepsStreams e) (c : Clock) (die : Nat) (i : Img) :
    d.KeepsStreams (e.quarantine c die i) := by
  unfold Dev.quarantine
  extract_lets counted q
  have count : d.KeepsStreams counted := h.bump _ _ _
  split
  · exact ((count.bump _ _ _).raiseLim _ _ _ _ _ _).nat _
  · exact (count.nat _).natStatus

theorem releaseBinding (h : d.KeepsStreams e) (c : Clock) (die : Nat) (i : Img) :
    d.KeepsStreams (e.releaseBinding c die i) := by
  unfold Dev.releaseBinding
  extract_lets unbound
  have snat : d.KeepsStreams unbound := by
    unfold unbound
    split
    · exact (h.quarantine _ _ _).subCount _ _ _
    · exact h
  split
  · exact snat.setConns _ _
  · exact snat

theorem joinMiss (h : d.KeepsStreams e) (die : Nat) (k : List Byte) (id : Nat) :
    d.KeepsStreams (e.joinMiss die k id) := by
  unfold Dev.joinMiss
  extract_lets waiting
  split
  · exact (h.modPkt _ _).flw _
  · exact (h.modPkt _ _).flw _

theorem takeHold (h : d.KeepsStreams e) (c : Clock) (id die cls : Nat) : d.KeepsStreams (e.takeHold c id die cls) :=
  (h.modPkt _ _).holdEval _ _ _

theorem missNew (h : d.KeepsStreams e) (c : Clock) (die : Nat) (x : Pkt) : d.KeepsStreams (e.missNew c die x) := by
  unfold Dev.missNew
  extract_lets k m cls holding counted
  split
  · exact (h.shedCount _ _ _ _).shedPolicy _ _ _ _ _ _
  · have hold : d.KeepsStreams holding := by
      unfold holding
      split
      · exact h
      · exact h.takeHold _ _ _ _
    have count : d.KeepsStreams counted := by
      unfold counted
      split
      · exact hold
      · exact hold.bump _ _ _
    refine KeepsStreams.joinMiss ?_ _ _ _
    split
    · exact count
    · exact count.perf _ _ _ _

theorem relookup (h : d.KeepsStreams e) (c : Clock) (w : Waiter) : d.KeepsStreams (e.relookup c w) := by
  unfold Dev.relookup
  split
  · split
    · exact h.missNew _ _ _
    · exact h
  · exact h.swp _

/-! ### Entries of a stream (R389, R391, R394, R399) -/

theorem setUnacked (h : d.KeepsStreams e) (die : Nat) (l : List EmberMsg) : d.KeepsStreams (e.setUnacked die l) :=
  h.twn _

theorem setBacklog (h : d.KeepsStreams e) (die : Nat) (l : List EmberMsg) : d.KeepsStreams (e.setBacklog die l) := by
  unfold Dev.setBacklog
  exact (h.twn _).put _ _ _

theorem lagEval (h : d.KeepsStreams e) (c : Clock) (die : Nat) : d.KeepsStreams (e.lagEval c die) := by
  unfold Dev.lagEval
  extract_lets l measured
  have lag : d.KeepsStreams measured := h.put _ _ _
  split
  · exact (lag.twn _).raiseLim _ _ _ _
  · exact lag

theorem emberOut (h : d.KeepsStreams e) (c : Clock) (die : Nat) (m : EmberMsg) :
    d.KeepsStreams (e.emberOut c die m) := by
  unfold Dev.emberOut
  extract_lets stamped kept counted
  have sent : d.KeepsStreams counted :=
    (((h.setUnacked _ _).put _ _ _).bump _ _ _).perf _ _ _ _
  split
  · exact (sent.pealSend _ _ _).lagEval _ _
  · exact sent

theorem toBacklog (h : d.KeepsStreams e) (c : Clock) (die : Nat) (m : EmberMsg) :
    d.KeepsStreams (e.toBacklog c die m) := by
  unfold Dev.toBacklog
  extract_lets used first lost st overflowed
  split
  · exact (h.setBacklog _ _).bump _ _ _
  · have mark : d.KeepsStreams lost := (h.bump _ _ _).put _ _ _
    have full : d.KeepsStreams overflowed := mark.twn _
    split
    · exact full.raise _ _ _ _
    · exact full

theorem emberEntry (h : d.KeepsStreams e) (c : Clock) (die kind : Nat) (body : List Byte) :
    d.KeepsStreams (e.emberEntry c die kind body).1 := by
  unfold Dev.emberEntry
  extract_lets seq m
  split
  · exact h
  · split
    · exact h.emberOut _ _ _
    · exact h.toBacklog _ _ _

theorem journal (h : d.KeepsStreams e) (c : Clock) (die kind : Nat) (i : Img) (body : List Byte) :
    d.KeepsStreams (e.journal c die kind i body).1 := by
  unfold Dev.journal
  split
  · exact h
  · exact h.emberEntry _ _ _ _

theorem deleteFlow (h : d.KeepsStreams e) (c : Clock) (die record : Nat) (idle journaled : Bool) :
    d.KeepsStreams (e.deleteFlow c die record idle journaled) := by
  unfold Dev.deleteFlow
  split
  · extract_lets reason exported place unindexed waiters dropped records erased released withdrawn
    clear_value place
    have index : d.KeepsStreams unindexed := (h.exportEnd _ _ _ _ _).indexDrop _ _
    have drop : d.KeepsStreams dropped := by
      unfold dropped
      split
      · exact index.dropEntry _ _ _
      · exact index
    have release : d.KeepsStreams released :=
      ((((drop.flw _).flw _).put _ _ _).bump _ _ _).releaseBinding _ _ _
    have withdraw : d.KeepsStreams withdrawn := by
      unfold withdrawn
      split
      · exact release.journal _ _ _ _ _
      · exact release
    exact withdraw.foldl _ fun _ w he => he.relookup _ w
  · exact h

/-! ### Packets of a hold (R395, R399) -/

theorem holdOcc (h : d.KeepsStreams e) (die : Nat) : d.KeepsStreams (e.holdOcc die) := (h.put _ _ _).peak _ _ _

theorem holdRefused (h : d.KeepsStreams e) (c : Clock) (x : Pkt) (die n seq : Nat) :
    d.KeepsStreams (e.holdRefused c x die n seq) := by
  unfold Dev.holdRefused
  extract_lets fwd deleted waiting withdrawn
  have delete : d.KeepsStreams deleted := h.deleteFlow _ _ _ _ _
  have withdraw : d.KeepsStreams withdrawn := by
    unfold withdrawn
    split
    · exact delete.setBacklog _ _
    · exact delete.emberEntry _ _ _ _
  exact withdraw.shedPolicy _ _ _ _ _ _

end Dev.KeepsStreams

/-- A packet struck from the holds. -/
def Dev.strikeHeld (d : Dev) (id : Nat) : Dev :=
  { d with twn := { d.twn with held := d.twn.held.filter (fun x => x.pkt != id) } }

theorem Dev.mem_strikeHeld {d : Dev} {id : Nat} {x : EmberHeld} :
    x ∈ (d.strikeHeld id).twn.held ↔ x ∈ d.twn.held ∧ x.pkt ≠ id := by
  simp [Dev.strikeHeld]

theorem Dev.strikeHeld_keepsStreams (d : Dev) (id : Nat) : d.KeepsStreams (d.strikeHeld id) :=
  ⟨rfl, List.filter_sublist.subset, fun _ hx => hx⟩

theorem Dev.KeepsStreams.strikeHeld {d e : Dev} (h : d.KeepsStreams e) (id : Nat) :
    (d.strikeHeld id).KeepsStreams (e.strikeHeld id) :=
  ⟨h.up, fun x hx => by
    obtain ⟨member, other⟩ := Dev.mem_strikeHeld.mp hx
    exact Dev.mem_strikeHeld.mpr ⟨h.held member, other⟩, h.pending⟩

/-- A packet that leaves the hold as committed is held no longer, and nothing takes its place. -/
theorem Dev.heldOut_keepsStreams (d : Dev) (c : Clock) (h : EmberHeld) :
    (d.strikeHeld h.pkt).KeepsStreams (d.heldOut c h) := by
  unfold Dev.heldOut
  extract_lets twins struck
  have strike : (d.strikeHeld h.pkt).KeepsStreams struck := (KeepsStreams.refl _).holdOcc _
  split
  · exact strike
  · split
    · exact (strike.setPkt _).setPipe _ _
    · exact strike.punt _ _ _ _ _ _
    · exact strike.recirculate _ _ _
    · exact strike.flowDrop _ _

/-- A shed packet is held no longer, and nothing takes its place. -/
theorem Dev.heldShed_keepsStreams (d : Dev) (c : Clock) (h : EmberHeld) :
    (d.strikeHeld h.pkt).KeepsStreams (d.heldShed c h) := by
  unfold Dev.heldShed
  extract_lets twins struck
  have strike : (d.strikeHeld h.pkt).KeepsStreams struck := (KeepsStreams.refl _).holdOcc _
  split
  · exact strike
  · exact strike.holdRefused _ _ _ _ _

/-- Packets decided one after another are none of them held any longer. -/
theorem Dev.foldl_strikes {f : Dev → EmberHeld → Dev}
    (strikes : ∀ (d : Dev) h, (d.strikeHeld h.pkt).KeepsStreams (f d h)) (hs : List EmberHeld) (d : Dev) :
    d.KeepsStreams (hs.foldl f d) ∧ ∀ x ∈ (hs.foldl f d).twn.held, x ∉ hs := by
  induction hs generalizing d with
  | nil => exact ⟨.refl d, fun _ _ => List.not_mem_nil⟩
  | cons h hs ih =>
    obtain ⟨keeps, gone⟩ := ih (f d h)
    refine ⟨((d.strikeHeld_keepsStreams _).trans (strikes d h)).trans keeps, fun x hx => ?_⟩
    have other : x.pkt ≠ h.pkt := (mem_strikeHeld.mp ((strikes d h).held (keeps.held hx))).2
    exact List.not_mem_cons_of_ne_of_not_mem (fun same => other (congrArg EmberHeld.pkt same)) (gone x hx)

/-! ### A stream goes down (R396, R399) -/

/-- The device when a die's stream has gone down and no held packet has been decided. -/
def Dev.emberMarkedDown (d : Dev) (c : Clock) (die : Nat) : Dev :=
  let twins := { d.twn with up := d.twn.up.setNum ⟨die, 0, 0⟩ 0, holdsOn := d.twn.holdsOn.setNum ⟨die, 0, 0⟩ 0 }
  ({ d with twn := twins }).emberStatus.raise c .TWN_EMBER_DOWN 1 die

theorem Dev.emberMarkedDown_emberUp (d : Dev) (c : Clock) (die : Nat) :
    (d.emberMarkedDown c die).emberUp die = false := by
  simp [Dev.emberMarkedDown, Dev.emberStatus, Dev.emberUp]

theorem Dev.emberMarkedDown_pends (d : Dev) (c : Clock) (die : Nat) :
    (d.emberMarkedDown c die).evtPending Ev.TWN_EMBER_DOWN.code = true :=
  Dev.raise_pends _ _ _ _ _ _ _

theorem Dev.emberMarkedDown_keeps_pending (d : Dev) (c : Clock) (die : Nat) {x : Nat} (hx : d.evtPending x = true) :
    (d.emberMarkedDown c die).evtPending x = true := by
  refine Dev.raise_keeps _ _ _ _ _ _ _ _ ?_
  rw [Dev.emberStatus, Dev.put_evtPending _ _ _ _ _ rfl]
  exact hx

/-- After a stream went down its mark stands, and none of the die's packets is held. -/
theorem Dev.emberDown_of_up {d : Dev} (c : Clock) {die : Nat} (up : d.emberUp die = true) :
    (d.emberMarkedDown c die).KeepsStreams (d.emberDown c die) ∧
      (d.emberDown c die).heldOf die (fun _ => true) = [] := by
  unfold Dev.emberDown
  rw [if_neg (by simp [up])]
  extract_lets twins lowered marked hs
  suffices decided : ∀ e : Dev, marked.KeepsStreams e ∧ (∀ x ∈ e.twn.held, x ∉ hs) →
      marked.KeepsStreams e ∧ e.heldOf die (fun _ => true) = [] by
    split
    · exact decided _ (foldl_strikes (fun e h => e.heldShed_keepsStreams c h) hs marked)
    · refine decided _ (foldl_strikes (fun e h => ?_) hs marked)
      exact (((KeepsStreams.refl e).bump _ _ _).strikeHeld _).trans (Dev.heldOut_keepsStreams _ c h)
  rintro e ⟨keeps, gone⟩
  refine ⟨keeps, List.filter_eq_nil_iff.mpr fun x hx ofDie => gone x hx ?_⟩
  exact List.mem_filter.mpr ⟨keeps.held hx, ofDie⟩

/-- The time a packet may be held (R396). -/
def Dev.syncLimit (d : Dev) : Nat := edgesUs (min (max (d.fld F.TWN_SYNC_CTRL_timeout_us) 10) 10000)

/-- The device when the timeout of a die has been counted and evented. -/
def Dev.syncTimedOut (d : Dev) (c : Clock) (die : Nat) : Dev := (d.twnCnt die 4).raise c .TWN_SYNC_TIMEOUT 1 die

theorem Dev.syncTimeout_of_oldest {d : Dev} (c : Clock) {die : Nat} {h : EmberHeld} {rest : List EmberHeld}
    (oldest : d.heldOf die (fun _ => true) = h :: rest) :
    d.syncTimeout c die =
      if c.phys - h.since < d.syncLimit then d else (d.syncTimedOut c die).emberDown c die := by
  unfold Dev.syncTimeout
  rw [oldest]
  rfl

theorem exec_syncTimeout_forwards {s : State} (forwards : s.dev.forwards = true) (die : Fin 2) :
    exec (.syncTimeout die) s = .next { s with dev := s.dev.syncTimeout s.clk die } := by
  rw [exec_syncTimeout, execSyncTimeout, onFwd_next _ _ forwards]

end Sys2Proof.Machine

namespace Sys2Proof.Proofs
open Sys2Proof Sys2Proof.Machine

/-- Settles O6: the timeout's own event does not touch the streams, so the stream still goes down; what then becomes of
each held packet strikes it from the hold, adds none, and withdraws neither event. -/
theorem syncTimeoutTakesEmberDown : Obligations.SyncTimeoutTakesEmberDown := by
  unfold Obligations.SyncTimeoutTakesEmberDown
  intro s die forwards h rest oldest
  have timeout := Dev.syncTimeout_of_oldest s.clk oldest
  have runs := exec_syncTimeout_forwards forwards die
  refine ⟨fun (late : s.dev.syncLimit ≤ _) up => ⟨_, runs, ?_⟩, fun (early : _ < s.dev.syncLimit) => ?_⟩
  · rw [timeout, if_neg (Nat.not_lt.mpr late)]
    have still : (s.dev.syncTimedOut s.clk die).emberUp die = true := by
      simpa [Dev.syncTimedOut, Dev.twnCnt, Dev.emberUp] using up
    obtain ⟨keeps, released⟩ := Dev.emberDown_of_up s.clk still
    refine ⟨?_, keeps.pending _ (Dev.emberMarkedDown_pends _ _ _), ?_, released⟩
    · exact keeps.pending _ (Dev.emberMarkedDown_keeps_pending _ _ _ (Dev.raise_pends _ _ _ _ _ _ _))
    · rw [Dev.emberUp, keeps.up]
      exact Dev.emberMarkedDown_emberUp _ _ _
  · rw [runs, timeout, if_pos early]

end Sys2Proof.Proofs

/-! REGACC and its scope bit (R457): which device an access leaves, and what a recorded violation (R56) changes. -/
namespace Sys2Proof.Machine

/-! ### The violation recorded in GLB_LOCK_CAPTURE (R56) -/

/-- The fields a recorded violation may change. -/
def lockCaptureFields : List (Fld × Nat) :=
  [(F.GLB_LOCK_CAPTURE_valid, 0), (F.GLB_LOCK_CAPTURE_type, 0), (F.GLB_LOCK_CAPTURE_requester, 0),
    (F.GLB_LOCK_CAPTURE_address, 0), (F.GLB_LOCK_CAPTURE_count, 0)]

theorem Dev.lockCapture_of_free {d : Dev} (free : d.fld F.GLB_LOCK_CAPTURE_valid = 0) (type req addr : Nat) :
    d.lockCapture type req addr =
      ((((d.put F.GLB_LOCK_CAPTURE_valid 0 1).put F.GLB_LOCK_CAPTURE_type 0 type).put
        F.GLB_LOCK_CAPTURE_requester 0 req).put F.GLB_LOCK_CAPTURE_address 0 addr).put F.GLB_LOCK_CAPTURE_count 0 1 :=
  if_neg (by simp [Dev.flag_eq, free])

theorem Dev.lockCapture_of_held {d : Dev} (held : d.fld F.GLB_LOCK_CAPTURE_valid = 1) (type req addr : Nat) :
    d.lockCapture type req addr = d.bumpSat F.GLB_LOCK_CAPTURE_count 0 :=
  if_pos (by simp [Dev.flag_eq, held])

theorem Dev.captureValid_eq_zero_or_one (d : Dev) :
    d.fld F.GLB_LOCK_CAPTURE_valid = 0 ∨ d.fld F.GLB_LOCK_CAPTURE_valid = 1 :=
  Nat.le_one_iff_eq_zero_or_eq_one.mp (Nat.le_of_lt_succ (d.fld_lt F.GLB_LOCK_CAPTURE_valid 0))

theorem Dev.lockCapture_keepsParts (d : Dev) (type req addr : Nat) (ps : List Part) :
    d.KeepsParts (d.lockCapture type req addr) ps := by
  obtain free | held := d.captureValid_eq_zero_or_one
  · rw [Dev.lockCapture_of_free free]
    exact (((((KeepsParts.refl d ps).put _ _ _).put _ _ _).put _ _ _).put _ _ _).put _ _ _
  · rw [Dev.lockCapture_of_held held]
    exact (KeepsParts.refl d ps).put _ _ _

theorem Dev.lockCapture_keepsFields (d : Dev) (type req addr : Nat) (events : Bool) :
    d.KeepsFields (d.lockCapture type req addr) events lockCaptureFields := by
  have same := KeepsFields.refl d events lockCaptureFields
  obtain free | held := d.captureValid_eq_zero_or_one
  · rw [Dev.lockCapture_of_free free]
    exact ((((same.put _ _ _ rfl (by decide)).put _ _ _ rfl (by decide)).put _ _ _ rfl (by decide)).put _ _ _ rfl
      (by decide)).put _ _ _ rfl (by decide)
  · rw [Dev.lockCapture_of_held held]
    exact same.put _ _ _ rfl (by decide)

/-- The first violation sets every field of the capture. -/
theorem Dev.lockCapture_sets {d : Dev} (free : d.fld F.GLB_LOCK_CAPTURE_valid = 0) {type req addr : Nat}
    (ht : type < 2 ^ 2) (hr : req < 2 ^ 4) (ha : addr < 2 ^ 27) : let e := d.lockCapture type req addr
    e.fld F.GLB_LOCK_CAPTURE_valid = 1 ∧ e.fld F.GLB_LOCK_CAPTURE_type = type ∧
      e.fld F.GLB_LOCK_CAPTURE_requester = req ∧ e.fld F.GLB_LOCK_CAPTURE_address = addr ∧
      e.fld F.GLB_LOCK_CAPTURE_count = 1 := by
  rw [Dev.lockCapture_of_free free]
  refine ⟨?_, ?_, ?_, ?_, Dev.fld_put_small _ _ _ _ rfl (by decide)⟩ <;>
    simp (disch := decide) only [Dev.fld_put_apart]
  · exact Dev.fld_put_small _ _ _ _ rfl (by decide)
  · exact Dev.fld_put_small _ _ _ _ rfl ht
  · exact Dev.fld_put_small _ _ _ _ rfl hr
  · exact Dev.fld_put_small _ _ _ _ rfl ha

/-- A later violation is counted, up to all ones, and leaves the first one recorded. -/
theorem Dev.lockCapture_counts {d : Dev} (held : d.fld F.GLB_LOCK_CAPTURE_valid = 1) (type req addr : Nat) :
    let e := d.lockCapture type req addr
    e.fld F.GLB_LOCK_CAPTURE_valid = 1 ∧ e.fld F.GLB_LOCK_CAPTURE_type = d.fld F.GLB_LOCK_CAPTURE_type ∧
      e.fld F.GLB_LOCK_CAPTURE_count = min (d.fld F.GLB_LOCK_CAPTURE_count + 1) 0xFFFF := by
  rw [Dev.lockCapture_of_held held]
  refine ⟨(Dev.fld_put_apart _ _ rfl rfl rfl).trans held, Dev.fld_put_apart _ _ rfl rfl rfl, ?_⟩
  exact Dev.fld_put_small _ _ _ _ rfl (Nat.lt_succ_of_le (Nat.min_le_right _ _))

/-! ### What leaves the device -/

theorem Dev.KeepsParts.emit {d e : Dev} {ps : List Part} (h : d.KeepsParts e ps) (hs : .out ∈ ps) (o : Out) :
    d.KeepsParts (e.emit o) ps := by
  refine h.trans fun p hp => ?_
  cases p
  case out => exact absurd hs hp
  all_goals rfl

theorem Dev.readOut_of_answer {d : Dev} {c : Clock} {req addr size v : Nat} (h : (d.read c req addr size).2 = some v) :
    d.readOut c req addr size = (d.read c req addr size).1.emit (.readData req v) := by
  have answer : d.read c req addr size = ((d.read c req addr size).1, some v) := Prod.ext rfl h
  delta Dev.readOut
  rw [answer]

theorem Dev.readOut_of_silence {d : Dev} {c : Clock} {req addr size : Nat} (h : (d.read c req addr size).2 = none) :
    d.readOut c req addr size = (d.read c req addr size).1 := by
  have silence : d.read c req addr size = ((d.read c req addr size).1, none) := Prod.ext rfl h
  delta Dev.readOut
  rw [silence]

/-! ### REGACC (R457) -/

/-- The device after an access with scope bit 3 closed: the violation recorded, and zero read. -/
def Dev.refusedRegAcc (d : Dev) (write : Bool) (addr : Nat) : Dev :=
  if write then d.lockCapture 2 10 addr else (d.lockCapture 2 10 addr).emit (.readData 10 0)

@[simp] theorem Dev.refusedRegAcc_write (d : Dev) (addr : Nat) : d.refusedRegAcc true addr = d.lockCapture 2 10 addr :=
  if_pos rfl

@[simp] theorem Dev.refusedRegAcc_read (d : Dev) (addr : Nat) :
    d.refusedRegAcc false addr = (d.lockCapture 2 10 addr).emit (.readData 10 0) :=
  if_neg Bool.false_ne_true

section
variable {s : State} (addr size v : Nat)

theorem regAcc_write_of_open (scope : bitOf (s.dev.fld F.SEC_STATUS_scope) 3 = true) :
    regAcc s true addr size v = writeState s 10 addr size v := (if_pos scope).trans (if_pos rfl)

theorem regAcc_read_of_open (scope : bitOf (s.dev.fld F.SEC_STATUS_scope) 3 = true) :
    regAcc s false addr size v = { s with dev := s.dev.readOut s.clk 10 addr size } :=
  (if_pos scope).trans (if_neg Bool.false_ne_true)

theorem regAcc_of_closed (scope : bitOf (s.dev.fld F.SEC_STATUS_scope) 3 = false) (write : Bool) :
    regAcc s write addr size v = { s with dev := s.dev.refusedRegAcc write addr } :=
  if_neg (ne_true_of_eq_false scope)

end

section
variable {s : State} (addr : BitVec 27) (size : Fin 16) (value : Word)

theorem exec_regacc_eq_relink (write : Bool) : exec (.regacc write addr size value) s =
    .next (relink s (regAcc { s with dev := s.dev.jtagSelect 9 } write addr.toNat size value.toNat)) := (rfl)

theorem exec_registerWrite_eq_relink (req : Fin 13) : exec (.registerWrite req addr size value) s =
    .next (relink s (writeState s req addr.toNat size value.toNat)) := (rfl)

/-- The selected JTAG instruction is no part of the links that the Ember streams follow. -/
theorem relink_jtagSelect (t : State) (code : Nat) :
    relink { s with dev := s.dev.jtagSelect code } t = relink s t := rfl

theorem exec_regacc_write_of_open (scope : bitOf (s.dev.fld F.SEC_STATUS_scope) 3 = true) :
    exec (.regacc true addr size value) s =
      exec (.registerWrite 10 addr size value) { s with dev := s.dev.jtagSelect 9 } := by
  rw [exec_regacc_eq_relink, regAcc_write_of_open (s := { s with dev := s.dev.jtagSelect 9 }) _ _ _ scope,
    exec_registerWrite_eq_relink, relink_jtagSelect]
  rfl

theorem exec_regacc_read_of_open (scope : bitOf (s.dev.fld F.SEC_STATUS_scope) 3 = true) :
    exec (.regacc false addr size value) s = .next { s with
      dev := ((s.dev.jtagSelect 9).readOut s.clk 10 addr.toNat size).emberReroute s.dev s.clk } := by
  rw [exec_regacc_eq_relink, regAcc_read_of_open (s := { s with dev := s.dev.jtagSelect 9 }) _ _ _ scope]
  rfl

theorem exec_regacc_of_closed (scope : bitOf (s.dev.fld F.SEC_STATUS_scope) 3 = false) (write : Bool) :
    exec (.regacc write addr size value) s = .next { s with
      dev := ((s.dev.jtagSelect 9).refusedRegAcc write addr.toNat).emberReroute s.dev s.clk } := by
  rw [exec_regacc_eq_relink, regAcc_of_closed (s := { s with dev := s.dev.jtagSelect 9 }) _ _ _ scope]
  rfl

end

theorem Dev.refusedRegAcc_fld (d : Dev) (write : Bool) (addr : Nat) (f : Fld) (ix : Nat) :
    (d.refusedRegAcc write addr).fld f ix = (d.lockCapture 2 10 addr).fld f ix := by
  cases write <;> simp

theorem Dev.refusedRegAcc_keepsParts (d : Dev) (write : Bool) (addr : Nat) :
    d.KeepsParts (d.refusedRegAcc write addr) [.out] := by
  have captured := d.lockCapture_keepsParts 2 10 addr [.out]
  cases write
  · rw [Dev.refusedRegAcc_read]
    exact captured.emit (List.mem_singleton_self _) _
  · rw [Dev.refusedRegAcc_write]
    exact captured

theorem Dev.refusedRegAcc_keepsFields (d : Dev) (write : Bool) (addr : Nat) (events : Bool) :
    d.KeepsFields (d.refusedRegAcc write addr) events lockCaptureFields := by
  intro f ix
  rw [Dev.refusedRegAcc_fld]
  exact d.lockCapture_keepsFields 2 10 addr events f ix

theorem Dev.refusedRegAcc_out (d : Dev) (write : Bool) (addr : Nat) :
    (d.refusedRegAcc write addr).out = d.out ++ if write then [] else [Out.readData 10 0] := by
  have captured : (d.lockCapture 2 10 addr).out = d.out := d.lockCapture_keepsParts 2 10 addr [] .out (by decide)
  cases write
  · rw [Dev.refusedRegAcc_read, Dev.emit_out, captured]
    rfl
  · rw [Dev.refusedRegAcc_write, captured]
    exact (List.append_nil _).symm

end Sys2Proof.Machine

namespace Sys2Proof.Proofs
open Sys2Proof Sys2Proof.Machine

/-- Settles O5: with the scope bit open REGACC is the write, or the read, of requester 10; with it closed it leaves the
device of `refusedRegAcc`, which holds nothing new but the recorded violation and the zero read. -/
theorem regaccNeedsItsScopeBit : Obligations.RegaccNeedsItsScopeBit := by
  unfold Obligations.RegaccNeedsItsScopeBit
  intro s addr size value j
  refine ⟨fun scope => ⟨exec_regacc_write_of_open addr size value scope, _,
    exec_regacc_read_of_open addr size value scope, ?_⟩, fun scope write => ⟨_,
    exec_regacc_of_closed addr size value scope write, j.refusedRegAcc_keepsParts write _,
    j.refusedRegAcc_out write _, j.refusedRegAcc_keepsFields write _ false, ?_⟩⟩
  · cases answer : (j.read s.clk 10 addr.toNat size).2 with
    | some v =>
      rw [Dev.readOut_of_answer answer]
      exact ⟨(Dev.KeepsParts.refl _ _).emit (List.mem_singleton_self _) _, rfl, rfl⟩
    | none =>
      rw [Dev.readOut_of_silence answer]
      exact ⟨.refl _ _, rfl, (List.append_nil _).symm⟩
  · simp only [Dev.refusedRegAcc_fld]
    exact ⟨fun free => j.lockCapture_sets free (by decide) (by decide) addr.isLt,
      fun held => j.lockCapture_counts held 2 10 addr.toNat⟩

end Sys2Proof.Proofs
